-- ==== Sys2Proof/Word.lean ====
section
/-! DEFINITION. The machine's words: the widths the manual treats as bits, and the plainest conversions between words and
byte lists (R7: multi-byte fields in the device's memories are little-endian; fields on the wire keep network order). -/

namespace Sys2Proof

/-- One byte of any memory of the device. -/
abbrev Byte := BitVec 8

/-- The 32-bit word of a Wenkin core. R202. -/
abbrev Word := BitVec 32

end Sys2Proof
end

