-- ==== Sys2Proof/Syntax.lean ====
section
/-! DEFINITION. The commands: one constructor per row of spec/opcode_table.json, with the operands the row's step needs,
and the operand types. The table gives the rows no bits (log entry 11), so the operands are structured values. -/

namespace Sys2Proof

/-- What a port's line carries as one unit to the receive MAC. R33, R40, R42. -/
inductive RxUnit where
  /-- A whole frame from the first destination-address byte through the FCS; whether the PCS reported a code error. -/
  | frame (bytes : List Byte) (codeError : Bool)
  /-- A fragment of a preemptable frame: good SMD, first of its frame, fragment count, bytes through the mCRC or the FCS, last. -/
  | fragment (smdGood first : Bool) (count : Fin 4) (bytes : List Byte) (last : Bool)
  /-- A verify frame of IEEE 802.3br. -/
  | verify
  /-- A respond frame of IEEE 802.3br. -/
  | respond
deriving DecidableEq, Repr

/-- An image of the parse-graph domain 7010: a native node's key profile, a programmable node, or a transition. R62, R65. -/
inductive GraphImage where
  | native (node profile : BitVec 8)
  /-- In use; fixed length, or length field by bit offset, width, scale and addend; key field; terminal; key profile. -/
  | node (node : BitVec 8) (used : Bool) (fixedLen : Option Nat) (lenBit lenWidth lenScale lenAdd keyBit keyWidth : Nat)
      (terminal : Bool) (profile : Nat)
  | transition (index : BitVec 16) (used : Bool) (fromNode : BitVec 8) (value mask : BitVec 32) (toNode : BitVec 8)
deriving DecidableEq, Repr

/-- An image of the pattern-table domain 7012. R76. -/
structure PatternImage where
  valid : Bool
  bytes : List Byte
  noCase : Bool
  anchor : BitVec 2
  offset : BitVec 12
  range : BitVec 12
  flowValue : BitVec 8
  flowMask : BitVec 8
  action : BitVec 3
deriving DecidableEq, Repr


/-- An image of the Rendezvous domains 7061 to 7064. R299. -/
inductive RdvConfigImage where
  | sem (n : Fin 1024) (word : BitVec 32)
  | chan (n : Fin 1024) (word : BitVec 32)
  | event (n : Fin 1024) (word : BitVec 32)
  | group (g : Fin 16) (members : BitVec 576)
deriving DecidableEq, Repr

/-- The commands the block takes: one constructor per row of the opcode table. Each docstring names its row and rule. -/
inductive Instr where
  /-- MODE_WRITE (R30). -/
  | modeWrite (p : Fin 8) (code : BitVec 8)
  /-- LINK_REPROGRAM_DONE (R30). -/
  | linkReprogramDone (p : Fin 8)
  /-- LINK_STATE_CHANGE (R32). -/
  | linkStateChange (p : Fin 8) (st : Fin 4)
  /-- SGMII_AN_COMPLETE (R54). -/
  | sgmiiAnComplete (speed : Fin 3)
  /-- MAC_RX_FRAME (R33). -/
  | macRxFrame (p : Fin 8) (u : RxUnit) (age : BitVec 32)
  /-- PAUSE_QUANTA_EXPIRY (R46). -/
  | pauseQuantaExpiry (p : Fin 8) (prio : Option (Fin 8))
  /-- BACKPRESSURE_CHANGE (R44). -/
  | backpressureChange (p : Fin 8)
  /-- PAUSE_REFRESH_TIMER (R44). -/
  | pauseRefreshTimer (p : Fin 8)
  /-- PREEMPT_VERIFY_TIMER (R40). -/
  | preemptVerifyTimer (p : Fin 8)
  /-- MAC_TX_END (R34). -/
  | macTxEnd (p : Fin 8)
  /-- CIPHER_SUITE_WRITE (R55). -/
  | cipherSuiteWrite (p : Fin 7) (secy : Fin 64) (suite : BitVec 8)
  /-- MACSEC_SC_WRITE (R48). -/
  | macsecScWrite (p : Fin 7) (sc : Fin 256) (used rx : Bool) (secy : Fin 64) (sci : BitVec 64)
  /-- PARSE_FRAME (R60). -/
  | parseFrame (p : Fin 8)
  /-- CLASSIFY_FRAME (R72). -/
  | classifyFrame (p : Fin 8)
  /-- SCAN_COMPLETE (R78). -/
  | scanComplete (lane : Fin 8)
  /-- PARSE_GRAPH_WRITE (R62). -/
  | parseGraphWrite (g : GraphImage)
  /-- KEY_PROFILE_WRITE (R547). -/
  | keyProfileWrite (p : Fin 16) (image : List Byte)
  /-- RULE_WRITE (R69). -/
  | ruleWrite (pos : Fin 8192) (valid : Bool) (value mask : BitVec 512) (action : BitVec 32)
  /-- PATTERN_WRITE (R76). -/
  | patternWrite (pos : Fin 4096) (im : PatternImage)
  /-- LEARN_INSERT (R98). -/
  | learnInsert (w : Bool)
  /-- AGE_SWEEP_VISIT (R99). -/
  | ageSweepVisit (w : Bool) (slot : Fin 131136)
  /-- BRAMBLE_FIND (R102). -/
  | brambleFind (target : BitVec 8) (image : List Byte)
  /-- BRAMBLE_INSERT (R94). -/
  | brambleInsert (target : BitVec 8) (image : List Byte)
  /-- BRAMBLE_DELETE (R102). -/
  | brambleDelete (target : BitVec 8) (image : List Byte)
  /-- REHASH_START (R105). -/
  | rehashStart (w : Bool)
  /-- REHASH_SWAP (R107). -/
  | rehashSwap (w : Bool)
  /-- REHASH_CANCEL (R105). -/
  | rehashCancel (w : Bool)
  /-- REHASH_COPY_DONE (R107). -/
  | rehashCopyDone (w : Bool)
  /-- BRAMBLE_PROFILE_WRITE (R89). -/
  | brambleProfileWrite (p : Fin 8) (ranges : List (Nat × Nat))
  /-- LODESTAR_STREAM_WRITE (R113). -/
  | lodestarStreamWrite (pos : Fin 1024) (word : BitVec 128)
  /-- LODESTAR_INGRESS_POINT (R116). -/
  | lodestarIngressPoint (p : Fin 7) (window : List Byte) (soon : Bool) (instant : BitVec 32)
  /-- LODESTAR_DELAYED_START (R116). -/
  | lodestarDelayedStart (e : Fin 7) (lead : BitVec 32)
  /-- LODESTAR_HOLD_TX (R118). -/
  | lodestarHoldTx (e : Fin 7) (lead : BitVec 32)
  /-- LODESTAR_VERDICT (R120). -/
  | lodestarVerdict (p : Fin 7) (part : Option (List Byte)) (sent : BitVec 14)
  /-- TICKET_ISSUE (R150). -/
  | ticketIssue (p : Fin 8)
  /-- DISPATCHER_POST (R128). -/
  | dispatcherPost (l : Fin 8) (affinity : BitVec 16) (tag : BitVec 32)
  /-- DISPATCHER_GRANT (R130). -/
  | dispatcherGrant
  /-- PREEMPT_SAVE (R133). -/
  | preemptSave (t : Fin 512)
  /-- DELAY_LIST_INSERT (R137). -/
  | delayListInsert (l : Fin 8) (w : BitVec 128)
  /-- DELAY_LIST_CANCEL (R137). -/
  | delayListCancel (h : BitVec 16)
  /-- DELAY_ENTRY_DUE (R138). -/
  | delayEntryDue (l : Fin 8)
  /-- WAIT_TIMEOUT (R141). -/
  | waitTimeout (t : Fin 580) (second : Bool) (m : Option (Fin 2))
  /-- GAUGE_REFRESH (R143). -/
  | gaugeRefresh
  /-- COMMIT_POST (R154). -/
  | commitPost (t : Fin 512)
  /-- PACKET_END_SAMPLED (R153). -/
  | packetEndSampled (t : Fin 512)
  /-- PACKET_RELEASE (R157). -/
  | packetRelease
  /-- WINDOW_CELL_COPY_DONE (R162). -/
  | windowCellCopyDone (t : Fin 512)
  /-- FAULT_REPORT (R165). -/
  | faultReport (t : Fin 512)
  /-- DRAIN_FENCE_DONE (R165). -/
  | drainFenceDone (j : Fin 4096)
  /-- THREAD_WORK_START (R180). -/
  | threadWorkStart (t : Fin 512)
  /-- WINDOW_COPY_DONE (R180). -/
  | windowCopyDone (t : Fin 512)
  /-- STORE_BUFFER_DRAIN (R190). -/
  | storeBufferDrain (c : Fin 64)
  /-- HELPER_REFUSAL_HOLD_END (R192). -/
  | helperRefusalHoldEnd (t : Fin 512)
  /-- DIVIDE_COMPLETE (R193). -/
  | divideComplete (c : Fin 72)
  /-- REPLY_ARRIVAL (R188). -/
  | replyArrival (t : Fin 580) (second : Bool) (m : Fin 4)
  /-- LOCKSTEP_MISMATCH (R196). -/
  | lockstepMismatch (q : Fin 32)
  /-- THREAD_WATCHDOG_EXPIRY (R198). -/
  | threadWatchdogExpiry (t : Fin 512)
  /-- OPERATING_POINT_WRITE (R16). -/
  | operatingPointWrite (n : Fin 16) (v : BitVec 8)
  /-- OPERATING_POINT_CHANGE_DONE (R16). -/
  | operatingPointChangeDone (n : Fin 16)
  /-- SWITCH (R226). -/
  | switch (n : Fin 16)
  /-- SWITCH_DRAINED (R226). -/
  | switchDrained (n : Fin 16)
  /-- CODE_BANK_LOAD (R226). -/
  | codeBankLoad (n : Fin 16) (image : List (BitVec 8))
  /-- ADD (R236). -/
  | add (t : Fin 580) (rd ra rb : Fin 32) (f : Bool)
  /-- ADDC (R236). -/
  | addc (t : Fin 580) (rd ra rb : Fin 32) (f : Bool)
  /-- SUB (R236). -/
  | sub (t : Fin 580) (rd ra rb : Fin 32) (f : Bool)
  /-- SUBB (R236). -/
  | subb (t : Fin 580) (rd ra rb : Fin 32) (f : Bool)
  /-- NEG (R222). -/
  | neg (t : Fin 580) (rd ra : Fin 32) (f : Bool)
  /-- CMP (R236). -/
  | cmp (t : Fin 580) (ra rb : Fin 32)
  /-- AND (R236). -/
  | and (t : Fin 580) (rd ra rb : Fin 32) (f : Bool)
  /-- OR (R236). -/
  | or (t : Fin 580) (rd ra rb : Fin 32) (f : Bool)
  /-- XOR (R236). -/
  | xor (t : Fin 580) (rd ra rb : Fin 32) (f : Bool)
  /-- ANDN (R236). -/
  | andn (t : Fin 580) (rd ra rb : Fin 32) (f : Bool)
  /-- NOT (R236). -/
  | not (t : Fin 580) (rd ra : Fin 32) (f : Bool)
  /-- SHL (R224). -/
  | shl (t : Fin 580) (rd ra rb : Fin 32) (f : Bool)
  /-- SHR (R224). -/
  | shr (t : Fin 580) (rd ra rb : Fin 32) (f : Bool)
  /-- ASR (R224). -/
  | asr (t : Fin 580) (rd ra rb : Fin 32) (f : Bool)
  /-- ROR (R224). -/
  | ror (t : Fin 580) (rd ra rb : Fin 32) (f : Bool)
  /-- ROL (R236). -/
  | rol (t : Fin 580) (rd ra rb : Fin 32) (f : Bool)
  /-- MIN (R236). -/
  | min (t : Fin 580) (rd ra rb : Fin 32)
  /-- MAX (R236). -/
  | max (t : Fin 580) (rd ra rb : Fin 32)
  /-- MINU (R236). -/
  | minu (t : Fin 580) (rd ra rb : Fin 32)
  /-- MAXU (R236). -/
  | maxu (t : Fin 580) (rd ra rb : Fin 32)
  /-- SLT (R236). -/
  | slt (t : Fin 580) (rd ra rb : Fin 32)
  /-- SLTU (R236). -/
  | sltu (t : Fin 580) (rd ra rb : Fin 32)
  /-- CLZ (R236). -/
  | clz (t : Fin 580) (rd ra : Fin 32)
  /-- POPC (R236). -/
  | popc (t : Fin 580) (rd ra : Fin 32)
  /-- BSWAP (R236). -/
  | bswap (t : Fin 580) (rd ra : Fin 32)
  /-- BSWAPH (R236). -/
  | bswaph (t : Fin 580) (rd ra : Fin 32)
  /-- SEXTB (R236). -/
  | sextb (t : Fin 580) (rd ra : Fin 32)
  /-- SEXTH (R236). -/
  | sexth (t : Fin 580) (rd ra : Fin 32)
  /-- ZEXTH (R236). -/
  | zexth (t : Fin 580) (rd ra : Fin 32)
  /-- MUL (R223). -/
  | mul (t : Fin 580) (rd ra rb : Fin 32) (f : Bool)
  /-- MULH (R223). -/
  | mulh (t : Fin 580) (rd ra rb : Fin 32)
  /-- MULHU (R223). -/
  | mulhu (t : Fin 580) (rd ra rb : Fin 32)
  /-- DIV (R222). -/
  | div (t : Fin 580) (rd ra rb : Fin 32)
  /-- DIVU (R222). -/
  | divu (t : Fin 580) (rd ra rb : Fin 32)
  /-- DADD (R225). -/
  | dadd (t : Fin 580) (rd ra rb : Fin 32)
  /-- DADDC (R225). -/
  | daddc (t : Fin 580) (rd ra rb : Fin 32)
  /-- DSUB (R225). -/
  | dsub (t : Fin 580) (rd ra rb : Fin 32)
  /-- BIN2BCD (R225). -/
  | bin2bcd (t : Fin 580) (rd ra : Fin 32)
  /-- BCD2BIN (R225). -/
  | bcd2bin (t : Fin 580) (rd ra : Fin 32)
  /-- DIGASC (R225). -/
  | digasc (t : Fin 580) (rd ra : Fin 32)
  /-- ASCDIG (R225). -/
  | ascdig (t : Fin 580) (rd ra : Fin 32)
  /-- ADDI (R238). -/
  | addi (t : Fin 580) (rd ra : Fin 32) (imm : BitVec 16)
  /-- ANDI (R238). -/
  | andi (t : Fin 580) (rd ra : Fin 32) (imm : BitVec 16)
  /-- ORI (R238). -/
  | ori (t : Fin 580) (rd ra : Fin 32) (imm : BitVec 16)
  /-- XORI (R238). -/
  | xori (t : Fin 580) (rd ra : Fin 32) (imm : BitVec 16)
  /-- SHLI (R238). -/
  | shli (t : Fin 580) (rd ra : Fin 32) (imm : BitVec 16)
  /-- SHRI (R238). -/
  | shri (t : Fin 580) (rd ra : Fin 32) (imm : BitVec 16)
  /-- ASRI (R238). -/
  | asri (t : Fin 580) (rd ra : Fin 32) (imm : BitVec 16)
  /-- RORI (R238). -/
  | rori (t : Fin 580) (rd ra : Fin 32) (imm : BitVec 16)
  /-- LUI (R238). -/
  | lui (t : Fin 580) (rd : Fin 32) (imm : BitVec 16)
  /-- CMPI (R238). -/
  | cmpi (t : Fin 580) (ra : Fin 32) (imm : BitVec 16)
  /-- LB (R240). -/
  | lb (t : Fin 580) (rd ra : Fin 32) (imm : BitVec 16)
  /-- LBU (R240). -/
  | lbu (t : Fin 580) (rd ra : Fin 32) (imm : BitVec 16)
  /-- LH (R240). -/
  | lh (t : Fin 580) (rd ra : Fin 32) (imm : BitVec 16)
  /-- LHU (R240). -/
  | lhu (t : Fin 580) (rd ra : Fin 32) (imm : BitVec 16)
  /-- LW (R240). -/
  | lw (t : Fin 580) (rd ra : Fin 32) (imm : BitVec 16)
  /-- LD (R240). -/
  | ld (t : Fin 580) (rd ra : Fin 32) (imm : BitVec 16)
  /-- SB (R240). -/
  | sb (t : Fin 580) (rd ra : Fin 32) (imm : BitVec 16)
  /-- SH (R240). -/
  | sh (t : Fin 580) (rd ra : Fin 32) (imm : BitVec 16)
  /-- SW (R240). -/
  | sw (t : Fin 580) (rd ra : Fin 32) (imm : BitVec 16)
  /-- SD (R240). -/
  | sd (t : Fin 580) (rd ra : Fin 32) (imm : BitVec 16)
  /-- BEXT (R241). -/
  | bext (t : Fin 580) (rd : Fin 32) (wm1 : Fin 32) (b : BitVec 16)
  /-- BINS (R241). -/
  | bins (t : Fin 580) (rd : Fin 32) (wm1 : Fin 32) (b : BitVec 16)
  /-- BSETF (R241). -/
  | bsetf (t : Fin 580) (wm1 : Fin 32) (b : BitVec 16)
  /-- BCLRF (R241). -/
  | bclrf (t : Fin 580) (wm1 : Fin 32) (b : BitVec 16)
  /-- BEXTR (R241). -/
  | bextr (t : Fin 580) (rd ra rb : Fin 32)
  /-- BINSR (R241). -/
  | binsr (t : Fin 580) (rd ra rb : Fin 32)
  /-- BBS (R241). -/
  | bbs (t : Fin 580) (b off : BitVec 13)
  /-- BBC (R241). -/
  | bbc (t : Fin 580) (b off : BitVec 13)
  /-- BEQ (R242). -/
  | beq (t : Fin 580) (ra rb : Fin 32) (off : BitVec 16)
  /-- BNE (R242). -/
  | bne (t : Fin 580) (ra rb : Fin 32) (off : BitVec 16)
  /-- BLT (R242). -/
  | blt (t : Fin 580) (ra rb : Fin 32) (off : BitVec 16)
  /-- BGE (R242). -/
  | bge (t : Fin 580) (ra rb : Fin 32) (off : BitVec 16)
  /-- BLTU (R242). -/
  | bltu (t : Fin 580) (ra rb : Fin 32) (off : BitVec 16)
  /-- BGEU (R242). -/
  | bgeu (t : Fin 580) (ra rb : Fin 32) (off : BitVec 16)
  /-- BCC (R242). -/
  | bcc (t : Fin 580) (cond : Fin 16) (off : BitVec 16)
  /-- JAL (R243). -/
  | jal (t : Fin 580) (rd : Fin 32) (idx : BitVec 15)
  /-- JALR (R243). -/
  | jalr (t : Fin 580) (rd ra : Fin 32) (imm : BitVec 16)
  /-- LOOP (R244). -/
  | loop (t : Fin 580) (ra : Fin 32) (len : BitVec 16)
  /-- LOOPI (R244). -/
  | loopi (t : Fin 580) (count : BitVec 10) (len : BitVec 16)
  /-- PKTFWD (R245). -/
  | pktfwd (t : Fin 580) (ra : Fin 32) (imm : BitVec 16)
  /-- PKTDROP (R245). -/
  | pktdrop (t : Fin 580) (ra : Fin 32) (imm : BitVec 16)
  /-- PKTMC (R245). -/
  | pktmc (t : Fin 580) (ra : Fin 32) (imm : BitVec 16)
  /-- WORKDONE (R246). -/
  | workdone (t : Fin 580)
  /-- CPOST (R246). -/
  | cpost (t : Fin 580) (rs rb : Fin 32) (n : Fin 8) (p : Fin 2)
  /-- DINS (R246). -/
  | dins (t : Fin 580) (rs ra : Fin 32) (p : Fin 2)
  /-- DCAN (R246). -/
  | dcan (t : Fin 580) (ra : Fin 32) (p : Fin 2)
  /-- LOCK (R278). -/
  | lock (t : Fin 580) (ra rb : Fin 32) (p : Fin 2)
  /-- TRYLOCK (R278). -/
  | trylock (t : Fin 580) (ra : Fin 32) (p : Fin 2)
  /-- UNLOCK (R279). -/
  | unlock (t : Fin 580) (ra : Fin 32) (p : Fin 2)
  /-- CLRABND (R280). -/
  | clrabnd (t : Fin 580) (ra : Fin 32) (p : Fin 2)
  /-- SEMWAIT (R281). -/
  | semwait (t : Fin 580) (ra rb : Fin 32) (p : Fin 2)
  /-- SEMSIG (R282). -/
  | semsig (t : Fin 580) (ra rs : Fin 32) (p : Fin 2)
  /-- CHSEND (R289). -/
  | chsend (t : Fin 580) (ra rs rb : Fin 32) (n : Fin 8) (p : Fin 2)
  /-- CHRECV (R290). -/
  | chrecv (t : Fin 580) (ra rs rb : Fin 32) (p : Fin 2)
  /-- EVSET (R291). -/
  | evset (t : Fin 580) (ra : Fin 32) (p : Fin 2)
  /-- EVCLR (R291). -/
  | evclr (t : Fin 580) (ra : Fin 32) (p : Fin 2)
  /-- EVWAIT (R291). -/
  | evwait (t : Fin 580) (ra rb : Fin 32) (p : Fin 2)
  /-- EVSUB (R292). -/
  | evsub (t : Fin 580) (ra : Fin 32) (p : Fin 2)
  /-- EVUNSUB (R292). -/
  | evunsub (t : Fin 580) (ra : Fin 32) (p : Fin 2)
  /-- AFADD (R283). -/
  | afadd (t : Fin 580) (ra rb : Fin 32) (p : Fin 2)
  /-- ACAS (R283). -/
  | acas (t : Fin 580) (ra rb rs : Fin 32) (p : Fin 2)
  /-- ASWP (R283). -/
  | aswp (t : Fin 580) (ra rs : Fin 32) (p : Fin 2)
  /-- MFC (R248). -/
  | mfc (t : Fin 580) (r : Fin 32) (n : Fin 4) (x : Fin 64)
  /-- MTC (R248). -/
  | mtc (t : Fin 580) (r : Fin 32) (n : Fin 4) (x : Fin 64)
  /-- MFS (R249). -/
  | mfs (t : Fin 580) (r1 : Fin 32) (n : Fin 32)
  /-- MTS (R215). -/
  | mts (t : Fin 580) (r1 : Fin 32) (n : Fin 32)
  /-- ERET (R217). -/
  | eret (t : Fin 580)
  /-- WFE (R189). -/
  | wfe (t : Fin 580) (mask : BitVec 7) (r2 : Fin 32)
  /-- DMADB (R249). -/
  | dmadb (t : Fin 580) (r1 r2 : Fin 32)
  /-- LPCLR (R249). -/
  | lpclr (t : Fin 580)
  /-- SYSCALL (R250). -/
  | syscall (t : Fin 580) (imm : BitVec 16)
  /-- HELPER_OP_START (R256). -/
  | helperOpStart (n : Fin 16) (h : Fin 4)
  /-- HELPER_OP_COMPLETE (R258). -/
  | helperOpComplete (t : Fin 512) (second : Bool) (h : Fin 4)
  /-- GCM_ENC (R262). -/
  | gcmEnc (t : Fin 512)
  /-- GCM_DEC (R263). -/
  | gcmDec (t : Fin 512)
  /-- GMAC (R262). -/
  | gmac (t : Fin 512)
  /-- SHAKE128 (R262). -/
  | shake128 (t : Fin 512)
  /-- SHAKE256 (R262). -/
  | shake256 (t : Fin 512)
  /-- SHA3_256 (R262). -/
  | sha3_256 (t : Fin 512)
  /-- SHA3_512 (R262). -/
  | sha3_512 (t : Fin 512)
  /-- KMAC256 (R262). -/
  | kmac256 (t : Fin 512)
  /-- CRC32 (R265). -/
  | crc32 (t : Fin 512)
  /-- CRC32C (R265). -/
  | crc32c (t : Fin 512)
  /-- CRC8 (R265). -/
  | crc8 (t : Fin 512)
  /-- CRC16 (R265). -/
  | crc16 (t : Fin 512)
  /-- CRC32_F4AC (R265). -/
  | crc32F4ac (t : Fin 512)
  /-- CRC64 (R265). -/
  | crc64 (t : Fin 512)
  /-- CRCPROG (R265). -/
  | crcprog (t : Fin 512)
  /-- CSUM (R265). -/
  | csum (t : Fin 512)
  /-- CSUMUPD (R265). -/
  | csumupd (t : Fin 512)
  /-- BR_FIND (R266). -/
  | brFind (t : Fin 512)
  /-- RT_SEARCH (R266). -/
  | rtSearch (t : Fin 512)
  /-- BR_INSERT (R266). -/
  | brInsert (t : Fin 512)
  /-- BR_DELETE (R266). -/
  | brDelete (t : Fin 512)
  /-- SCAN (R268). -/
  | scan (t : Fin 512)
  /-- QUIESCENCE_WAKE (R296). -/
  | quiescenceWake (g : Fin 16)
  /-- RENDEZVOUS_CONFIG_WRITE (R299). -/
  | rendezvousConfigWrite (w : RdvConfigImage)
  /-- ATOMIC_MEMORY_WRITE (R285). -/
  | atomicMemoryWrite (w : Fin 8192) (v : BitVec 64)
  /-- ORCHARD_RELEASE (R307). -/
  | orchardRelease (owner : Fin 12) (h : BitVec 24)
  /-- ORCHARD_FREE (R307). -/
  | orchardFree (dma : Bool) (h : BitVec 24)
  /-- RECLAIM (R313). -/
  | reclaim (h : BitVec 24)
  /-- RECLAIM_ALL (R313). -/
  | reclaimAll
  /-- RECOVER (R314). -/
  | recover
  /-- RECOVER_DONE (R314). -/
  | recoverDone
  /-- CLAIM (R315). -/
  | claim (base : BitVec 24) (count : BitVec 32)
  /-- UNCLAIM (R315). -/
  | unclaim (base : BitVec 24) (count : BitVec 32)
  /-- PILOT_REGION_WRITE (R315). -/
  | pilotRegionWrite (h : BitVec 24) (image : List Byte)
  /-- SPILL_MIGRATE (R316). -/
  | spillMigrate (h : BitVec 24)
  /-- SPILL_READ_DONE (R317). -/
  | spillReadDone (h : BitVec 24)
  /-- CHRONO_TICK (R324). -/
  | chronoTick
  /-- RATE_ADJUST_WRITE (R322). -/
  | rateAdjustWrite (d : Fin 4) (v : BitVec 32)
  /-- STEP_OFFSET_WRITE (R322). -/
  | stepOffsetWrite (d : Fin 4) (v : BitVec 64)
  /-- PPS_IN_EDGE (R327). -/
  | ppsInEdge (quarter : Fin 32)
  /-- PPS_MISSED (R327). -/
  | ppsMissed
  /-- PPS_OUT_EDGE (R330). -/
  | ppsOutEdge
  /-- PPS_OUT_FALL (R330). -/
  | ppsOutFall
  /-- TM_HANDOVER (R332). -/
  | tmHandover
  /-- TM_LINK_DOWN_DISCARD (R334). -/
  | tmLinkDownDiscard (p : Fin 8)
  /-- TM_TX_SELECT (R344). -/
  | tmTxSelect (p : Fin 8) (sent : BitVec 14) (lead : BitVec 32)
  /-- GATE_EVENT (R340). -/
  | gateEvent (p : Fin 8)
  /-- CONFIG_CHANGE (R341). -/
  | configChange (p : Fin 8) (v : BitVec 8)
  /-- CONFIG_CHANGE_APPLY (R341). -/
  | configChangeApply (p : Fin 8)
  /-- FRER_RESET_TIMEOUT (R338). -/
  | frerResetTimeout (f : Fin 1024)
  /-- PTP_TS_READ (R326). -/
  | ptpTsRead (p : Fin 8)
  /-- GATE_LIST_WRITE (R340). -/
  | gateListWrite (p : Fin 8) (operational : Bool) (entry : Fin 256) (word : BitVec 64)
  /-- STREAM_QUEUE_WRITE (R331). -/
  | streamQueueWrite (pos : Fin 512) (word : BitVec 64)
  /-- STREAM_FILTER_WRITE (R335). -/
  | streamFilterWrite (pos : Fin 2048) (enable : Bool) (maxSdu : BitVec 16) (blockOnOversize meterEnable : Bool) (meter : Fin 2048)
  /-- FLOW_METER_WRITE (R336). -/
  | flowMeterWrite (pos : Fin 2048) (cir eir : BitVec 32) (cbs ebs : BitVec 24) (coupling dropOnYellow markRed : Bool)
  /-- ATS_SHAPER_WRITE (R339). -/
  | atsShaperWrite (pos : Fin 512) (cir cbs maxResidence : BitVec 32)
  /-- FRER_RECOVERY_WRITE (R338). -/
  | frerRecoveryWrite (pos : Fin 1024) (history : BitVec 8) (timeout : BitVec 16) (takeNoSeq strip : Bool)
  /-- CLEAR_BLOCK (R335). -/
  | clearBlock (pos : Fin 2048)
  /-- CLEAR_RED (R336). -/
  | clearRed (pos : Fin 2048)
  /-- MULTICAST_GROUP_WRITE (R161). -/
  | multicastGroupWrite (g : Fin 1024) (image : BitVec 64)
  /-- HALT (R353). -/
  | halt (p : Fin 4)
  /-- RUN (R353). -/
  | run (p : Fin 4)
  /-- BARREL_CODE_LOAD (R353). -/
  | barrelCodeLoad (p : Fin 4) (image : List (BitVec 8))
  /-- PIN_CONFIG_WRITE (R360). -/
  | pinConfigWrite (pin : Fin 64) (w : BitVec 32)
  /-- BARREL_WATCHDOG_EXPIRY (R358). -/
  | barrelWatchdogExpiry (b : Fin 64)
  /-- SET (R361). -/
  | set (b : Fin 64)
  /-- GET (R361). -/
  | get (b : Fin 64)
  /-- EDGE (R361). -/
  | edge (b : Fin 64)
  /-- GSET (R361). -/
  | gset (b : Fin 64)
  /-- NOW (R361). -/
  | now (b : Fin 64)
  /-- KICK (R361). -/
  | kick (b : Fin 64)
  /-- TIMED_SET_APPLY (R362). -/
  | timedSetApply
  /-- PIN_EDGE_CAPTURE (R362). -/
  | pinEdgeCapture (pin : Fin 64) (level : Bool)
  /-- TXPUSH (R364). -/
  | txpush (b : Fin 64)
  /-- RXPOP (R364). -/
  | rxpop (b : Fin 64)
  /-- ACKARM (R367). -/
  | ackarm (b : Fin 64)
  /-- SETSTATE (R364). -/
  | setstate (b : Fin 64)
  /-- TXABORT (R364). -/
  | txabort (b : Fin 64)
  /-- ASSIST_EVENT (R363). -/
  | assistEvent (u e : Fin 16) (w : BitVec 32) (n : Fin 33) (last : Bool)
  /-- ACK_SLOT_START (R367). -/
  | ackSlotStart (u : Fin 16)
  /-- UPSUB (R369). -/
  | upsub (b : Fin 64)
  /-- BATCH_TIMEOUT (R370). -/
  | batchTimeout (k : Fin 8)
  /-- BRIDGE_DOWNLINK (R371). -/
  | bridgeDownlink
  /-- DNTAIL_WRITE (R369). -/
  | dntailWrite (b : Fin 64) (r : Fin 32)
  /-- DRAM_TRAIN_STEP_DONE (R378). -/
  | dramTrainStepDone (c : Fin 2) (ok : Bool)
  /-- REGION_INIT_DONE (R391). -/
  | regionInitDone (r : Fin 8)
  /-- PERIODIC_CAL (R379). -/
  | periodicCal (c : Fin 2)
  /-- DRAM_REQUEST (R380). -/
  | dramRequest (requester : Fin 20) (addr : BitVec 36) (write : Bool) (data : List Byte) (size : Fin 65)
  /-- DRAM_READ_COMPLETE (R385). -/
  | dramReadComplete (c sub : Fin 2)
  /-- DRAM_WRITE_DRAIN (R384). -/
  | dramWriteDrain (c sub : Fin 2)
  /-- DDR_ALERT (R386). -/
  | ddrAlert (c : Fin 2)
  /-- REFRESH_DUE (R390). -/
  | refreshDue (c sub rank : Fin 2)
  /-- REFRESH_WINDOW_END (R388). -/
  | refreshWindowEnd (c sub rank : Fin 2) (b : Fin 32)
  /-- POWER_DOWN_IDLE (R390). -/
  | powerDownIdle (c sub rank : Fin 2)
  /-- PATROL_SCRUB (R385). -/
  | patrolScrub (addr : BitVec 36)
  /-- DRAM_LINE_WRITE (R384). -/
  | dramLineWrite (line : BitVec 30) (image : List Byte)
  /-- DRAM_TIMING_WRITE (R377). -/
  | dramTimingWrite (rec_ : Fin 96) (v : BitVec 32)
  /-- DMA_PILOT_DOORBELL (R400). -/
  | dmaPilotDoorbell (ch : Fin 16) (d : BitVec 256) (pair : Fin 2)
  /-- DMA_ABORT (R404). -/
  | dmaAbort (ch : Fin 16)
  /-- TRANSFER_START (R400). -/
  | transferStart
  /-- TRANSFER_COMPLETE (R405). -/
  | transferComplete
  /-- CQ_TAIL_WRITE (R406). -/
  | cqTailWrite (v : BitVec 16)
  /-- CQ_FULL_TIMEOUT (R406). -/
  | cqFullTimeout
  /-- RNG (R419). -/
  | rng (n : Fin 64)
  /-- LOAD_BLOB (R417). -/
  | loadBlob (blob : BitVec 512)
  /-- MKA_DERIVE (R419). -/
  | mkaDerive (h : BitVec 32) (ckn : BitVec 256) (len : Fin 32)
  /-- MKA_ICV (R419). -/
  | mkaIcv (h : BitVec 32) (mkpdu : List (BitVec 8))
  /-- SAK_NEW (R419). -/
  | sakNew (h : BitVec 32) (long : Bool)
  /-- SAK_UNWRAP (R419). -/
  | sakUnwrap (h : BitVec 32) (wrapped : List (BitVec 8))
  /-- INSTALL_SA (R422). -/
  | installSa (h : BitVec 32) (p secy sc an : BitVec 8) (salt : BitVec 96) (ssci : BitVec 32)
  /-- LOAD_SLOT (R422). -/
  | loadSlot (h : BitVec 32) (cluster slot : BitVec 8)
  /-- DESTROY (R419). -/
  | destroy (h : BitVec 32)
  /-- VERIFY (R425). -/
  | verify (image : List (BitVec 8))
  /-- QUOTE (R431). -/
  | quote (nonce : BitVec 256)
  /-- KWK_EXPORT (R418). -/
  | kwkExport (recipient : BitVec 448)
  /-- LIFE_CYCLE_REQUEST (R411). -/
  | lifeCycleRequest (target : BitVec 8) (role : Fin 4)
  /-- LC_WRITE_DONE (R413). -/
  | lcWriteDone
  /-- QUOTE_NONCE_WRITE (R432). -/
  | quoteNonceWrite (nonce : BitVec 256)
  /-- KWK_EXPORT_RECIPIENT_WRITE (R418). -/
  | kwkExportRecipientWrite (key : BitVec 448) (role : Fin 4)
  /-- OEM_KEY_REVOKE (R414). -/
  | oemKeyRevoke (v : BitVec 32) (role : Fin 4)
  /-- OTP_WRITE (R414). -/
  | otpWrite (w : Fin 512) (v : BitVec 32) (role : Fin 4)
  /-- KEY_BLOB_WRITE (R417). -/
  | keyBlobWrite (pos : Fin 256) (blob : BitVec 512)
  /-- TAMPER_ACTION_WRITE (R434). -/
  | tamperActionWrite (d : Fin 7) (v : BitVec 8)
  /-- TAMPER_TRIP (R433). -/
  | tamperTrip (d : Fin 7)
  /-- ZEROISE (R435). -/
  | zeroise (v : Bool)
  /-- TRNG_HEALTH_FAIL (R420). -/
  | trngHealthFail
  /-- BINNACLE_BOOT (R428). -/
  | binnacleBoot (trng : Bool)
  /-- HELLO (R450). -/
  | hello
  /-- OPEN_KEY (R452). -/
  | openKey
  /-- OPEN_SIG (R452). -/
  | openSig
  /-- CLOSE (R450). -/
  | close
  /-- UDA_READ (R455). -/
  | udaRead
  /-- UDA_WRITE (R442). -/
  | udaWrite
  /-- SEG_READ (R447). -/
  | segRead
  /-- SEG_WRITE (R447). -/
  | segWrite
  /-- SEG_WRITE_TIMEOUT (R447). -/
  | segWriteTimeout (j : Fin 16)
  /-- TABLE_READ (R470). -/
  | tableRead
  /-- TABLE_WRITE (R472). -/
  | tableWrite
  /-- FLASH_IMAGE_LOAD (R426). -/
  | flashImageLoad (copy : Fin 2) (image : List (BitVec 8))
  /-- COMMIT_STAGED (R458). -/
  | commitStaged
  /-- COMMIT_IMAGE (R459). -/
  | commitImage
  /-- COMMIT_EXPORT (R458). -/
  | commitExport
  /-- COMMIT_DONE (R459). -/
  | commitDone (ok : Bool)
  /-- SESSION_OPEN_TIMEOUT (R450). -/
  | sessionOpenTimeout (j : Fin 16)
  /-- SESSION_IDLE_TIMEOUT (R450). -/
  | sessionIdleTimeout (j : Fin 16)
  /-- UDA_CAN_REQUEST (R449). -/
  | udaCanRequest
  /-- DICT_WINDOW_LOAD (R443). -/
  | dictWindowLoad (t : Fin 580)
  /-- DICT_WINDOW_STORE (R443). -/
  | dictWindowStore (t : Fin 580)
  /-- ALMANAC_RECORD_INTAKE (R481). -/
  | almanacRecordIntake (origin : Fin 26)
  /-- ALMANAC_POST (R479). -/
  | almanacPost (image : BitVec 256) (pilot : Bool)
  /-- ALMANAC_CLEAR (R481). -/
  | almanacClear
  /-- FLUSH_DELAY_TIMER (R484). -/
  | flushDelayTimer
  /-- FLUSH_PAGE_DONE (R484). -/
  | flushPageDone (failed : Bool) (status : BitVec 8)
  /-- URGENT_FLUSH_DONE (R485). -/
  | urgentFlushDone
  /-- FLASH_HEAD_SEARCH_DONE (R486). -/
  | flashHeadSearchDone
  /-- AON_TIME_UPDATE (R478). -/
  | aonTimeUpdate
  /-- AON_TIME_TIMEOUT (R478). -/
  | aonTimeTimeout
  /-- TRACE_COUNTER_INTERVAL (R488). -/
  | traceCounterInterval
  /-- TRACE_M0_FRAME_TIMEOUT (R490). -/
  | traceM0FrameTimeout
  /-- MEMORY_PASS_START (R495). -/
  | memoryPassStart
  /-- MEMORY_SLICE (R496). -/
  | memorySlice (faults : List (Fin 64 × Fin 256 × Bool × Bool))
  /-- LOGIC_SLICE_INTERVAL (R499). -/
  | logicSliceInterval
  /-- LOGIC_SLICE_START (R499). -/
  | logicSliceStart (c : Fin 64)
  /-- SLICE_DEFERRED (R499). -/
  | sliceDeferred
  /-- LOGIC_SLICE_DONE (R501). -/
  | logicSliceDone (pass : Bool)
  /-- HELPER_SLICE_DONE (R501). -/
  | helperSliceDone (pass : Bool)
  /-- FULL_TEST (R503). -/
  | fullTest (v : Bool)
  /-- FULL_TEST_DONE (R503). -/
  | fullTestDone (failures : List (BitVec 8 × BitVec 8 × BitVec 32 × BitVec 8 × Bool))
  /-- FAULT_CLASS_WRITE (R504). -/
  | faultClassWrite (pos : Fin 12) (v : BitVec 8)
  /-- SAFETY_FAULT (R504). -/
  | safetyFault (report : Option (Fin 12 × BitVec 16))
  /-- SAFE_RESET_DELAY_EXPIRY (R505). -/
  | safeResetDelayExpiry
  /-- SAFE_RELEASE (R506). -/
  | safeRelease (v : Bool)
  /-- PILOT_KICK (R507). -/
  | pilotKick (pair : BitVec 8)
  /-- PILOT_WATCHDOG_EXPIRY (R507). -/
  | pilotWatchdogExpiry (pair : Fin 2)
  /-- PILOT_LOCKSTEP_MISMATCH (R507). -/
  | pilotLockstepMismatch (pair : Fin 2)
  /-- PILOT_PAIR_RESTARTED (R507). -/
  | pilotPairRestarted (pair : Fin 2)
  /-- DEVICE_KICK (R508). -/
  | deviceKick (v : BitVec 8)
  /-- DEVICE_WD_EXPIRY (R508). -/
  | deviceWdExpiry
  /-- POWER_ON (R521). -/
  | powerOn
  /-- PORST (R521). -/
  | porst (low : Bool)
  /-- RESET_REQUEST (R523). -/
  | resetRequest (v : BitVec 8)
  /-- RESET_REQUEST_DELAY (R523). -/
  | resetRequestDelay
  /-- RESET_RELEASE (R522). -/
  | resetRelease
  /-- PLL_LOCK (R519). -/
  | pllLock (pll : Fin 27)
  /-- PLL_LOCK_TIMEOUT (R519). -/
  | pllLockTimeout (pll : Fin 27)
  /-- PLL_LOSS_OF_LOCK (R519). -/
  | pllLossOfLock (pll : Fin 27)
  /-- BOOT_FIRMWARE_LOADED (R525). -/
  | bootFirmwareLoaded
  /-- BOOT_CONFIG_SELECT (R526). -/
  | bootConfigSelect
  /-- BOOT_CONFIG_APPLY (R525). -/
  | bootConfigApply
  /-- BOOT_CODE_LOAD (R527). -/
  | bootCodeLoad
  /-- BOOT_RUNNING (R525). -/
  | bootRunning
  /-- PWRFAIL_WARNING (R528). -/
  | pwrfailWarning (low : Bool)
  /-- POWER_FAIL_RECOVERY (R529). -/
  | powerFailRecovery
  /-- AVS_STEP_TIMER (R517). -/
  | avsStepTimer
  /-- AVS_MARGIN_ALARM (R517). -/
  | avsMarginAlarm
  /-- AVS_REGULATOR_RESPONSE (R517). -/
  | avsRegulatorResponse
  /-- AVS_REGULATOR_TIMEOUT (R517). -/
  | avsRegulatorTimeout
  /-- TAP_RESET (R535). -/
  | tapReset (low : Bool)
  /-- ALERT_N_HIGH (R386). -/
  | alertNHigh (c : Fin 2)
  /-- WRITE_MAX_AGE_REACHED (R381). -/
  | writeMaxAgeReached (c : Fin 2)
  /-- TRNG_HEALTH_RECOVERY (R420). -/
  | trngHealthRecovery
  /-- ROLLBACK_WRITE_DONE (R427). -/
  | rollbackWriteDone
  /-- FLASH_ERASE_DONE (R484). -/
  | flashEraseDone (failed : Bool) (status : BitVec 8)
  /-- BLOCKING_LOAD_DATA (R188). -/
  | blockingLoadData (t : Fin 580)
deriving DecidableEq, Repr

end Sys2Proof
end

