-- ==== Sys2Proof/Config.lean ====
section
/-! DEFINITION. What the manual leaves open: constants with no body, so that nothing in Lean can evaluate them or prove a
value of them. Each is applied to operands it may depend on or to the state's count of free values taken (log entry 5). -/

namespace Sys2Proof.Config

/-- Which free cell the Orchard hands out next (R310 fixes the pool and the range, never the cell). Log entry 9. -/
opaque cellChoice : Nat → Nat

/-- Random bits of the TRNG (R419, R420, R450): the n-th value drawn. Log entry 5. -/
opaque random : Nat → Nat

/-- A value the manual leaves open at one point of a run, one per count. Log entry 5. -/
opaque freeValue : Nat → Nat

/-- Whether an event whose outcome the manual leaves to the silicon comes about. Log entry 5. -/
opaque freeBool : Nat → Bool

/-- The output of the domain PLL's proportional-integral loop (R328 names bandwidth and damping, no discrete form) and its integral part:
applied to the rate and the integral part before, the phase error in ns and PpsBandwidth. Log entry 19. -/
opaque pllLoop : Int → Int → Int → Nat → Int × Int

/-- The status value of LEVEL_FULL, which R128 names and no rule gives a number. Log entry 14. -/
opaque levelFull : Nat

/-- The status value of REHASH_STALE, which R107 names and no rule gives a number. Log entry 14. -/
opaque rehashStale : Nat

/-- The PUF key of the device (R415), 256 bits. Log entry 5. -/
opaque pufKey : BitVec 256

/-- The Ed448 public key a hash in OTP was made from (R412, R414 store hashes only), 57 bytes by the hash. Log entry 5. -/
opaque publicKeyOf : Nat → BitVec 456

/-- The code of a zeroisation's cause in the detail of 0x1206, which R438 names and no rule codes: by detector, 7 for a write
of Zeroise, 8 for a full test. Log entry 5. -/
opaque zeroiseCause : Nat → Nat

/-- What EntryBytes (R470, a U16) reads in a domain whose images are 65,536 bytes or longer, by domain. Log entry 36. -/
opaque entryBytes : Nat → Nat

/-- The image a table domain stores for a position where no rule gives its layout, as a little-endian number: by domain and the
fields it holds. Log entry 23. -/
opaque tableImage : Nat → List Nat → Nat

/-- A field of such an image, by domain, field and image. Log entry 23. -/
opaque tableField : Nat → Nat → Nat → Nat

/-- What stands for the device root key in the computations of a session where the state has none (BLANK, SCRAPPED; R410, R415, R452),
256 bits. Log entry 43. -/
opaque bootRomSecret : BitVec 256

/-- SHAKE256 of the Ewehan manufacturing key fixed in the boot ROM (R451), 64 bytes. Log entry 43. -/
opaque manufacturingHash : BitVec 512

/-- The voltage an operating point needs at VDD_CORE, in mV (R16, R517 give none). Log entry 5. -/
opaque pointVoltage : Nat → Nat

/-- The IEEE 802.1Qbu frame-preemption status table of a zone port (R39), bit c: class c is preemptable. No rule gives its content, and
no entry, domain or command writes it. Log entry 53. -/
opaque preemptStatus : Nat → BitVec 8

/-- The SFDP table of the boot flash advertises 8D-8D-8D (R543): a property of the device fitted. Log entry 5. -/
opaque bootFlashOctal : Bool

end Sys2Proof.Config
end

