-- ==== Sys2Proof/Machine/Bits.lean ====
section
/-! DEFINITION. Byte-order, bit-field and checksum helpers shared by every block: little-endian fields of the device's
memories (R7), network-order fields of the wire, the CRCs and the Internet checksum the chapters name. Values are `Nat`s
below their width; nothing here wraps silently. -/

namespace Sys2Proof.Machine

/-- Bits `hi` down to `lo` of a number. -/
def bits (x hi lo : Nat) : Nat := (x >>> lo) % 2 ^ (hi + 1 - lo)

/-- Bit `i` as a number. -/
def bit (x i : Nat) : Nat := (x >>> i) % 2

/-- A Bool as 0 or 1. -/
def b2n (b : Bool) : Nat := if b then 1 else 0

/-- The bytes of a number, least significant first (R7). -/
def toLE : Nat → Nat → List Byte
  | 0, _ => []
  | n + 1, x => BitVec.ofNat 8 x :: toLE n (x / 256)

/-- The number a byte list holds, least significant byte first (R7). -/
def ofLE : List Byte → Nat
  | [] => 0
  | b :: bs => b.toNat + 256 * ofLE bs

/-- The number a byte list holds in network order. -/
def ofBE (bs : List Byte) : Nat := bs.foldl (fun a b => a * 256 + b.toNat) 0

/-- The bytes of a number in network order. -/
def toBE (n x : Nat) : List Byte := (toLE n x).reverse

/-- `n` bytes of a list from an offset, with zeros beyond its end. -/
def slice (bs : List Byte) (off n : Nat) : List Byte :=
  let t := (bs.drop off).take n
  t ++ List.replicate (n - t.length) 0#8

/-- A field of `n` bytes in network order at a byte offset; bytes beyond the end read zero. -/
def beAt (bs : List Byte) (off n : Nat) : Nat := ofBE (slice bs off n)

/-- A little-endian field of `n` bytes at a byte offset; bytes beyond the end read zero. -/
def leAt (bs : List Byte) (off n : Nat) : Nat := ofLE (slice bs off n)

/-- The list with `new` written over it at a byte offset (bytes beyond the end are dropped). -/
def patch (bs : List Byte) (off : Nat) (new : List Byte) : List Byte :=
  bs.take off ++ (new.take (bs.length - off)) ++ bs.drop (off + new.length)

/-- Two's complement reading of the low `w` bits. -/
def toSigned (w x : Nat) : Int :=
  let y := x % 2 ^ w
  if y < 2 ^ (w - 1) then (y : Int) else (y : Int) - 2 ^ w

/-- The low `w` bits of an integer, as a number. -/
def ofSigned (w : Nat) (x : Int) : Nat := (x % (2 ^ w : Int)).toNat

/-- The ceiling of a division. -/
def cdiv (a b : Nat) : Nat := (a + b - 1) / b

/-- Bit reversal of the low `w` bits. -/
def bitRev : Nat → Nat → Nat
  | 0, _ => 0
  | w + 1, x => (x % 2) * 2 ^ w + bitRev w (x / 2)

/-- `n` steps of a most-significant-bit-first CRC register of width `w`. -/
def crcSteps (w poly : Nat) : Nat → Nat → Nat
  | 0, r => r
  | n + 1, r =>
    let s := (r * 2) % 2 ^ w
    crcSteps w poly n (if r / 2 ^ (w - 1) % 2 = 1 then s ^^^ poly else s)

/-- A CRC of width `w` over bytes: polynomial, register before, input reflected. No output reflection or final XOR. -/
def crcRun (w poly : Nat) (refIn : Bool) (init : Nat) (bs : List Byte) : Nat :=
  bs.foldl (fun r b =>
    let v := if refIn then bitRev 8 b.toNat else b.toNat
    if 8 ≤ w then crcSteps w poly 8 (r ^^^ (v * 2 ^ (w - 8)))
    else crcSteps 8 (poly * 2 ^ (8 - w)) 8 ((r * 2 ^ (8 - w)) ^^^ v) / 2 ^ (8 - w)) init

/-- A CRC with the usual parameters: width, polynomial, initial value, input and output reflection, final XOR. -/
def crc (w poly init : Nat) (refIn refOut : Bool) (xorOut : Nat) (bs : List Byte) : Nat :=
  let r := crcRun w poly refIn init bs
  (if refOut then bitRev w r else r) ^^^ xorOut

/-- The Ethernet FCS of a byte string (IEEE 802.3 CRC-32), as the little-endian number its four bytes hold. R33. -/
def fcs (bs : List Byte) : Nat := crc 32 0x04C11DB7 0xFFFFFFFF true true 0xFFFFFFFF bs

/-- The CRC-16 of an Almanac record and a trace block. R475, R490. -/
def crc16ccitt (bs : List Byte) : Nat := crc 16 0x1021 0xFFFF false false 0 bs

/-- The ones' complement sum of 16-bit network-order words, an odd last byte padded with zero. -/
def onesSum : List Byte → Nat → Nat
  | [], a => a
  | [b], a => let t := a + b.toNat * 256; t % 65536 + t / 65536
  | b :: c :: r, a => let t := a + b.toNat * 256 + c.toNat; onesSum r (t % 65536 + t / 65536)

/-- The Internet checksum: the complement of the ones' complement sum. -/
def inetChecksum (bs : List Byte) : Nat := 0xFFFF - onesSum bs 0

/-- The positions of the set bits of a number below `n`, ascending. -/
def setBits (n x : Nat) : List Nat := (List.range n).filter (fun i => bit x i = 1)

/-- The number of set bits below position `n`. -/
def popCount (n x : Nat) : Nat := (setBits n x).length

/-- An element put in its place in a list sorted by `le`, after the elements equal to it. -/
def insertBy (le : α → α → Bool) (x : α) : List α → List α
  | [] => [x]
  | y :: r => if le y x then y :: insertBy le x r else x :: y :: r

/-- A list sorted by `le`, elements that compare equal kept in order. -/
def sortBy (le : α → α → Bool) (l : List α) : List α := l.foldl (fun a x => insertBy le x a) []

end Sys2Proof.Machine
end

