-- ==== Sys2Proof/Machine/Dict.lean ====
section
/-! DEFINITION. The Urros dictionary map (R439 to R442, R464 to R469): every scalar entry's index, subindices, type, access
class, default, persistence flag, role and value rule, written from the entry tables of the owning chapters, and a name for
every entry's key. A key is index × 256 + subindex (R9). -/

namespace Sys2Proof.Machine

/-- The key of an entry: its slot number in the window of R9. -/
abbrev dictKey (index sub : Nat) : Nat := index * 256 + sub

/-- The scalar and other types of *Dictionary types*. R439. -/
inductive EType where
  | bool | u8 | u16 | u32 | u64 | i16 | i32 | i64 | bits32 | bits64 | time64
  | octets (n : Nat) | string (n : Nat) | domain
deriving DecidableEq, Repr

/-- The access classes of R440. -/
inductive Acc where
  | const | ro | rc | rw | wo | rws
deriving DecidableEq, Repr

/-- The persistence flag of R441: not persistent, in the configuration bank, in OTP. -/
inductive Persist where
  | no | yes | otp
deriving DecidableEq, Repr

/-- The values an owning chapter admits (R442, check 6), beside those its type admits. -/
inductive VRange where
  | span (lo hi : Int) (step : Nat)
  | oneOf (vs : List Nat)
  | pow2 (lo hi : Nat)
  | ring
  | thread
deriving DecidableEq, Repr

/-- One line of an entry table: `count` records from `base`, `stride` apart, subindices `sub` to `sub + n - 1`.
The default of subindex `sub + j` of record `i` is element `i * n + j` of `dflts`, or the last one. -/
structure EntryRow where
  base : Nat
  count : Nat
  stride : Nat
  sub : Nat
  n : Nat
  ty : EType
  acc : Acc
  dflts : List Nat
  p : Persist
  role : Nat
  range : VRange
  deferred : Bool      -- marked "next reset": a write stores a pending value (R441)
deriving DecidableEq, Repr

/-- Entry rows, part 1. R464 to R469. -/
def entryRows1 : List EntryRow := [
  ⟨0x2000, 8, 16, 0x01, 1, .u8, .rws, [1, 1, 1, 1, 5, 5, 5, 6], .yes, 2, .span 0 7 1, false⟩,
  ⟨0x2000, 8, 16, 0x02, 1, .bool, .rw, [1], .yes, 1, .span 0 1 1, false⟩,
  ⟨0x2000, 8, 16, 0x03, 1, .u16, .rw, [9216], .yes, 2, .span 1518 9216 1, false⟩,
  ⟨0x2000, 8, 16, 0x04, 1, .i32, .rw, [0], .yes, 2, .span (-2147483648) 2147483647 1, false⟩,
  ⟨0x2000, 8, 16, 0x05, 1, .i32, .rw, [0], .yes, 2, .span (-2147483648) 2147483647 1, false⟩,
  ⟨0x2000, 8, 16, 0x06, 1, .u8, .ro, [0], .no, 0, .span 0 255 1, false⟩,
  ⟨0x2000, 8, 16, 0x07, 1, .bits32, .rws, [0], .yes, 2, .span 0 255 1, false⟩,
  ⟨0x2000, 8, 16, 0x08, 1, .u32, .rc, [0], .no, 0, .span 0 4294967295 1, false⟩,
  ⟨0x2000, 8, 16, 0x09, 1, .u8, .rw, [0], .yes, 2, .span 0 2 1, false⟩,
  ⟨0x2000, 8, 16, 0x0A, 1, .u16, .rw, [65535], .yes, 2, .span 0 65535 1, false⟩,
  ⟨0x2000, 8, 16, 0x0B, 1, .u16, .rw, [32768], .yes, 2, .span 0 65535 1, false⟩,
  ⟨0x2000, 8, 16, 0x0C, 1, .bool, .rw, [0], .yes, 2, .span 0 1 1, false⟩,
  ⟨0x2000, 8, 16, 0x0D, 1, .bool, .rw, [0], .yes, 2, .span 0 1 1, false⟩,
  ⟨0x2000, 8, 16, 0x0E, 1, .u8, .rw, [10], .yes, 2, .span 1 128 1, false⟩,
  ⟨0x2000, 8, 16, 0x0F, 1, .u8, .rw, [0], .yes, 2, .span 0 3 1, false⟩,
  ⟨0x2000, 8, 16, 0x10, 1, .u8, .ro, [1], .no, 0, .span 0 255 1, false⟩,
  ⟨0x2000, 8, 16, 0x11, 8, .u16, .rw, [0], .yes, 2, .span 0 65535 1, false⟩,
  ⟨0x2000, 8, 16, 0x19, 1, .u8, .ro, [2], .no, 0, .span 0 255 1, false⟩,
  ⟨0x3000, 1, 1, 0x01, 1, .u16, .const, [512], .no, 0, .span 0 65535 1, false⟩,
  ⟨0x3000, 1, 1, 0x02, 1, .u8, .const, [32], .no, 0, .span 0 255 1, false⟩,
  ⟨0x3000, 1, 1, 0x03, 1, .bool, .rw, [1], .yes, 2, .span 0 1 1, false⟩,
  ⟨0x3000, 1, 1, 0x04, 1, .u8, .rw, [1], .yes, 2, .span 0 1 1, false⟩,
  ⟨0x3000, 1, 1, 0x05, 1, .bits32, .rw, [252], .yes, 2, .span 0 252 1, false⟩,
  ⟨0x3000, 1, 1, 0x06, 1, .u32, .rw, [10000], .yes, 2, .span 1 200000 1, false⟩,
  ⟨0x3000, 1, 1, 0x07, 1, .u16, .rw, [64], .yes, 2, .span 1 4096 1, false⟩,
  ⟨0x3000, 1, 1, 0x08, 1, .u16, .const, [1024], .no, 0, .span 0 65535 1, false⟩,
  ⟨0x3000, 1, 1, 0x09, 1, .u16, .rw, [2048], .yes, 2, .span 64 2048 1, false⟩,
  ⟨0x3000, 1, 1, 0x0A, 1, .u8, .rw, [8], .yes, 2, .span 1 8 1, false⟩,
  ⟨0x3000, 1, 1, 0x0B, 4, .bits64, .rw, [0], .yes, 2, .span 0 18446744073709551615 1, false⟩,
  ⟨0x3000, 1, 1, 0x10, 16, .u16, .rw, [30490, 0], .yes, 2, .span 0 65535 1, false⟩,
  ⟨0x3000, 1, 1, 0x20, 1, .u16, .rw, [13400], .yes, 2, .span 0 65535 1, false⟩,
  ⟨0x3000, 1, 1, 0x21, 8, .u8, .rw, [0], .yes, 2, .span 0 7 1, false⟩,
  ⟨0x3400, 2, 16, 0x01, 1, .u32, .const, [32768], .no, 0, .span 0 4294967295 1, false⟩,
  ⟨0x3400, 2, 16, 0x02, 1, .u8, .const, [64], .no, 0, .span 0 255 1, false⟩,
  ⟨0x3400, 2, 16, 0x03, 1, .u32, .ro, [0], .no, 0, .span 0 4294967295 1, false⟩,
  ⟨0x3400, 2, 16, 0x04, 1, .u32, .ro, [1515870810], .no, 0, .span 0 4294967295 1, false⟩,
  ⟨0x3400, 2, 16, 0x05, 1, .bool, .rw, [1], .yes, 2, .span 0 1 1, false⟩,
  ⟨0x3400, 2, 16, 0x06, 1, .u32, .rw, [100000], .yes, 2, .span 1 1000000 1, false⟩,
  ⟨0x3400, 2, 16, 0x07, 1, .u16, .rw, [256], .yes, 2, .span 1 4096 1, false⟩,
  ⟨0x3400, 2, 16, 0x08, 1, .u16, .rw, [30], .yes, 2, .span 1 3600 1, false⟩]

/-- Entry rows, part 2. R464 to R469. -/
def entryRows2 : List EntryRow := [
  ⟨0x3400, 2, 16, 0x09, 1, .u8, .rw, [10], .yes, 2, .span 1 15 1, false⟩,
  ⟨0x3400, 2, 16, 0x0A, 1, .u8, .rw, [8], .yes, 2, .span 1 16 1, false⟩,
  ⟨0x3400, 2, 16, 0x0B, 4, .u32, .rw, [0], .yes, 2, .span 0 131072 1, false⟩,
  ⟨0x3400, 2, 16, 0x0F, 1, .u8, .ro, [0], .no, 0, .span 0 255 1, false⟩,
  ⟨0x3400, 2, 16, 0x10, 1, .u8, .wo, [0], .no, 2, .span 1 3 1, false⟩,
  ⟨0x3400, 2, 16, 0x11, 1, .u32, .rw, [0], .no, 2, .span 0 4294967295 1, false⟩,
  ⟨0x3400, 2, 16, 0x12, 1, .u32, .rw, [0], .no, 2, .span 0 4294967295 1, false⟩,
  ⟨0x3400, 2, 16, 0x13, 1, .u32, .rw, [0], .no, 2, .span 0 16777215 1, false⟩,
  ⟨0x3400, 2, 16, 0x14, 1, .u32, .ro, [0], .no, 0, .span 0 4294967295 1, false⟩,
  ⟨0x3400, 2, 16, 0x15, 1, .u32, .rw, [0], .no, 2, .span 0 4294967295 1, false⟩,
  ⟨0x3400, 2, 16, 0x16, 1, .u32, .ro, [0], .no, 0, .span 0 4294967295 1, false⟩,
  ⟨0x3400, 2, 16, 0x17, 1, .u32, .ro, [0], .no, 0, .span 0 4294967295 1, false⟩,
  ⟨0x3800, 1, 1, 0x01, 1, .u16, .const, [1024], .no, 0, .span 0 65535 1, false⟩,
  ⟨0x3800, 1, 1, 0x02, 1, .bool, .rw, [1], .yes, 2, .span 0 1 1, false⟩,
  ⟨0x3800, 1, 1, 0x03, 1, .u32, .const, [36864], .no, 0, .span 0 4294967295 1, false⟩,
  ⟨0x3800, 1, 1, 0x04, 1, .u16, .ro, [0], .no, 0, .span 0 65535 1, false⟩,
  ⟨0x3900, 1, 1, 0x01, 1, .u8, .const, [8], .no, 0, .span 0 255 1, false⟩,
  ⟨0x3900, 1, 1, 0x02, 8, .u8, .rws, [3, 3, 2, 2, 2, 1, 1, 0], .yes, 2, .span 0 3 1, true⟩,
  ⟨0x3900, 1, 1, 0x0A, 8, .u16, .rw, [2048], .yes, 2, .span 16 6144 1, false⟩,
  ⟨0x3900, 1, 1, 0x12, 1, .bool, .rw, [1], .yes, 2, .span 0 1 1, false⟩,
  ⟨0x3900, 1, 1, 0x13, 1, .bool, .rws, [1], .yes, 2, .span 0 1 1, true⟩,
  ⟨0x3900, 1, 1, 0x14, 1, .u32, .rw, [1000], .yes, 2, .span 0 100000 1, false⟩,
  ⟨0x3900, 1, 1, 0x15, 1, .u16, .rw, [100], .yes, 2, .span 1 1000 1, false⟩,
  ⟨0x3900, 1, 1, 0x16, 8, .u8, .rw, [0], .yes, 2, .span 0 3 1, false⟩,
  ⟨0x3900, 1, 1, 0x1E, 1, .u16, .const, [2048], .no, 0, .span 0 65535 1, false⟩,
  ⟨0x3900, 1, 1, 0x1F, 1, .u16, .const, [2048], .no, 0, .span 0 65535 1, false⟩,
  ⟨0x3980, 1, 1, 0x01, 1, .u16, .const, [1024], .no, 0, .span 0 65535 1, false⟩,
  ⟨0x3980, 1, 1, 0x02, 1, .u16, .const, [4096], .no, 0, .span 0 65535 1, false⟩,
  ⟨0x3980, 1, 1, 0x03, 1, .u8, .const, [16], .no, 0, .span 0 255 1, false⟩,
  ⟨0x3980, 1, 1, 0x04, 1, .u8, .rw, [1], .yes, 2, .span 0 3 1, false⟩,
  ⟨0x3980, 1, 1, 0x05, 1, .u32, .rw, [1500], .yes, 2, .span 1000 100000 1, false⟩,
  ⟨0x3980, 1, 1, 0x06, 1, .u16, .ro, [0], .no, 0, .span 0 65535 1, false⟩,
  ⟨0x3980, 1, 1, 0x07, 1, .u16, .rc, [0], .no, 0, .span 0 65535 1, false⟩,
  ⟨0x3C00, 1, 1, 0x01, 1, .u8, .const, [64], .no, 0, .span 0 255 1, false⟩,
  ⟨0x3C00, 1, 1, 0x02, 1, .u8, .const, [8], .no, 0, .span 0 255 1, false⟩,
  ⟨0x3C00, 1, 1, 0x03, 1, .bits32, .rws, [255], .yes, 2, .span 0 4294967295 1, true⟩,
  ⟨0x3C00, 1, 1, 0x04, 1, .u8, .const, [2], .no, 0, .span 0 255 1, false⟩,
  ⟨0x3C00, 1, 1, 0x05, 1, .u8, .const, [8], .no, 0, .span 0 255 1, false⟩,
  ⟨0x3C00, 1, 1, 0x06, 1, .u8, .const, [4], .no, 0, .span 0 255 1, false⟩,
  ⟨0x3C00, 1, 1, 0x07, 1, .u8, .ro, [48], .no, 0, .span 0 255 1, false⟩]

/-- Entry rows, part 3. R464 to R469. -/
def entryRows3 : List EntryRow := [
  ⟨0x3C00, 1, 1, 0x08, 1, .u8, .ro, [56], .no, 0, .span 0 255 1, false⟩,
  ⟨0x3C10, 16, 1, 0x01, 1, .u8, .rw, [0], .yes, 2, .span 0 3 1, false⟩,
  ⟨0x3C10, 16, 1, 0x02, 1, .u8, .ro, [0], .no, 0, .span 0 255 1, false⟩,
  ⟨0x3C40, 64, 1, 0x01, 1, .bits64, .rws, [9838263505978427528], .yes, 2, .span 0 18446744073709551615 1, true⟩,
  ⟨0x3C40, 64, 1, 0x02, 8, .u32, .rws, [0], .yes, 2, .span 0 131068 4, true⟩,
  ⟨0x3C40, 64, 1, 0x0A, 8, .u16, .rw, [100], .yes, 2, .span 1 65535 1, false⟩,
  ⟨0x3C80, 64, 1, 0x01, 1, .bits32, .rws, [0], .yes, 2, .span 0 3 1, true⟩,
  ⟨0x3CC0, 16, 1, 0x01, 1, .u8, .ro, [0], .no, 0, .span 0 255 1, false⟩,
  ⟨0x3CC0, 16, 1, 0x02, 1, .u8, .wo, [0], .no, 2, .span 1 1 1, false⟩,
  ⟨0x3CC0, 16, 1, 0x03, 1, .u8, .ro, [0], .no, 0, .span 0 255 1, false⟩,
  ⟨0x3CC0, 16, 1, 0x04, 1, .u8, .ro, [0], .no, 0, .span 0 255 1, false⟩,
  ⟨0x3CD0, 16, 1, 0x01, 1, .bits32, .ro, [0], .no, 0, .span 0 4294967295 1, false⟩,
  ⟨0x3CD0, 16, 1, 0x02, 1, .u8, .const, [4], .no, 0, .span 0 255 1, false⟩,
  ⟨0x3CD0, 16, 1, 0x03, 1, .u8, .const, [4], .no, 0, .span 0 255 1, false⟩,
  ⟨0x3CD0, 16, 1, 0x04, 1, .u8, .const, [16], .no, 0, .span 0 255 1, false⟩,
  ⟨0x3CD0, 16, 1, 0x05, 1, .u8, .const, [2], .no, 0, .span 0 255 1, false⟩,
  ⟨0x3CD0, 16, 1, 0x06, 1, .u8, .const, [16], .no, 0, .span 0 255 1, false⟩,
  ⟨0x4000, 1, 1, 0x01, 1, .u16, .const, [4096], .no, 0, .span 0 65535 1, false⟩,
  ⟨0x4000, 1, 1, 0x02, 1, .u16, .const, [1024], .no, 0, .span 0 65535 1, false⟩,
  ⟨0x4000, 1, 1, 0x03, 1, .u16, .const, [1024], .no, 0, .span 0 65535 1, false⟩,
  ⟨0x4000, 1, 1, 0x04, 1, .u16, .const, [1024], .no, 0, .span 0 65535 1, false⟩,
  ⟨0x4000, 1, 1, 0x05, 1, .u16, .const, [4096], .no, 0, .span 0 65535 1, false⟩,
  ⟨0x4000, 1, 1, 0x06, 1, .u16, .ro, [0], .no, 0, .span 0 65535 1, false⟩,
  ⟨0x4000, 1, 1, 0x07, 1, .u16, .const, [1024], .no, 0, .span 0 65535 1, false⟩,
  ⟨0x4000, 1, 1, 0x08, 1, .bool, .rw, [1], .yes, 2, .span 0 1 1, false⟩,
  ⟨0x4010, 68, 1, 0x01, 1, .bits32, .rws, [65535], .yes, 2, .span 0 65535 1, true⟩,
  ⟨0x4200, 1, 1, 0x01, 1, .u32, .const, [196608], .no, 0, .span 0 4294967295 1, false⟩,
  ⟨0x4200, 1, 1, 0x02, 1, .u32, .rws, [32768], .yes, 2, .span 0 65536 1024, true⟩,
  ⟨0x4200, 1, 1, 0x03, 1, .u32, .ro, [149504], .no, 0, .span 0 4294967295 1, false⟩,
  ⟨0x4200, 1, 1, 0x04, 1, .u64, .rws, [0], .yes, 2, .span 0 18446744073709551615 4096, true⟩,
  ⟨0x4200, 1, 1, 0x05, 1, .u32, .rws, [0], .yes, 2, .span 0 2097152 4096, true⟩,
  ⟨0x4200, 1, 1, 0x06, 1, .u8, .rw, [40], .yes, 2, .span 1 80 1, false⟩,
  ⟨0x4200, 1, 1, 0x07, 1, .u32, .ro, [0], .no, 0, .span 0 4294967295 1, false⟩,
  ⟨0x4200, 1, 1, 0x08, 1, .u32, .ro, [0], .no, 0, .span 0 4294967295 1, false⟩,
  ⟨0x4200, 1, 1, 0x09, 1, .u32, .ro, [0], .no, 0, .span 0 4294967295 1, false⟩,
  ⟨0x4200, 1, 1, 0x0A, 1, .u8, .wo, [0], .no, 2, .span 1 2 1, false⟩,
  ⟨0x4200, 1, 1, 0x0B, 1, .u8, .ro, [0], .no, 0, .span 0 255 1, false⟩,
  ⟨0x4210, 1, 1, 0x01, 64, .u8, .rws, [0, 0, 0, 0, 0, 0, 0, 0, 1, 1, 1, 1, 1, 1, 1, 1, 2, 2, 2, 2, 2, 2, 2, 2, 3, 3, 3, 3, 3, 3, 3, 3, 4, 4, 4, 4, 4, 4, 4, 4, 5, 5, 5, 5, 5, 5, 5, 5, 6, 6, 6, 6, 6, 6, 6, 6, 7, 7, 7, 7, 7, 7, 7, 7], .yes, 2, .span 0 31 1, false⟩,
  ⟨0x4220, 32, 1, 0x01, 1, .bool, .rws, [0], .yes, 2, .span 0 1 1, false⟩,
  ⟨0x4220, 32, 1, 0x02, 1, .u32, .rws, [0], .yes, 2, .span 0 4294967295 1, false⟩]

/-- Entry rows, part 4. R464 to R469. -/
def entryRows4 : List EntryRow := [
  ⟨0x4220, 32, 1, 0x03, 1, .u32, .rw, [8192], .yes, 2, .span 0 4294967295 1, false⟩,
  ⟨0x4220, 32, 1, 0x04, 1, .u32, .rw, [12288], .yes, 2, .span 0 4294967295 1, false⟩,
  ⟨0x4220, 32, 1, 0x05, 1, .u32, .rw, [16384], .yes, 2, .span 0 4294967295 1, false⟩,
  ⟨0x4220, 32, 1, 0x06, 1, .u32, .rw, [1024], .yes, 2, .span 0 4294967295 1, false⟩,
  ⟨0x4220, 32, 1, 0x07, 1, .bool, .rw, [0], .yes, 2, .span 0 1 1, false⟩,
  ⟨0x4220, 32, 1, 0x08, 1, .u32, .rw, [8192], .yes, 2, .span 0 4294967295 1, false⟩,
  ⟨0x4220, 32, 1, 0x09, 1, .u32, .rw, [0], .yes, 2, .span 0 2097152 1, false⟩,
  ⟨0x4220, 32, 1, 0x0A, 1, .u32, .ro, [0], .no, 0, .span 0 4294967295 1, false⟩,
  ⟨0x4220, 32, 1, 0x0B, 1, .u32, .ro, [0], .no, 0, .span 0 4294967295 1, false⟩,
  ⟨0x4220, 32, 1, 0x0C, 1, .u32, .rc, [0], .no, 0, .span 0 4294967295 1, false⟩,
  ⟨0x4220, 32, 1, 0x0D, 1, .bool, .ro, [0], .no, 0, .span 0 1 1, false⟩,
  ⟨0x4400, 1, 1, 0x01, 1, .u8, .const, [4], .no, 0, .span 0 255 1, false⟩,
  ⟨0x4400, 1, 1, 0x02, 1, .i32, .rw, [0], .yes, 2, .span (-2147483648) 2147483647 1, false⟩,
  ⟨0x4400, 1, 1, 0x03, 1, .bool, .rw, [0], .yes, 2, .span 0 1 1, false⟩,
  ⟨0x4400, 1, 1, 0x04, 1, .u8, .rw, [0], .yes, 2, .span 0 3 1, false⟩,
  ⟨0x4400, 1, 1, 0x05, 1, .i32, .rw, [0], .yes, 2, .span (-500000000) 499999999 1, false⟩,
  ⟨0x4400, 1, 1, 0x06, 1, .u32, .rw, [100000], .yes, 2, .span 1 500000 1, false⟩,
  ⟨0x4400, 1, 1, 0x07, 1, .i32, .rw, [0], .yes, 2, .span (-2147483648) 2147483647 1, false⟩,
  ⟨0x4410, 4, 1, 0x01, 1, .time64, .ro, [0], .no, 0, .span 0 18446744073709551615 1, false⟩,
  ⟨0x4410, 4, 1, 0x02, 1, .u8, .rws, [0], .yes, 2, .span 0 1 1, false⟩,
  ⟨0x4410, 4, 1, 0x03, 1, .u8, .ro, [0], .no, 0, .span 0 255 1, false⟩,
  ⟨0x4410, 4, 1, 0x04, 1, .i32, .rw, [0], .no, 1, .span (-1099511627) 1099511627 1, false⟩,
  ⟨0x4410, 4, 1, 0x05, 1, .i64, .wo, [0], .no, 1, .span (-9223372036854775808) 9223372036854775807 1, false⟩,
  ⟨0x4410, 4, 1, 0x06, 1, .u64, .ro, [0], .no, 0, .span 0 18446744073709551615 1, false⟩,
  ⟨0x4410, 4, 1, 0x07, 1, .i32, .ro, [0], .no, 0, .span (-2147483648) 2147483647 1, false⟩,
  ⟨0x4410, 4, 1, 0x08, 1, .u16, .rw, [100], .yes, 2, .span 10 1000 1, false⟩,
  ⟨0x4410, 4, 1, 0x09, 1, .u32, .rw, [100], .yes, 2, .span 1 1000000 1, false⟩,
  ⟨0x4410, 4, 1, 0x0A, 1, .u32, .rw, [1000], .yes, 2, .span 100 500000000 1, false⟩,
  ⟨0x4410, 4, 1, 0x0B, 1, .u8, .rw, [16], .yes, 2, .span 1 64 1, false⟩,
  ⟨0x4420, 8, 1, 0x01, 1, .bits32, .rw, [0], .yes, 2, .span 0 65535 1, false⟩,
  ⟨0x4420, 8, 1, 0x02, 1, .u8, .rw, [0], .yes, 2, .span 0 3 1, false⟩,
  ⟨0x4420, 8, 1, 0x03, 1, .bool, .rw, [0], .yes, 2, .span 0 1 1, false⟩,
  ⟨0x4420, 8, 1, 0x04, 1, .time64, .rw, [0], .yes, 2, .span 0 18446744073709551615 1, false⟩,
  ⟨0x4420, 8, 1, 0x05, 1, .u32, .rw, [1000000], .yes, 2, .span 1000 1000000000 1, false⟩,
  ⟨0x4420, 8, 1, 0x06, 1, .u32, .rw, [0], .yes, 2, .span 0 4294967295 1, false⟩,
  ⟨0x4420, 8, 1, 0x07, 1, .u16, .rw, [0], .yes, 2, .span 0 256 1, false⟩,
  ⟨0x4420, 8, 1, 0x08, 1, .u8, .wo, [0], .no, 2, .span 1 1 1, false⟩,
  ⟨0x4420, 8, 1, 0x09, 1, .time64, .ro, [0], .no, 0, .span 0 18446744073709551615 1, false⟩,
  ⟨0x4420, 8, 1, 0x0A, 1, .bits32, .rw, [0], .yes, 2, .span 0 255 1, false⟩,
  ⟨0x4420, 8, 1, 0x10, 8, .u32, .rw, [0], .yes, 2, .span 0 4294967295 1, false⟩]

/-- Entry rows, part 5. R464 to R469. -/
def entryRows5 : List EntryRow := [
  ⟨0x4420, 8, 1, 0x18, 8, .u32, .rw, [4096], .yes, 2, .span 1 65535 1, false⟩,
  ⟨0x4420, 8, 1, 0x20, 1, .u32, .rw, [1000], .yes, 2, .span 0 1000000 1, false⟩,
  ⟨0x4420, 8, 1, 0x21, 1, .u8, .rw, [0], .yes, 2, .span 0 1 1, false⟩,
  ⟨0x4810, 4, 1, 0x01, 1, .u8, .wo, [0], .no, 2, .span 1 2 1, false⟩,
  ⟨0x4810, 4, 1, 0x02, 16, .u8, .rws, [0], .yes, 2, .span 0 2 1, true⟩,
  ⟨0x4810, 4, 1, 0x12, 16, .u32, .rws, [0], .yes, 2, .span 0 65532 4, true⟩,
  ⟨0x4810, 4, 1, 0x22, 16, .u16, .rw, [0], .yes, 2, .span 0 65535 1, false⟩,
  ⟨0x4810, 4, 1, 0x32, 1, .u8, .ro, [0], .no, 0, .span 0 255 1, false⟩,
  ⟨0x4820, 16, 1, 0x01, 1, .u8, .rws, [0], .yes, 2, .span 0 5 1, true⟩,
  ⟨0x4820, 16, 1, 0x02, 3, .u8, .rws, [0], .yes, 2, .span 0 63 1, false⟩,
  ⟨0x4820, 16, 1, 0x05, 1, .u8, .rws, [0], .yes, 2, .span 0 15 1, false⟩,
  ⟨0x4820, 16, 1, 0x06, 1, .u16, .rw, [800], .yes, 2, .span 16 65535 1, false⟩,
  ⟨0x4820, 16, 1, 0x07, 1, .u16, .rw, [640], .yes, 2, .span 0 65535 1, false⟩,
  ⟨0x4820, 16, 1, 0x08, 1, .u16, .rw, [80], .yes, 2, .span 0 65535 1, false⟩,
  ⟨0x4820, 16, 1, 0x09, 1, .u16, .rw, [100], .yes, 2, .span 80 4095 1, false⟩,
  ⟨0x4820, 16, 1, 0x0A, 1, .u16, .rw, [75], .yes, 2, .span 0 65535 1, false⟩,
  ⟨0x4820, 16, 1, 0x0B, 1, .u16, .rw, [10], .yes, 2, .span 0 65535 1, false⟩,
  ⟨0x4820, 16, 1, 0x0C, 1, .u16, .rw, [50], .yes, 2, .span 0 65535 1, false⟩,
  ⟨0x4820, 16, 1, 0x0D, 1, .u8, .rw, [13], .yes, 2, .span 13 26 1, false⟩,
  ⟨0x4840, 1, 1, 0x01, 1, .u64, .rws, [0], .yes, 2, .span 0 281474976710655 1, false⟩,
  ⟨0x4848, 8, 1, 0x01, 1, .bool, .rw, [0], .yes, 2, .span 0 1 1, false⟩,
  ⟨0x4848, 8, 1, 0x02, 1, .u64, .rw, [0], .yes, 2, .span 0 281474976710655 1, false⟩,
  ⟨0x4848, 8, 1, 0x03, 1, .u16, .rw, [0], .yes, 2, .span 0 65535 1, false⟩,
  ⟨0x4848, 8, 1, 0x04, 1, .u64, .rw, [0], .yes, 2, .span 0 18446744073709551615 1, false⟩,
  ⟨0x4848, 8, 1, 0x05, 1, .u16, .rw, [256], .yes, 2, .span 64 1500 1, false⟩,
  ⟨0x4848, 8, 1, 0x06, 1, .u32, .rw, [0], .yes, 2, .span 0 100000 1, false⟩,
  ⟨0x4848, 8, 1, 0x07, 1, .u8, .rw, [0], .yes, 2, .span 0 3 1, false⟩,
  ⟨0x4860, 8, 1, 0x01, 1, .u8, .rws, [0], .yes, 2, .span 0 15 1, false⟩,
  ⟨0x4860, 8, 1, 0x02, 1, .u8, .rw, [255], .yes, 2, .oneOf [0, 1, 2, 3, 4, 5, 6, 7, 255], false⟩,
  ⟨0x4860, 8, 1, 0x03, 1, .u8, .rw, [0], .yes, 2, .span 0 31 1, false⟩,
  ⟨0x4860, 8, 1, 0x04, 1, .u16, .rws, [0], .yes, 2, .span 0 65535 8, true⟩,
  ⟨0x4860, 8, 1, 0x05, 1, .u16, .rws, [0], .yes, 2, .ring, true⟩,
  ⟨0x4A00, 1, 1, 0x01, 1, .u8, .rws, [0], .yes, 2, .span 0 2 1, true⟩,
  ⟨0x4A00, 1, 1, 0x02, 1, .u8, .rws, [8], .yes, 2, .oneOf [4, 8], true⟩,
  ⟨0x4A00, 1, 1, 0x03, 1, .u8, .rws, [16], .yes, 2, .oneOf [16, 24, 32], true⟩,
  ⟨0x4A00, 1, 1, 0x04, 1, .u8, .rws, [1], .yes, 2, .span 1 2 1, true⟩,
  ⟨0x4A00, 1, 1, 0x05, 1, .u8, .rws, [0], .yes, 2, .span 0 2 1, true⟩,
  ⟨0x4A00, 1, 1, 0x06, 1, .u8, .rws, [0], .yes, 2, .span 0 1 1, true⟩,
  ⟨0x4A00, 1, 1, 0x07, 1, .u8, .ro, [0], .no, 0, .span 0 255 1, false⟩,
  ⟨0x4A00, 1, 1, 0x08, 1, .u8, .ro, [0], .no, 0, .span 0 255 1, false⟩]

/-- Entry rows, part 6. R464 to R469. -/
def entryRows6 : List EntryRow := [
  ⟨0x4A00, 1, 1, 0x09, 1, .u64, .ro, [0], .no, 0, .span 0 18446744073709551615 1, false⟩,
  ⟨0x4A00, 1, 1, 0x0A, 1, .u64, .ro, [0], .no, 0, .span 0 18446744073709551615 1, false⟩,
  ⟨0x4A00, 1, 1, 0x0B, 1, .u16, .rw, [128], .yes, 2, .span 1 1000 1, false⟩,
  ⟨0x4A00, 1, 1, 0x0C, 1, .u8, .rw, [24], .yes, 2, .span 1 168 1, false⟩,
  ⟨0x4A10, 2, 1, 0x01, 1, .u8, .rw, [48], .yes, 2, .span 0 255 1, false⟩,
  ⟨0x4A10, 2, 1, 0x02, 1, .u8, .rw, [16], .yes, 2, .span 0 255 1, false⟩,
  ⟨0x4A10, 2, 1, 0x03, 1, .u32, .rw, [5000], .yes, 2, .span 500 100000 1, false⟩,
  ⟨0x4A10, 2, 1, 0x04, 1, .u8, .rw, [16], .yes, 2, .span 1 64 1, false⟩,
  ⟨0x4A10, 2, 1, 0x05, 1, .u8, .rw, [3], .yes, 2, .span 1 15 1, false⟩,
  ⟨0x4A10, 2, 1, 0x06, 1, .u16, .rw, [8192], .yes, 2, .span 1024 65535 1, false⟩,
  ⟨0x4A10, 2, 1, 0x07, 1, .u16, .rw, [512], .yes, 2, .span 1 8192 1, false⟩,
  ⟨0x4A10, 2, 1, 0x08, 1, .u8, .rw, [2], .yes, 2, .span 1 2 1, false⟩,
  ⟨0x4A10, 2, 1, 0x09, 1, .bool, .rw, [0], .yes, 2, .span 0 1 1, false⟩,
  ⟨0x4A10, 2, 1, 0x0A, 1, .u16, .rw, [1000], .yes, 2, .span 10 10000 1, false⟩,
  ⟨0x4A10, 2, 1, 0x0B, 1, .u16, .rw, [256], .yes, 2, .span 16 65535 1, false⟩,
  ⟨0x4A10, 2, 1, 0x0C, 1, .u8, .rw, [0], .yes, 2, .span 0 1 1, false⟩,
  ⟨0x4A10, 2, 1, 0x0D, 1, .u8, .ro, [0], .no, 0, .span 0 255 1, false⟩,
  ⟨0x4A20, 8, 1, 0x01, 1, .u64, .rws, [0], .yes, 2, .span 0 18446744073709551615 2097152, true⟩,
  ⟨0x4A20, 8, 1, 0x02, 1, .u64, .rws, [0], .yes, 2, .span 0 18446744073709551615 2097152, true⟩,
  ⟨0x4A20, 8, 1, 0x03, 1, .u8, .rws, [0], .yes, 2, .span 0 2 1, true⟩,
  ⟨0x4A20, 8, 1, 0x04, 1, .bool, .rws, [0], .yes, 2, .span 0 1 1, true⟩,
  ⟨0x4A20, 8, 1, 0x05, 1, .u8, .ro, [0], .no, 0, .span 0 255 1, false⟩,
  ⟨0x4C00, 1, 1, 0x01, 1, .u8, .const, [16], .no, 0, .span 0 255 1, false⟩,
  ⟨0x4C00, 1, 1, 0x02, 1, .u64, .rws, [0], .yes, 2, .span 0 18446744073709551615 1, false⟩,
  ⟨0x4C00, 1, 1, 0x03, 1, .u16, .rws, [256], .yes, 2, .pow2 16 4096, false⟩,
  ⟨0x4C00, 1, 1, 0x04, 1, .bool, .rw, [0], .yes, 2, .span 0 1 1, false⟩,
  ⟨0x4C00, 1, 1, 0x05, 1, .u16, .ro, [0], .no, 0, .span 0 65535 1, false⟩,
  ⟨0x4C00, 1, 1, 0x06, 1, .u16, .rw, [0], .no, 1, .span 0 65535 1, false⟩,
  ⟨0x5000, 1, 1, 0x01, 1, .u8, .ro, [0], .no, 0, .span 0 255 1, false⟩,
  ⟨0x5000, 1, 1, 0x02, 1, .u8, .wo, [0], .no, 2, .span 0 255 1, false⟩,
  ⟨0x5000, 1, 1, 0x03, 1, .u8, .ro, [0], .no, 0, .span 0 255 1, false⟩,
  ⟨0x5000, 1, 1, 0x04, 1, .u8, .ro, [0], .no, 0, .span 0 255 1, false⟩,
  ⟨0x5000, 1, 1, 0x05, 1, (.octets 228), .wo, [0], .no, 2, .span 0 0 1, false⟩,
  ⟨0x5000, 1, 1, 0x06, 1, (.octets 8), .ro, [0], .no, 0, .span 0 0 1, false⟩,
  ⟨0x5000, 1, 1, 0x07, 1, (.octets 16), .ro, [0], .no, 0, .span 0 0 1, false⟩,
  ⟨0x5000, 1, 1, 0x08, 1, (.octets 57), .ro, [0], .no, 0, .span 0 0 1, false⟩,
  ⟨0x5000, 1, 1, 0x09, 1, (.octets 57), .ro, [0], .no, 0, .span 0 0 1, false⟩,
  ⟨0x5000, 1, 1, 0x0A, 1, (.octets 114), .ro, [0], .no, 0, .span 0 0 1, false⟩,
  ⟨0x5000, 1, 1, 0x0B, 1, (.octets 16), .wo, [0], .no, 2, .span 0 0 1, false⟩,
  ⟨0x5000, 1, 1, 0x0C, 1, .bits32, .rw, [0], .otp, 2, .span 0 15 1, false⟩]

/-- Entry rows, part 7. R464 to R469. -/
def entryRows7 : List EntryRow := [
  ⟨0x5000, 1, 1, 0x0D, 1, (.octets 56), .wo, [0], .no, 3, .span 0 0 1, false⟩,
  ⟨0x5000, 1, 1, 0x0E, 1, (.octets 104), .ro, [0], .no, 3, .span 0 0 1, false⟩,
  ⟨0x5000, 1, 1, 0x10, 8, .u16, .ro, [0], .otp, 0, .span 0 65535 1, false⟩,
  ⟨0x5000, 1, 1, 0x18, 4, (.octets 64), .ro, [0], .no, 0, .span 0 0 1, false⟩,
  ⟨0x5000, 1, 1, 0x20, 1, (.octets 32), .wo, [0], .no, 0, .span 0 0 1, false⟩,
  ⟨0x5000, 1, 1, 0x21, 1, .domain, .ro, [0], .no, 0, .span 0 0 1, false⟩,
  ⟨0x5000, 1, 1, 0x30, 7, .u8, .rws, [2, 2, 2, 1, 2, 1, 2], .yes, 2, .span 0 2 1, false⟩,
  ⟨0x5000, 1, 1, 0x38, 1, .bool, .wo, [0], .no, 2, .span 0 1 1, false⟩,
  ⟨0x1000, 1, 1, 0x01, 1, (.string 32), .const, [0], .no, 0, .span 0 0 1, false⟩,
  ⟨0x1000, 1, 1, 0x02, 1, (.string 16), .const, [0], .no, 0, .span 0 0 1, false⟩,
  ⟨0x1000, 1, 1, 0x03, 1, (.string 16), .const, [0], .no, 0, .span 0 0 1, false⟩,
  ⟨0x1000, 1, 1, 0x04, 1, .u8, .const, [0], .no, 0, .span 0 255 1, false⟩,
  ⟨0x1000, 1, 1, 0x05, 1, .u16, .const, [258], .no, 0, .span 0 65535 1, false⟩,
  ⟨0x1000, 1, 1, 0x06, 1, (.octets 16), .ro, [0], .no, 0, .span 0 0 1, false⟩,
  ⟨0x1000, 1, 1, 0x07, 1, .u8, .ro, [0], .no, 0, .span 0 255 1, false⟩,
  ⟨0x1000, 1, 1, 0x08, 1, .u8, .ro, [0], .no, 0, .span 0 255 1, false⟩,
  ⟨0x1000, 1, 1, 0x09, 1, .u64, .ro, [0], .no, 0, .span 0 18446744073709551615 1, false⟩,
  ⟨0x1000, 1, 1, 0x0A, 1, .u64, .ro, [0], .no, 0, .span 0 18446744073709551615 1, false⟩,
  ⟨0x1000, 1, 1, 0x0B, 1, .u8, .const, [1], .no, 0, .span 0 255 1, false⟩,
  ⟨0x1000, 1, 1, 0x10, 1, .u8, .const, [16], .no, 0, .span 0 255 1, false⟩,
  ⟨0x1000, 1, 1, 0x11, 1, .u8, .const, [8], .no, 0, .span 0 255 1, false⟩,
  ⟨0x1000, 1, 1, 0x12, 1, .u8, .const, [16], .no, 0, .span 0 255 1, false⟩,
  ⟨0x1000, 1, 1, 0x13, 1, .u8, .const, [7], .no, 0, .span 0 255 1, false⟩,
  ⟨0x1000, 1, 1, 0x14, 1, .u32, .const, [50331648], .no, 0, .span 0 4294967295 1, false⟩,
  ⟨0x1000, 1, 1, 0x15, 1, .u8, .const, [2], .no, 0, .span 0 255 1, false⟩,
  ⟨0x1000, 1, 1, 0x16, 1, .u8, .const, [2], .no, 0, .span 0 255 1, false⟩,
  ⟨0x1000, 1, 1, 0x17, 1, .u32, .const, [32768], .no, 0, .span 0 4294967295 1, false⟩,
  ⟨0x1000, 1, 1, 0x18, 1, .u16, .const, [8192], .no, 0, .span 0 65535 1, false⟩,
  ⟨0x1000, 1, 1, 0x19, 1, .u16, .const, [4096], .no, 0, .span 0 65535 1, false⟩,
  ⟨0x1000, 1, 1, 0x1A, 1, .u16, .const, [1024], .no, 0, .span 0 65535 1, false⟩,
  ⟨0x1000, 1, 1, 0x1B, 1, .u16, .const, [1024], .no, 0, .span 0 65535 1, false⟩,
  ⟨0x1000, 1, 1, 0x1C, 1, .u16, .const, [4096], .no, 0, .span 0 65535 1, false⟩,
  ⟨0x1000, 1, 1, 0x1D, 1, .u8, .const, [4], .no, 0, .span 0 255 1, false⟩,
  ⟨0x1000, 1, 1, 0x1E, 1, .u8, .const, [64], .no, 0, .span 0 255 1, false⟩,
  ⟨0x1000, 1, 1, 0x1F, 1, .u8, .const, [4], .no, 0, .span 0 255 1, false⟩,
  ⟨0x1010, 1, 1, 0x01, 1, .u16, .rw, [24017], .yes, 2, .span 1 65535 1, false⟩,
  ⟨0x1010, 1, 1, 0x02, 1, .u32, .rw, [0], .yes, 2, .span 0 4294967295 1, false⟩,
  ⟨0x1010, 1, 1, 0x03, 1, (.octets 16), .rw, [0], .yes, 2, .span 0 0 1, false⟩,
  ⟨0x1010, 1, 1, 0x04, 1, .bits32, .rw, [128], .yes, 2, .span 0 255 1, false⟩,
  ⟨0x1010, 1, 1, 0x05, 1, .u32, .rw, [20000], .yes, 2, .span 100 200000 1, false⟩]

/-- Entry rows, part 8. R464 to R469. -/
def entryRows8 : List EntryRow := [
  ⟨0x1010, 1, 1, 0x06, 1, .u8, .rw, [6], .yes, 2, .span 0 7 1, false⟩,
  ⟨0x1010, 1, 1, 0x07, 1, .u16, .rw, [60], .yes, 2, .span 10 3600 1, false⟩,
  ⟨0x1010, 1, 1, 0x08, 1, .u8, .rws, [1], .yes, 2, .span 0 1 1, false⟩,
  ⟨0x1010, 1, 1, 0x09, 8, .u16, .rws, [0], .yes, 2, .span 0 65535 1, false⟩,
  ⟨0x1010, 1, 1, 0x11, 8, .u8, .rws, [0], .yes, 2, .span 0 3 1, false⟩,
  ⟨0x1010, 1, 1, 0x19, 8, (.octets 64), .rws, [0], .yes, 2, .span 0 0 1, false⟩,
  ⟨0x1010, 1, 1, 0x21, 8, .u8, .rws, [0], .yes, 2, .span 0 2 1, false⟩,
  ⟨0x1010, 1, 1, 0x29, 1, .u8, .rw, [255], .yes, 2, .oneOf [0, 1, 2, 3, 4, 5, 6, 7, 255], false⟩,
  ⟨0x1010, 1, 1, 0x2A, 1, .u16, .rw, [256], .yes, 2, .span 0 2047 1, false⟩,
  ⟨0x1010, 1, 1, 0x2B, 1, .u16, .rw, [257], .yes, 2, .span 0 2047 1, false⟩,
  ⟨0x1010, 1, 1, 0x2C, 1, .u8, .rw, [15], .yes, 2, .span 0 255 1, false⟩,
  ⟨0x1010, 1, 1, 0x2D, 1, .u16, .rw, [0], .yes, 2, .span 0 1023 1, false⟩,
  ⟨0x1010, 1, 1, 0x2E, 1, .u16, .rw, [0], .yes, 2, .span 0 1023 1, false⟩,
  ⟨0x1010, 1, 1, 0x2F, 1, .u16, .rw, [0], .yes, 2, .span 0 31344 8, false⟩,
  ⟨0x1020, 1, 1, 0x01, 1, .u8, .ro, [0], .no, 0, .span 0 255 1, false⟩,
  ⟨0x1020, 1, 1, 0x02, 1, .u32, .ro, [0], .no, 0, .span 0 4294967295 1, false⟩,
  ⟨0x1020, 1, 1, 0x03, 1, .domain, .ro, [0], .no, 2, .span 0 0 1, false⟩,
  ⟨0x1020, 1, 1, 0x04, 1, .domain, .wo, [0], .no, 2, .span 0 0 1, false⟩,
  ⟨0x1020, 1, 1, 0x05, 1, .u8, .ro, [255], .no, 0, .span 0 255 1, false⟩,
  ⟨0x1020, 1, 1, 0x06, 1, .u32, .ro, [0], .no, 0, .span 0 4294967295 1, false⟩,
  ⟨0x5800, 1, 1, 0x01, 1, .u16, .const, [8192], .no, 0, .span 0 65535 1, false⟩,
  ⟨0x5800, 1, 1, 0x02, 1, .u16, .ro, [0], .no, 0, .span 0 65535 1, false⟩,
  ⟨0x5800, 1, 1, 0x03, 1, .u64, .ro, [0], .no, 0, .span 0 18446744073709551615 1, false⟩,
  ⟨0x5800, 1, 1, 0x05, 1, .u64, .ro, [0], .no, 0, .span 0 18446744073709551615 1, false⟩,
  ⟨0x5800, 1, 1, 0x06, 1, .u8, .rw, [3], .yes, 2, .span 0 7 1, false⟩,
  ⟨0x5800, 1, 1, 0x07, 1, .u8, .rw, [6], .yes, 2, .span 4 7 1, false⟩,
  ⟨0x5800, 1, 1, 0x08, 1, .u8, .rw, [2], .yes, 2, .span 0 7 1, false⟩,
  ⟨0x5800, 1, 1, 0x09, 1, .u16, .rw, [256], .yes, 2, .span 8 8192 1, false⟩,
  ⟨0x5800, 1, 1, 0x0A, 1, .u16, .rw, [1000], .yes, 2, .span 10 60000 1, false⟩,
  ⟨0x5800, 1, 1, 0x0B, 1, .u8, .rws, [0], .yes, 2, .span 0 1 1, false⟩,
  ⟨0x5800, 1, 1, 0x0C, 1, .u32, .rws, [0], .yes, 2, .span 0 4294967295 4096, false⟩,
  ⟨0x5800, 1, 1, 0x0D, 1, .u16, .rws, [64], .yes, 2, .span 16 16384 1, false⟩,
  ⟨0x5800, 1, 1, 0x0E, 1, .bool, .wo, [0], .no, 2, .span 0 1 1, false⟩,
  ⟨0x5800, 1, 1, 0x0F, 1, .u16, .rws, [1000], .yes, 2, .span 10 10000 1, false⟩,
  ⟨0x5800, 1, 1, 0x10, 1, .u16, .rws, [100], .yes, 2, .span 1 1000 1, false⟩,
  ⟨0x5800, 1, 1, 0x11, 1, .u8, .ro, [0], .no, 0, .span 0 255 1, false⟩,
  ⟨0x5810, 1, 1, 0x01, 1, .u8, .rw, [0], .yes, 1, .span 0 3 1, false⟩,
  ⟨0x5810, 1, 1, 0x02, 1, .u8, .rw, [0], .yes, 1, .span 0 2 1, false⟩,
  ⟨0x5810, 1, 1, 0x03, 1, .u64, .rw, [0], .yes, 1, .span 0 281474976710655 1, false⟩,
  ⟨0x5810, 1, 1, 0x04, 1, .u64, .rw, [0], .yes, 1, .span 0 281474976710655 1, false⟩]

/-- Entry rows, part 9. R464 to R469. -/
def entryRows9 : List EntryRow := [
  ⟨0x5810, 1, 1, 0x05, 1, .u8, .rw, [1], .yes, 1, .span 0 7 1, false⟩,
  ⟨0x5810, 1, 1, 0x06, 1, .u16, .rw, [200], .yes, 1, .span 1 500 1, false⟩,
  ⟨0x5810, 1, 1, 0x07, 8, .u16, .rw, [65535], .no, 2, .thread, false⟩,
  ⟨0x5810, 1, 1, 0x0F, 4, .bits64, .rw, [0], .no, 1, .span 0 18446744073709551615 1, false⟩,
  ⟨0x5810, 1, 1, 0x13, 1, .u16, .rw, [1], .no, 1, .span 1 65535 1, false⟩,
  ⟨0x5810, 1, 1, 0x14, 1, .u16, .rw, [0], .no, 1, .span 0 1000 1, false⟩,
  ⟨0x5810, 1, 1, 0x15, 1, .u8, .rw, [8], .no, 1, .span 0 8 1, false⟩,
  ⟨0x5400, 1, 1, 0x01, 1, .bool, .rw, [1], .yes, 2, .span 0 1 1, false⟩,
  ⟨0x5400, 1, 1, 0x02, 1, .u32, .rw, [3600], .yes, 2, .span 60 86400 1, false⟩,
  ⟨0x5400, 1, 1, 0x03, 1, .u16, .rw, [10], .yes, 2, .span 1 1000 1, false⟩,
  ⟨0x5400, 1, 1, 0x04, 1, .u16, .rw, [50], .yes, 2, .span 10 500 1, false⟩,
  ⟨0x5400, 1, 1, 0x05, 1, .bits64, .ro, [0], .no, 0, .span 0 18446744073709551615 1, false⟩,
  ⟨0x5400, 1, 1, 0x06, 1, .bits32, .ro, [0], .no, 0, .span 0 4294967295 1, false⟩,
  ⟨0x5400, 1, 1, 0x07, 1, .u16, .ro, [0], .no, 0, .span 0 65535 1, false⟩,
  ⟨0x5400, 1, 1, 0x08, 1, .bool, .wo, [0], .no, 3, .span 0 1 1, false⟩,
  ⟨0x5410, 1, 1, 0x01, 1, .bits32, .ro, [0], .no, 0, .span 0 4294967295 1, false⟩,
  ⟨0x5410, 1, 1, 0x02, 1, .bool, .rw, [1], .yes, 2, .span 0 1 1, false⟩,
  ⟨0x5410, 1, 1, 0x03, 1, .u16, .rw, [100], .yes, 2, .span 0 60000 1, false⟩,
  ⟨0x5410, 1, 1, 0x04, 1, .bool, .wo, [0], .no, 2, .span 0 1 1, false⟩,
  ⟨0x5410, 1, 1, 0x05, 1, .u16, .rw, [50], .yes, 2, .span 1 1000 1, false⟩,
  ⟨0x5410, 1, 1, 0x06, 1, .u8, .wo, [0], .no, 2, .span 0 1 1, false⟩,
  ⟨0x5410, 1, 1, 0x07, 1, .u8, .wo, [0], .no, 2, .span 0 255 1, false⟩,
  ⟨0x5410, 1, 1, 0x08, 1, .u16, .rws, [0], .yes, 2, .span 0 10000 1, false⟩,
  ⟨0x5410, 1, 1, 0x09, 1, .u16, .rws, [100], .yes, 2, .span 10 10000 1, false⟩,
  ⟨0x1040, 1, 1, 0x01, 1, .u8, .wo, [0], .no, 2, .span 1 1 1, false⟩,
  ⟨0x1040, 1, 1, 0x02, 1, .u8, .ro, [0], .no, 0, .span 0 255 1, false⟩,
  ⟨0x1040, 1, 1, 0x03, 1, .u32, .ro, [0], .no, 0, .span 0 4294967295 1, false⟩,
  ⟨0x1040, 1, 1, 0x04, 1, .u32, .ro, [0], .no, 0, .span 0 4294967295 1, false⟩,
  ⟨0x1040, 1, 1, 0x05, 1, .u32, .ro, [0], .no, 0, .span 0 4294967295 1, false⟩,
  ⟨0x1040, 1, 1, 0x06, 1, .bool, .rws, [1], .yes, 2, .span 0 1 1, false⟩,
  ⟨0x1040, 1, 1, 0x07, 1, .u8, .ro, [0], .no, 0, .span 0 255 1, false⟩,
  ⟨0x1040, 1, 1, 0x08, 1, .u16, .ro, [850], .no, 0, .span 0 65535 1, false⟩,
  ⟨0x1040, 1, 1, 0x09, 1, .i16, .ro, [0], .no, 0, .span (-32768) 32767 1, false⟩,
  ⟨0x1040, 1, 1, 0x0A, 1, .bool, .ro, [0], .no, 0, .span 0 1 1, false⟩,
  ⟨0x1040, 1, 1, 0x0B, 1, .u8, .ro, [255], .no, 0, .span 0 255 1, false⟩,
  ⟨0x3A00, 64, 1, 0x01, 8, .bits32, .rws, [255], .yes, 2, .span 0 255 1, true⟩,
  ⟨0x3B00, 2, 1, 0x01, 128, .u16, .rw, [65535], .yes, 2, .span 1 65535 1, false⟩,
  ⟨0x2200, 448, 1, 0x01, 1, .bool, .rw, [0], .yes, 2, .span 0 1 1, false⟩,
  ⟨0x2200, 448, 1, 0x02, 1, .u8, .rw, [1], .yes, 2, .span 1 4 1, false⟩,
  ⟨0x2200, 448, 1, 0x03, 1, .u8, .rw, [2], .yes, 2, .span 0 2 1, false⟩]

/-- Entry rows, part 10. R464 to R469. -/
def entryRows10 : List EntryRow := [
  ⟨0x2200, 448, 1, 0x04, 1, .bool, .rw, [1], .yes, 2, .span 0 1 1, false⟩,
  ⟨0x2200, 448, 1, 0x05, 1, .u32, .rw, [0], .yes, 2, .span 0 4294967295 1, false⟩,
  ⟨0x2200, 448, 1, 0x06, 1, .u8, .rw, [0], .yes, 2, .oneOf [0, 30, 50], false⟩,
  ⟨0x2200, 448, 1, 0x07, 1, .u64, .rw, [0], .yes, 2, .span 0 18446744073709551615 1, false⟩,
  ⟨0x2200, 448, 1, 0x08, 1, .bool, .rw, [1], .yes, 2, .span 0 1 1, false⟩,
  ⟨0x2200, 448, 1, 0x09, 1, .bool, .rw, [1], .yes, 2, .span 0 1 1, false⟩,
  ⟨0x2200, 448, 1, 0x0A, 1, .u8, .ro, [0], .no, 0, .span 0 3 1, false⟩,
  ⟨0x2200, 448, 1, 0x0B, 1, .u64, .rw, [3221225472], .yes, 2, .span 0 18446744073709551615 1, false⟩,
  ⟨0x2200, 448, 1, 0x0C, 1, .bool, .rw, [1], .yes, 2, .span 0 1 1, false⟩,
  ⟨0x1030, 1, 1, 0x01, 1, .u8, .ro, [0], .no, 0, .span 0 255 1, false⟩,
  ⟨0x1030, 1, 1, 0x02, 16, .bits64, .ro, [0], .no, 1, .span 0 18446744073709551615 1, false⟩,
  ⟨0x6010, 8, 1, 0x01, 16, .u64, .ro, [0], .no, 0, .span 0 0 1, false⟩,
  ⟨0x6020, 7, 1, 0x01, 20, .u64, .ro, [0], .no, 0, .span 0 0 1, false⟩,
  ⟨0x6030, 8, 1, 0x01, 15, .u64, .ro, [0], .no, 0, .span 0 0 1, false⟩,
  ⟨0x6038, 1, 1, 0x01, 4, .u64, .ro, [0], .no, 0, .span 0 0 1, false⟩,
  ⟨0x6040, 2, 1, 0x01, 16, .u64, .ro, [0], .no, 0, .span 0 0 1, false⟩,
  ⟨0x6050, 1, 1, 0x01, 9, .u64, .ro, [0], .no, 0, .span 0 0 1, false⟩,
  ⟨0x6060, 1, 1, 0x01, 14, .u64, .ro, [0], .no, 0, .span 0 0 1, false⟩,
  ⟨0x6070, 8, 1, 0x05, 3, .u64, .ro, [0], .no, 0, .span 0 0 1, false⟩,
  ⟨0x6100, 64, 1, 0x04, 3, .u64, .ro, [0], .no, 0, .span 0 0 1, false⟩,
  ⟨0x6080, 1, 1, 0x01, 17, .u64, .ro, [0], .no, 0, .span 0 0 1, false⟩,
  ⟨0x6140, 64, 1, 0x01, 15, .u64, .ro, [0], .no, 0, .span 0 0 1, false⟩,
  ⟨0x6180, 64, 1, 0x01, 6, .u64, .ro, [0], .no, 0, .span 0 0 1, false⟩,
  ⟨0x61C0, 16, 1, 0x01, 17, .u64, .ro, [0], .no, 0, .span 0 0 1, false⟩,
  ⟨0x61D0, 1, 1, 0x01, 23, .u64, .ro, [0], .no, 0, .span 0 0 1, false⟩,
  ⟨0x61E0, 1, 1, 0x01, 16, .u64, .ro, [0], .no, 0, .span 0 0 1, false⟩,
  ⟨0x6200, 32, 1, 0x01, 9, .u64, .ro, [0], .no, 0, .span 0 0 1, false⟩,
  ⟨0x6220, 8, 1, 0x01, 13, .u64, .ro, [0], .no, 0, .span 0 0 1, false⟩,
  ⟨0x6228, 1, 1, 0x01, 4, .u64, .ro, [0], .no, 0, .span 0 0 1, false⟩,
  ⟨0x6229, 1, 1, 0x01, 5, .u64, .ro, [0], .no, 0, .span 0 0 1, false⟩,
  ⟨0x6240, 4, 1, 0x01, 7, .u64, .ro, [0], .no, 0, .span 0 0 1, false⟩,
  ⟨0x6250, 16, 1, 0x01, 11, .u64, .ro, [0], .no, 0, .span 0 0 1, false⟩,
  ⟨0x6260, 1, 1, 0x01, 8, .u64, .ro, [0], .no, 0, .span 0 0 1, false⟩,
  ⟨0x6270, 2, 1, 0x01, 13, .u64, .ro, [0], .no, 0, .span 0 0 1, false⟩,
  ⟨0x6272, 1, 1, 0x01, 4, .u64, .ro, [0], .no, 0, .span 0 0 1, false⟩,
  ⟨0x6280, 1, 1, 0x01, 6, .u64, .ro, [0], .no, 0, .span 0 0 1, false⟩,
  ⟨0x6290, 1, 1, 0x01, 12, .u64, .ro, [0], .no, 0, .span 0 0 1, false⟩,
  ⟨0x62A0, 1, 1, 0x01, 16, .u64, .ro, [0], .no, 0, .span 0 0 1, false⟩,
  ⟨0x62B0, 1, 1, 0x01, 11, .u64, .ro, [0], .no, 0, .span 0 0 1, false⟩,
  ⟨0x62B1, 1, 1, 1, 26, .u64, .ro, [0], .no, 0, .span 0 0 1, false⟩]

/-- Entry rows, part 11. R464 to R469. -/
def entryRows11 : List EntryRow := [
  ⟨0x62B2, 1, 1, 0x01, 6, .u64, .ro, [0], .no, 0, .span 0 0 1, false⟩,
  ⟨0x62C0, 1, 1, 0x01, 9, .u64, .ro, [0], .no, 0, .span 0 0 1, false⟩,
  ⟨0x62C1, 1, 1, 0x01, 10, .u64, .ro, [0], .no, 0, .span 0 0 1, false⟩,
  ⟨0x6070, 8, 1, 0x01, 1, .u32, .ro, [0], .no, 0, .span 0 0 1, false⟩,
  ⟨0x6070, 8, 1, 0x02, 1, .u32, .ro, [0], .no, 0, .span 0 0 1, false⟩,
  ⟨0x6070, 8, 1, 0x03, 1, .u32, .rc, [0], .no, 0, .span 0 0 1, false⟩,
  ⟨0x6070, 8, 1, 0x04, 1, .u32, .ro, [0], .no, 0, .span 0 0 1, false⟩,
  ⟨0x6100, 64, 1, 0x01, 1, .u8, .ro, [0], .no, 0, .span 0 0 1, false⟩,
  ⟨0x6100, 64, 1, 0x02, 1, .u16, .ro, [0], .no, 0, .span 0 0 1, false⟩,
  ⟨0x6100, 64, 1, 0x03, 1, .u32, .ro, [0], .no, 0, .span 0 0 1, false⟩]

/-- Every scalar, octet, string and domain entry of the dictionary but subindex 00 and the table domains. -/
def entryRows : List EntryRow :=
  entryRows1 ++ entryRows2 ++ entryRows3 ++ entryRows4 ++ entryRows5 ++ entryRows6 ++ entryRows7 ++ entryRows8 ++ entryRows9 ++ entryRows10 ++ entryRows11

/-! ### Names of the keys: `K.<record><Entry>`, with the record number and the array subscript as arguments -/

/-- Entry 2000:01 (portMode). -/
abbrev K.portMode (i : Nat) : Nat := dictKey (0x2000 + 16 * i) 0x01
/-- Entry 2000:02 (portAdminUp). -/
abbrev K.portAdminUp (i : Nat) : Nat := dictKey (0x2000 + 16 * i) 0x02
/-- Entry 2000:03 (portMaxFrame). -/
abbrev K.portMaxFrame (i : Nat) : Nat := dictKey (0x2000 + 16 * i) 0x03
/-- Entry 2000:04 (portRxTsCorrection). -/
abbrev K.portRxTsCorrection (i : Nat) : Nat := dictKey (0x2000 + 16 * i) 0x04
/-- Entry 2000:05 (portTxTsCorrection). -/
abbrev K.portTxTsCorrection (i : Nat) : Nat := dictKey (0x2000 + 16 * i) 0x05
/-- Entry 2000:06 (portLinkState). -/
abbrev K.portLinkState (i : Nat) : Nat := dictKey (0x2000 + 16 * i) 0x06
/-- Entry 2000:07 (portPolarityInvert). -/
abbrev K.portPolarityInvert (i : Nat) : Nat := dictKey (0x2000 + 16 * i) 0x07
/-- Entry 2000:08 (portLinkDownCount). -/
abbrev K.portLinkDownCount (i : Nat) : Nat := dictKey (0x2000 + 16 * i) 0x08
/-- Entry 2000:09 (portFlowControl). -/
abbrev K.portFlowControl (i : Nat) : Nat := dictKey (0x2000 + 16 * i) 0x09
/-- Entry 2000:0A (portPauseQuanta). -/
abbrev K.portPauseQuanta (i : Nat) : Nat := dictKey (0x2000 + 16 * i) 0x0A
/-- Entry 2000:0B (portPauseRefresh). -/
abbrev K.portPauseRefresh (i : Nat) : Nat := dictKey (0x2000 + 16 * i) 0x0B
/-- Entry 2000:0C (portPreemptEnable). -/
abbrev K.portPreemptEnable (i : Nat) : Nat := dictKey (0x2000 + 16 * i) 0x0C
/-- Entry 2000:0D (portVerifyDisable). -/
abbrev K.portVerifyDisable (i : Nat) : Nat := dictKey (0x2000 + 16 * i) 0x0D
/-- Entry 2000:0E (portVerifyTime). -/
abbrev K.portVerifyTime (i : Nat) : Nat := dictKey (0x2000 + 16 * i) 0x0E
/-- Entry 2000:0F (portAddFragSize). -/
abbrev K.portAddFragSize (i : Nat) : Nat := dictKey (0x2000 + 16 * i) 0x0F
/-- Entry 2000:10 (portVerifyStatus). -/
abbrev K.portVerifyStatus (i : Nat) : Nat := dictKey (0x2000 + 16 * i) 0x10
/-- Entry 2000:11 (portBypassEtherType). -/
abbrev K.portBypassEtherType (i j : Nat) : Nat := dictKey (0x2000 + 16 * i) (0x11 + j)
/-- Entry 2000:19 (portSgmiiSpeed). -/
abbrev K.portSgmiiSpeed (i : Nat) : Nat := dictKey (0x2000 + 16 * i) 0x19
/-- Entry 3000:01 (prsParseReach). -/
abbrev K.prsParseReach : Nat := dictKey 0x3000 0x01
/-- Entry 3000:02 (prsParseDepth). -/
abbrev K.prsParseDepth : Nat := dictKey 0x3000 0x02
/-- Entry 3000:03 (prsIpv4ChecksumCheck). -/
abbrev K.prsIpv4ChecksumCheck : Nat := dictKey 0x3000 0x03
/-- Entry 3000:04 (prsNoHitAction). -/
abbrev K.prsNoHitAction : Nat := dictKey 0x3000 0x04
/-- Entry 3000:05 (prsParseFailAction). -/
abbrev K.prsParseFailAction : Nat := dictKey 0x3000 0x05
/-- Entry 3000:06 (prsExceptionRate). -/
abbrev K.prsExceptionRate : Nat := dictKey 0x3000 0x06
/-- Entry 3000:07 (prsExceptionBurst). -/
abbrev K.prsExceptionBurst : Nat := dictKey 0x3000 0x07
/-- Entry 3000:08 (prsExceptionQueueDepth). -/
abbrev K.prsExceptionQueueDepth : Nat := dictKey 0x3000 0x08
/-- Entry 3000:09 (prsScanByteLimit). -/
abbrev K.prsScanByteLimit : Nat := dictKey 0x3000 0x09
/-- Entry 3000:0A (prsScanQueueLimit). -/
abbrev K.prsScanQueueLimit : Nat := dictKey 0x3000 0x0A
/-- Entry 3000:0B (prsScanClassMask). -/
abbrev K.prsScanClassMask (j : Nat) : Nat := dictKey 0x3000 (0x0B + j)
/-- Entry 3000:10 (prsSomeIpPort). -/
abbrev K.prsSomeIpPort (j : Nat) : Nat := dictKey 0x3000 (0x10 + j)
/-- Entry 3000:20 (prsDoIpPort). -/
abbrev K.prsDoIpPort : Nat := dictKey 0x3000 0x20
/-- Entry 3000:21 (prsDefaultPcp). -/
abbrev K.prsDefaultPcp (j : Nat) : Nat := dictKey 0x3000 (0x21 + j)
/-- Entry 3400:01 (brBuckets). -/
abbrev K.brBuckets (i : Nat) : Nat := dictKey (0x3400 + 16 * i) 0x01
/-- Entry 3400:02 (brStashSlots). -/
abbrev K.brStashSlots (i : Nat) : Nat := dictKey (0x3400 + 16 * i) 0x02
/-- Entry 3400:03 (brSeed0). -/
abbrev K.brSeed0 (i : Nat) : Nat := dictKey (0x3400 + 16 * i) 0x03
/-- Entry 3400:04 (brSeed1). -/
abbrev K.brSeed1 (i : Nat) : Nat := dictKey (0x3400 + 16 * i) 0x04
/-- Entry 3400:05 (brLearnEnable). -/
abbrev K.brLearnEnable (i : Nat) : Nat := dictKey (0x3400 + 16 * i) 0x05
/-- Entry 3400:06 (brLearnRate). -/
abbrev K.brLearnRate (i : Nat) : Nat := dictKey (0x3400 + 16 * i) 0x06
/-- Entry 3400:07 (brLearnBurst). -/
abbrev K.brLearnBurst (i : Nat) : Nat := dictKey (0x3400 + 16 * i) 0x07
/-- Entry 3400:08 (brAgeSweepPeriod). -/
abbrev K.brAgeSweepPeriod (i : Nat) : Nat := dictKey (0x3400 + 16 * i) 0x08
/-- Entry 3400:09 (brAgeLimit). -/
abbrev K.brAgeLimit (i : Nat) : Nat := dictKey (0x3400 + 16 * i) 0x09
/-- Entry 3400:0A (brMaxKickDepth). -/
abbrev K.brMaxKickDepth (i : Nat) : Nat := dictKey (0x3400 + 16 * i) 0x0A
/-- Entry 3400:0B (brLearnLimit). -/
abbrev K.brLearnLimit (i j : Nat) : Nat := dictKey (0x3400 + 16 * i) (0x0B + j)
/-- Entry 3400:0F (brRehashState). -/
abbrev K.brRehashState (i : Nat) : Nat := dictKey (0x3400 + 16 * i) 0x0F
/-- Entry 3400:10 (brRehashControl). -/
abbrev K.brRehashControl (i : Nat) : Nat := dictKey (0x3400 + 16 * i) 0x10
/-- Entry 3400:11 (brNewSeed0). -/
abbrev K.brNewSeed0 (i : Nat) : Nat := dictKey (0x3400 + 16 * i) 0x11
/-- Entry 3400:12 (brNewSeed1). -/
abbrev K.brNewSeed1 (i : Nat) : Nat := dictKey (0x3400 + 16 * i) 0x12
/-- Entry 3400:13 (brShadowBaseCell). -/
abbrev K.brShadowBaseCell (i : Nat) : Nat := dictKey (0x3400 + 16 * i) 0x13
/-- Entry 3400:14 (brChangeLogSeq). -/
abbrev K.brChangeLogSeq (i : Nat) : Nat := dictKey (0x3400 + 16 * i) 0x14
/-- Entry 3400:15 (brSwapLogSeq). -/
abbrev K.brSwapLogSeq (i : Nat) : Nat := dictKey (0x3400 + 16 * i) 0x15
/-- Entry 3400:16 (brValidCount). -/
abbrev K.brValidCount (i : Nat) : Nat := dictKey (0x3400 + 16 * i) 0x16
/-- Entry 3400:17 (brLearnedCount). -/
abbrev K.brLearnedCount (i : Nat) : Nat := dictKey (0x3400 + 16 * i) 0x17
/-- Entry 3800:01 (lodeStreams). -/
abbrev K.lodeStreams : Nat := dictKey 0x3800 0x01
/-- Entry 3800:02 (lodeLodestarEnable). -/
abbrev K.lodeLodestarEnable : Nat := dictKey 0x3800 0x02
/-- Entry 3800:03 (lodeHoldBufferBytes). -/
abbrev K.lodeHoldBufferBytes : Nat := dictKey 0x3800 0x03
/-- Entry 3800:04 (lodeValidStreams). -/
abbrev K.lodeValidStreams : Nat := dictKey 0x3800 0x04
/-- Entry 3900:01 (dispLevels). -/
abbrev K.dispLevels : Nat := dictKey 0x3900 0x01
/-- Entry 3900:02 (dispLevelClass). -/
abbrev K.dispLevelClass (j : Nat) : Nat := dictKey 0x3900 (0x02 + j)
/-- Entry 3900:0A (dispLevelLimit). -/
abbrev K.dispLevelLimit (j : Nat) : Nat := dictKey 0x3900 (0x0A + j)
/-- Entry 3900:12 (dispPreemptEnable). -/
abbrev K.dispPreemptEnable : Nat := dictKey 0x3900 0x12
/-- Entry 3900:13 (dispSafetyOnLockstep). -/
abbrev K.dispSafetyOnLockstep : Nat := dictKey 0x3900 0x13
/-- Entry 3900:14 (dispLaunchLead). -/
abbrev K.dispLaunchLead : Nat := dictKey 0x3900 0x14
/-- Entry 3900:15 (dispLoadWindow). -/
abbrev K.dispLoadWindow : Nat := dictKey 0x3900 0x15
/-- Entry 3900:16 (dispDelayDomain). -/
abbrev K.dispDelayDomain (j : Nat) : Nat := dictKey 0x3900 (0x16 + j)
/-- Entry 3900:1E (dispDelayListEntries). -/
abbrev K.dispDelayListEntries : Nat := dictKey 0x3900 0x1E
/-- Entry 3900:1F (dispNonPacketEntries). -/
abbrev K.dispNonPacketEntries : Nat := dictKey 0x3900 0x1F
/-- Entry 3980:01 (oruOrderDomains). -/
abbrev K.oruOrderDomains : Nat := dictKey 0x3980 0x01
/-- Entry 3980:02 (oruJournalEntries). -/
abbrev K.oruJournalEntries : Nat := dictKey 0x3980 0x02
/-- Entry 3980:03 (oruActionSlots). -/
abbrev K.oruActionSlots : Nat := dictKey 0x3980 0x03
/-- Entry 3980:04 (oruReplayLimit). -/
abbrev K.oruReplayLimit : Nat := dictKey 0x3980 0x04
/-- Entry 3980:05 (oruReplayMargin). -/
abbrev K.oruReplayMargin : Nat := dictKey 0x3980 0x05
/-- Entry 3980:06 (oruJournalInUse). -/
abbrev K.oruJournalInUse : Nat := dictKey 0x3980 0x06
/-- Entry 3980:07 (oruJournalPeak). -/
abbrev K.oruJournalPeak : Nat := dictKey 0x3980 0x07
/-- Entry 3C00:01 (coreCores). -/
abbrev K.coreCores : Nat := dictKey 0x3C00 0x01
/-- Entry 3C00:02 (coreThreadsPerCore). -/
abbrev K.coreThreadsPerCore : Nat := dictKey 0x3C00 0x02
/-- Entry 3C00:03 (coreLockstepMask). -/
abbrev K.coreLockstepMask : Nat := dictKey 0x3C00 0x03
/-- Entry 3C00:04 (coreLockstepLag). -/
abbrev K.coreLockstepLag : Nat := dictKey 0x3C00 0x04
/-- Entry 3C00:05 (coreStoreBufferEntries). -/
abbrev K.coreStoreBufferEntries : Nat := dictKey 0x3C00 0x05
/-- Entry 3C00:06 (coreLoopBufferEntries). -/
abbrev K.coreLoopBufferEntries : Nat := dictKey 0x3C00 0x06
/-- Entry 3C00:07 (coreSplitCores). -/
abbrev K.coreSplitCores : Nat := dictKey 0x3C00 0x07
/-- Entry 3C00:08 (coreLogicalCores). -/
abbrev K.coreLogicalCores : Nat := dictKey 0x3C00 0x08
/-- Entry 3C10:01 (cluOperatingPoint). -/
abbrev K.cluOperatingPoint (i : Nat) : Nat := dictKey (0x3C10 + i) 0x01
/-- Entry 3C10:02 (cluOperatingPointActive). -/
abbrev K.cluOperatingPointActive (i : Nat) : Nat := dictKey (0x3C10 + i) 0x02
/-- Entry 3C40:01 (thrSlotTable). -/
abbrev K.thrSlotTable (i : Nat) : Nat := dictKey (0x3C40 + i) 0x01
/-- Entry 3C40:02 (thrEntryPoint). -/
abbrev K.thrEntryPoint (i j : Nat) : Nat := dictKey (0x3C40 + i) (0x02 + j)
/-- Entry 3C40:0A (thrWatchdogLimit). -/
abbrev K.thrWatchdogLimit (i j : Nat) : Nat := dictKey (0x3C40 + i) (0x0A + j)
/-- Entry 3C80:01 (rtRights). -/
abbrev K.rtRights (i : Nat) : Nat := dictKey (0x3C80 + i) 0x01
/-- Entry 3CC0:01 (bankActiveBank). -/
abbrev K.bankActiveBank (i : Nat) : Nat := dictKey (0x3CC0 + i) 0x01
/-- Entry 3CC0:02 (bankBankControl). -/
abbrev K.bankBankControl (i : Nat) : Nat := dictKey (0x3CC0 + i) 0x02
/-- Entry 3CC0:03 (bankSwitchState). -/
abbrev K.bankSwitchState (i : Nat) : Nat := dictKey (0x3CC0 + i) 0x03
/-- Entry 3CC0:04 (bankOldBankItems). -/
abbrev K.bankOldBankItems (i : Nat) : Nat := dictKey (0x3CC0 + i) 0x04
/-- Entry 3CD0:01 (hlpKeySlotsLoaded). -/
abbrev K.hlpKeySlotsLoaded (i : Nat) : Nat := dictKey (0x3CD0 + i) 0x01
/-- Entry 3CD0:02 (hlpCryptoCapacity). -/
abbrev K.hlpCryptoCapacity (i : Nat) : Nat := dictKey (0x3CD0 + i) 0x02
/-- Entry 3CD0:03 (hlpCrcCapacity). -/
abbrev K.hlpCrcCapacity (i : Nat) : Nat := dictKey (0x3CD0 + i) 0x03
/-- Entry 3CD0:04 (hlpLookupCapacity). -/
abbrev K.hlpLookupCapacity (i : Nat) : Nat := dictKey (0x3CD0 + i) 0x04
/-- Entry 3CD0:05 (hlpPatternCapacity). -/
abbrev K.hlpPatternCapacity (i : Nat) : Nat := dictKey (0x3CD0 + i) 0x05
/-- Entry 3CD0:06 (hlpClientQueueDepth). -/
abbrev K.hlpClientQueueDepth (i : Nat) : Nat := dictKey (0x3CD0 + i) 0x06
/-- Entry 4000:01 (rdvLocks). -/
abbrev K.rdvLocks : Nat := dictKey 0x4000 0x01
/-- Entry 4000:02 (rdvSemaphores). -/
abbrev K.rdvSemaphores : Nat := dictKey 0x4000 0x02
/-- Entry 4000:03 (rdvChannels). -/
abbrev K.rdvChannels : Nat := dictKey 0x4000 0x03
/-- Entry 4000:04 (rdvEventBits). -/
abbrev K.rdvEventBits : Nat := dictKey 0x4000 0x04
/-- Entry 4000:05 (rdvMessageSlots). -/
abbrev K.rdvMessageSlots : Nat := dictKey 0x4000 0x05
/-- Entry 4000:06 (rdvMessageSlotsUsed). -/
abbrev K.rdvMessageSlotsUsed : Nat := dictKey 0x4000 0x06
/-- Entry 4000:07 (rdvQuiescenceWindow). -/
abbrev K.rdvQuiescenceWindow : Nat := dictKey 0x4000 0x07
/-- Entry 4000:08 (rdvQuiescenceEnable). -/
abbrev K.rdvQuiescenceEnable : Nat := dictKey 0x4000 0x08
/-- Entry 4010:01 (lockrLockRights). -/
abbrev K.lockrLockRights (i : Nat) : Nat := dictKey (0x4010 + i) 0x01
/-- Entry 4200:01 (orchOnChipCells). -/
abbrev K.orchOnChipCells : Nat := dictKey 0x4200 0x01
/-- Entry 4200:02 (orchPilotRegionCells). -/
abbrev K.orchPilotRegionCells : Nat := dictKey 0x4200 0x02
/-- Entry 4200:03 (orchPoolCells). -/
abbrev K.orchPoolCells : Nat := dictKey 0x4200 0x03
/-- Entry 4200:04 (orchSpillBase). -/
abbrev K.orchSpillBase : Nat := dictKey 0x4200 0x04
/-- Entry 4200:05 (orchSpillCells). -/
abbrev K.orchSpillCells : Nat := dictKey 0x4200 0x05
/-- Entry 4200:06 (orchSpillBandwidth). -/
abbrev K.orchSpillBandwidth : Nat := dictKey 0x4200 0x06
/-- Entry 4200:07 (orchSharedFree). -/
abbrev K.orchSharedFree : Nat := dictKey 0x4200 0x07
/-- Entry 4200:08 (orchSpillFree). -/
abbrev K.orchSpillFree : Nat := dictKey 0x4200 0x08
/-- Entry 4200:09 (orchQuarantineCount). -/
abbrev K.orchQuarantineCount : Nat := dictKey 0x4200 0x09
/-- Entry 4200:0A (orchOrchardControl). -/
abbrev K.orchOrchardControl : Nat := dictKey 0x4200 0x0A
/-- Entry 4200:0B (orchRecoverState). -/
abbrev K.orchRecoverState : Nat := dictKey 0x4200 0x0B
/-- Entry 4210:01 (pmapPoolMap). -/
abbrev K.pmapPoolMap (j : Nat) : Nat := dictKey 0x4210 (0x01 + j)
/-- Entry 4220:01 (poolReserved). -/
abbrev K.poolReserved (i : Nat) : Nat := dictKey (0x4220 + i) 0x01
/-- Entry 4220:02 (poolReservedCells). -/
abbrev K.poolReservedCells (i : Nat) : Nat := dictKey (0x4220 + i) 0x02
/-- Entry 4220:03 (poolWarnThreshold). -/
abbrev K.poolWarnThreshold (i : Nat) : Nat := dictKey (0x4220 + i) 0x03
/-- Entry 4220:04 (poolPauseThreshold). -/
abbrev K.poolPauseThreshold (i : Nat) : Nat := dictKey (0x4220 + i) 0x04
/-- Entry 4220:05 (poolDropThreshold). -/
abbrev K.poolDropThreshold (i : Nat) : Nat := dictKey (0x4220 + i) 0x05
/-- Entry 4220:06 (poolHysteresis). -/
abbrev K.poolHysteresis (i : Nat) : Nat := dictKey (0x4220 + i) 0x06
/-- Entry 4220:07 (poolSpillEnable). -/
abbrev K.poolSpillEnable (i : Nat) : Nat := dictKey (0x4220 + i) 0x07
/-- Entry 4220:08 (poolSpillThreshold). -/
abbrev K.poolSpillThreshold (i : Nat) : Nat := dictKey (0x4220 + i) 0x08
/-- Entry 4220:09 (poolSpillLimit). -/
abbrev K.poolSpillLimit (i : Nat) : Nat := dictKey (0x4220 + i) 0x09
/-- Entry 4220:0A (poolOccupancy). -/
abbrev K.poolOccupancy (i : Nat) : Nat := dictKey (0x4220 + i) 0x0A
/-- Entry 4220:0B (poolSpillOccupancy). -/
abbrev K.poolSpillOccupancy (i : Nat) : Nat := dictKey (0x4220 + i) 0x0B
/-- Entry 4220:0C (poolOccupancyPeak). -/
abbrev K.poolOccupancyPeak (i : Nat) : Nat := dictKey (0x4220 + i) 0x0C
/-- Entry 4220:0D (poolBackPressure). -/
abbrev K.poolBackPressure (i : Nat) : Nat := dictKey (0x4220 + i) 0x0D
/-- Entry 4400:01 (chrDomains). -/
abbrev K.chrDomains : Nat := dictKey 0x4400 0x01
/-- Entry 4400:02 (chrPpsInCorrection). -/
abbrev K.chrPpsInCorrection : Nat := dictKey 0x4400 0x02
/-- Entry 4400:03 (chrPpsOutEnable). -/
abbrev K.chrPpsOutEnable : Nat := dictKey 0x4400 0x03
/-- Entry 4400:04 (chrPpsOutDomain). -/
abbrev K.chrPpsOutDomain : Nat := dictKey 0x4400 0x04
/-- Entry 4400:05 (chrPpsOutOffset). -/
abbrev K.chrPpsOutOffset : Nat := dictKey 0x4400 0x05
/-- Entry 4400:06 (chrPpsOutWidth). -/
abbrev K.chrPpsOutWidth : Nat := dictKey 0x4400 0x06
/-- Entry 4400:07 (chrPpsOutCorrection). -/
abbrev K.chrPpsOutCorrection : Nat := dictKey 0x4400 0x07
/-- Entry 4410:01 (domTime). -/
abbrev K.domTime (i : Nat) : Nat := dictKey (0x4410 + i) 0x01
/-- Entry 4410:02 (domSource). -/
abbrev K.domSource (i : Nat) : Nat := dictKey (0x4410 + i) 0x02
/-- Entry 4410:03 (domState). -/
abbrev K.domState (i : Nat) : Nat := dictKey (0x4410 + i) 0x03
/-- Entry 4410:04 (domRateAdjust). -/
abbrev K.domRateAdjust (i : Nat) : Nat := dictKey (0x4410 + i) 0x04
/-- Entry 4410:05 (domStepOffset). -/
abbrev K.domStepOffset (i : Nat) : Nat := dictKey (0x4410 + i) 0x05
/-- Entry 4410:06 (domPpsInTime). -/
abbrev K.domPpsInTime (i : Nat) : Nat := dictKey (0x4410 + i) 0x06
/-- Entry 4410:07 (domPhaseError). -/
abbrev K.domPhaseError (i : Nat) : Nat := dictKey (0x4410 + i) 0x07
/-- Entry 4410:08 (domPpsBandwidth). -/
abbrev K.domPpsBandwidth (i : Nat) : Nat := dictKey (0x4410 + i) 0x08
/-- Entry 4410:09 (domPpsLockThreshold). -/
abbrev K.domPpsLockThreshold (i : Nat) : Nat := dictKey (0x4410 + i) 0x09
/-- Entry 4410:0A (domPpsStepThreshold). -/
abbrev K.domPpsStepThreshold (i : Nat) : Nat := dictKey (0x4410 + i) 0x0A
/-- Entry 4410:0B (domHoldoverAverage). -/
abbrev K.domHoldoverAverage (i : Nat) : Nat := dictKey (0x4410 + i) 0x0B
/-- Entry 4420:01 (tmpTsDomainMap). -/
abbrev K.tmpTsDomainMap (i : Nat) : Nat := dictKey (0x4420 + i) 0x01
/-- Entry 4420:02 (tmpGateDomain). -/
abbrev K.tmpGateDomain (i : Nat) : Nat := dictKey (0x4420 + i) 0x02
/-- Entry 4420:03 (tmpGateEnable). -/
abbrev K.tmpGateEnable (i : Nat) : Nat := dictKey (0x4420 + i) 0x03
/-- Entry 4420:04 (tmpAdminBaseTime). -/
abbrev K.tmpAdminBaseTime (i : Nat) : Nat := dictKey (0x4420 + i) 0x04
/-- Entry 4420:05 (tmpAdminCycleTime). -/
abbrev K.tmpAdminCycleTime (i : Nat) : Nat := dictKey (0x4420 + i) 0x05
/-- Entry 4420:06 (tmpAdminCycleTimeExtension). -/
abbrev K.tmpAdminCycleTimeExtension (i : Nat) : Nat := dictKey (0x4420 + i) 0x06
/-- Entry 4420:07 (tmpAdminListLength). -/
abbrev K.tmpAdminListLength (i : Nat) : Nat := dictKey (0x4420 + i) 0x07
/-- Entry 4420:08 (tmpConfigChange). -/
abbrev K.tmpConfigChange (i : Nat) : Nat := dictKey (0x4420 + i) 0x08
/-- Entry 4420:09 (tmpConfigChangeTime). -/
abbrev K.tmpConfigChangeTime (i : Nat) : Nat := dictKey (0x4420 + i) 0x09
/-- Entry 4420:0A (tmpCbsEnable). -/
abbrev K.tmpCbsEnable (i : Nat) : Nat := dictKey (0x4420 + i) 0x0A
/-- Entry 4420:10 (tmpIdleSlope). -/
abbrev K.tmpIdleSlope (i j : Nat) : Nat := dictKey (0x4420 + i) (0x10 + j)
/-- Entry 4420:18 (tmpClassLimit). -/
abbrev K.tmpClassLimit (i j : Nat) : Nat := dictKey (0x4420 + i) (0x18 + j)
/-- Entry 4420:20 (tmpLaunchTolerance). -/
abbrev K.tmpLaunchTolerance (i : Nat) : Nat := dictKey (0x4420 + i) 0x20
/-- Entry 4420:21 (tmpLaunchLateAction). -/
abbrev K.tmpLaunchLateAction (i : Nat) : Nat := dictKey (0x4420 + i) 0x21
/-- Entry 4810:01 (biopRunControl). -/
abbrev K.biopRunControl (i : Nat) : Nat := dictKey (0x4810 + i) 0x01
/-- Entry 4810:02 (biopMode). -/
abbrev K.biopMode (i j : Nat) : Nat := dictKey (0x4810 + i) (0x02 + j)
/-- Entry 4810:12 (biopEntryPoint). -/
abbrev K.biopEntryPoint (i j : Nat) : Nat := dictKey (0x4810 + i) (0x12 + j)
/-- Entry 4810:22 (biopWatchdogLimit). -/
abbrev K.biopWatchdogLimit (i j : Nat) : Nat := dictKey (0x4810 + i) (0x22 + j)
/-- Entry 4810:32 (biopRunState). -/
abbrev K.biopRunState (i : Nat) : Nat := dictKey (0x4810 + i) 0x32
/-- Entry 4820:01 (unitMode). -/
abbrev K.unitMode (i : Nat) : Nat := dictKey (0x4820 + i) 0x01
/-- Entry 4820:02 (unitRxPin). -/
abbrev K.unitRxPin (i : Nat) : Nat := dictKey (0x4820 + i) 0x02
/-- Entry 4820:03 (unitTxPin). -/
abbrev K.unitTxPin (i : Nat) : Nat := dictKey (0x4820 + i) 0x03
/-- Entry 4820:04 (unitAuxPin). -/
abbrev K.unitAuxPin (i : Nat) : Nat := dictKey (0x4820 + i) 0x04
/-- Entry 4820:05 (unitOwnerThread). -/
abbrev K.unitOwnerThread (i : Nat) : Nat := dictKey (0x4820 + i) 0x05
/-- Entry 4820:06 (unitNominalBitCycles). -/
abbrev K.unitNominalBitCycles (i : Nat) : Nat := dictKey (0x4820 + i) 0x06
/-- Entry 4820:07 (unitNominalSample). -/
abbrev K.unitNominalSample (i : Nat) : Nat := dictKey (0x4820 + i) 0x07
/-- Entry 4820:08 (unitNominalSjw). -/
abbrev K.unitNominalSjw (i : Nat) : Nat := dictKey (0x4820 + i) 0x08
/-- Entry 4820:09 (unitDataBitCycles). -/
abbrev K.unitDataBitCycles (i : Nat) : Nat := dictKey (0x4820 + i) 0x09
/-- Entry 4820:0A (unitDataSample). -/
abbrev K.unitDataSample (i : Nat) : Nat := dictKey (0x4820 + i) 0x0A
/-- Entry 4820:0B (unitDataSjw). -/
abbrev K.unitDataSjw (i : Nat) : Nat := dictKey (0x4820 + i) 0x0B
/-- Entry 4820:0C (unitSspOffset). -/
abbrev K.unitSspOffset (i : Nat) : Nat := dictKey (0x4820 + i) 0x0C
/-- Entry 4820:0D (unitBreakBits). -/
abbrev K.unitBreakBits (i : Nat) : Nat := dictKey (0x4820 + i) 0x0D
/-- Entry 4840:01 (bridgeBridgeMac). -/
abbrev K.bridgeBridgeMac : Nat := dictKey 0x4840 0x01
/-- Entry 4848:01 (bstrEnable). -/
abbrev K.bstrEnable (i : Nat) : Nat := dictKey (0x4848 + i) 0x01
/-- Entry 4848:02 (bstrDestinationMac). -/
abbrev K.bstrDestinationMac (i : Nat) : Nat := dictKey (0x4848 + i) 0x02
/-- Entry 4848:03 (bstrTagWord). -/
abbrev K.bstrTagWord (i : Nat) : Nat := dictKey (0x4848 + i) 0x03
/-- Entry 4848:04 (bstrStreamId). -/
abbrev K.bstrStreamId (i : Nat) : Nat := dictKey (0x4848 + i) 0x04
/-- Entry 4848:05 (bstrMaxFrameBytes). -/
abbrev K.bstrMaxFrameBytes (i : Nat) : Nat := dictKey (0x4848 + i) 0x05
/-- Entry 4848:06 (bstrBatchTimeout). -/
abbrev K.bstrBatchTimeout (i : Nat) : Nat := dictKey (0x4848 + i) 0x06
/-- Entry 4848:07 (bstrTsDomain). -/
abbrev K.bstrTsDomain (i : Nat) : Nat := dictKey (0x4848 + i) 0x07
/-- Entry 4860:01 (bchUnit). -/
abbrev K.bchUnit (i : Nat) : Nat := dictKey (0x4860 + i) 0x01
/-- Entry 4860:02 (bchUpStream). -/
abbrev K.bchUpStream (i : Nat) : Nat := dictKey (0x4860 + i) 0x02
/-- Entry 4860:03 (bchBusId). -/
abbrev K.bchBusId (i : Nat) : Nat := dictKey (0x4860 + i) 0x03
/-- Entry 4860:04 (bchDownRingBase). -/
abbrev K.bchDownRingBase (i : Nat) : Nat := dictKey (0x4860 + i) 0x04
/-- Entry 4860:05 (bchDownRingBytes). -/
abbrev K.bchDownRingBytes (i : Nat) : Nat := dictKey (0x4860 + i) 0x05
/-- Entry 4A00:01 (dramChannels). -/
abbrev K.dramChannels : Nat := dictKey 0x4A00 0x01
/-- Entry 4A00:02 (dramDeviceWidth). -/
abbrev K.dramDeviceWidth : Nat := dictKey 0x4A00 0x02
/-- Entry 4A00:03 (dramDeviceDensity). -/
abbrev K.dramDeviceDensity : Nat := dictKey 0x4A00 0x03
/-- Entry 4A00:04 (dramRanks). -/
abbrev K.dramRanks : Nat := dictKey 0x4A00 0x04
/-- Entry 4A00:05 (dramSpeedBin). -/
abbrev K.dramSpeedBin : Nat := dictKey 0x4A00 0x05
/-- Entry 4A00:06 (dramAddressMap). -/
abbrev K.dramAddressMap : Nat := dictKey 0x4A00 0x06
/-- Entry 4A00:07 (dramDramState). -/
abbrev K.dramDramState : Nat := dictKey 0x4A00 0x07
/-- Entry 4A00:08 (dramTrainStep). -/
abbrev K.dramTrainStep : Nat := dictKey 0x4A00 0x08
/-- Entry 4A00:09 (dramInstalledBytes). -/
abbrev K.dramInstalledBytes : Nat := dictKey 0x4A00 0x09
/-- Entry 4A00:0A (dramMetaBytes). -/
abbrev K.dramMetaBytes : Nat := dictKey 0x4A00 0x0A
/-- Entry 4A00:0B (dramPeriodicCal). -/
abbrev K.dramPeriodicCal : Nat := dictKey 0x4A00 0x0B
/-- Entry 4A00:0C (dramScrubPeriod). -/
abbrev K.dramScrubPeriod : Nat := dictKey 0x4A00 0x0C
/-- Entry 4A10:01 (dchWriteHigh). -/
abbrev K.dchWriteHigh (i : Nat) : Nat := dictKey (0x4A10 + i) 0x01
/-- Entry 4A10:02 (dchWriteLow). -/
abbrev K.dchWriteLow (i : Nat) : Nat := dictKey (0x4A10 + i) 0x02
/-- Entry 4A10:03 (dchWriteMaxAge). -/
abbrev K.dchWriteMaxAge (i : Nat) : Nat := dictKey (0x4A10 + i) 0x03
/-- Entry 4A10:04 (dchRowHitCap). -/
abbrev K.dchRowHitCap (i : Nat) : Nat := dictKey (0x4A10 + i) 0x04
/-- Entry 4A10:05 (dchRetryLimit). -/
abbrev K.dchRetryLimit (i : Nat) : Nat := dictKey (0x4A10 + i) 0x05
/-- Entry 4A10:06 (dchRhThreshold). -/
abbrev K.dchRhThreshold (i : Nat) : Nat := dictKey (0x4A10 + i) 0x06
/-- Entry 4A10:07 (dchReplaceLimit). -/
abbrev K.dchReplaceLimit (i : Nat) : Nat := dictKey (0x4A10 + i) 0x07
/-- Entry 4A10:08 (dchBlastRadius). -/
abbrev K.dchBlastRadius (i : Nat) : Nat := dictKey (0x4A10 + i) 0x08
/-- Entry 4A10:09 (dchRfmEnable). -/
abbrev K.dchRfmEnable (i : Nat) : Nat := dictKey (0x4A10 + i) 0x09
/-- Entry 4A10:0A (dchThrottleInterval). -/
abbrev K.dchThrottleInterval (i : Nat) : Nat := dictKey (0x4A10 + i) 0x0A
/-- Entry 4A10:0B (dchPowerDownIdle). -/
abbrev K.dchPowerDownIdle (i : Nat) : Nat := dictKey (0x4A10 + i) 0x0B
/-- Entry 4A10:0C (dchRefreshMode). -/
abbrev K.dchRefreshMode (i : Nat) : Nat := dictKey (0x4A10 + i) 0x0C
/-- Entry 4A10:0D (dchChannelState). -/
abbrev K.dchChannelState (i : Nat) : Nat := dictKey (0x4A10 + i) 0x0D
/-- Entry 4A20:01 (drgBase). -/
abbrev K.drgBase (i : Nat) : Nat := dictKey (0x4A20 + i) 0x01
/-- Entry 4A20:02 (drgSize). -/
abbrev K.drgSize (i : Nat) : Nat := dictKey (0x4A20 + i) 0x02
/-- Entry 4A20:03 (drgKind). -/
abbrev K.drgKind (i : Nat) : Nat := dictKey (0x4A20 + i) 0x03
/-- Entry 4A20:04 (drgInitAtBoot). -/
abbrev K.drgInitAtBoot (i : Nat) : Nat := dictKey (0x4A20 + i) 0x04
/-- Entry 4A20:05 (drgState). -/
abbrev K.drgState (i : Nat) : Nat := dictKey (0x4A20 + i) 0x05
/-- Entry 4C00:01 (dmaChannels). -/
abbrev K.dmaChannels : Nat := dictKey 0x4C00 0x01
/-- Entry 4C00:02 (dmaCqBase). -/
abbrev K.dmaCqBase : Nat := dictKey 0x4C00 0x02
/-- Entry 4C00:03 (dmaCqEntries). -/
abbrev K.dmaCqEntries : Nat := dictKey 0x4C00 0x03
/-- Entry 4C00:04 (dmaCqEnable). -/
abbrev K.dmaCqEnable : Nat := dictKey 0x4C00 0x04
/-- Entry 4C00:05 (dmaCqHead). -/
abbrev K.dmaCqHead : Nat := dictKey 0x4C00 0x05
/-- Entry 4C00:06 (dmaCqTail). -/
abbrev K.dmaCqTail : Nat := dictKey 0x4C00 0x06
/-- Entry 5000:01 (binLifeCycle). -/
abbrev K.binLifeCycle : Nat := dictKey 0x5000 0x01
/-- Entry 5000:02 (binLifeCycleRequest). -/
abbrev K.binLifeCycleRequest : Nat := dictKey 0x5000 0x02
/-- Entry 5000:03 (binBinnacleState). -/
abbrev K.binBinnacleState : Nat := dictKey 0x5000 0x03
/-- Entry 5000:04 (binBootState). -/
abbrev K.binBootState : Nat := dictKey 0x5000 0x04
/-- Entry 5000:05 (binReturnAuthorisation). -/
abbrev K.binReturnAuthorisation : Nat := dictKey 0x5000 0x05
/-- Entry 5000:06 (binLifeCycleNonce). -/
abbrev K.binLifeCycleNonce : Nat := dictKey 0x5000 0x06
/-- Entry 5000:07 (binDeviceSerial). -/
abbrev K.binDeviceSerial : Nat := dictKey 0x5000 0x07
/-- Entry 5000:08 (binDevIdPublicKey). -/
abbrev K.binDevIdPublicKey : Nat := dictKey 0x5000 0x08
/-- Entry 5000:09 (binAttestPublicKey). -/
abbrev K.binAttestPublicKey : Nat := dictKey 0x5000 0x09
/-- Entry 5000:0A (binAttestCertificate). -/
abbrev K.binAttestCertificate : Nat := dictKey 0x5000 0x0A
/-- Entry 5000:0B (binScrapConfirm). -/
abbrev K.binScrapConfirm : Nat := dictKey 0x5000 0x0B
/-- Entry 5000:0C (binOemKeyRevoke). -/
abbrev K.binOemKeyRevoke : Nat := dictKey 0x5000 0x0C
/-- Entry 5000:0D (binKwkExportRecipient). -/
abbrev K.binKwkExportRecipient : Nat := dictKey 0x5000 0x0D
/-- Entry 5000:0E (binKwkExport). -/
abbrev K.binKwkExport : Nat := dictKey 0x5000 0x0E
/-- Entry 5000:10 (binRollbackCounter). -/
abbrev K.binRollbackCounter (j : Nat) : Nat := dictKey 0x5000 (0x10 + j)
/-- Entry 5000:18 (binMR). -/
abbrev K.binMR (j : Nat) : Nat := dictKey 0x5000 (0x18 + j)
/-- Entry 5000:20 (binQuoteNonce). -/
abbrev K.binQuoteNonce : Nat := dictKey 0x5000 0x20
/-- Entry 5000:21 (binQuote). -/
abbrev K.binQuote : Nat := dictKey 0x5000 0x21
/-- Entry 5000:30 (binTamperAction). -/
abbrev K.binTamperAction (j : Nat) : Nat := dictKey 0x5000 (0x30 + j)
/-- Entry 5000:38 (binZeroise). -/
abbrev K.binZeroise : Nat := dictKey 0x5000 0x38
/-- Entry 1000:01 (idVendorName). -/
abbrev K.idVendorName : Nat := dictKey 0x1000 0x01
/-- Entry 1000:02 (idFamilyName). -/
abbrev K.idFamilyName : Nat := dictKey 0x1000 0x02
/-- Entry 1000:03 (idPartNumber). -/
abbrev K.idPartNumber : Nat := dictKey 0x1000 0x03
/-- Entry 1000:04 (idVariant). -/
abbrev K.idVariant : Nat := dictKey 0x1000 0x04
/-- Entry 1000:05 (idSiliconStep). -/
abbrev K.idSiliconStep : Nat := dictKey 0x1000 0x05
/-- Entry 1000:06 (idDeviceSerial). -/
abbrev K.idDeviceSerial : Nat := dictKey 0x1000 0x06
/-- Entry 1000:07 (idLifeCycle). -/
abbrev K.idLifeCycle : Nat := dictKey 0x1000 0x07
/-- Entry 1000:08 (idBootState). -/
abbrev K.idBootState : Nat := dictKey 0x1000 0x08
/-- Entry 1000:09 (idPilotFirmwareBuild). -/
abbrev K.idPilotFirmwareBuild : Nat := dictKey 0x1000 0x09
/-- Entry 1000:0A (idConfigSequence). -/
abbrev K.idConfigSequence : Nat := dictKey 0x1000 0x0A
/-- Entry 1000:0B (idUdaVersion). -/
abbrev K.idUdaVersion : Nat := dictKey 0x1000 0x0B
/-- Entry 1000:10 (idClusters). -/
abbrev K.idClusters : Nat := dictKey 0x1000 0x10
/-- Entry 1000:11 (idDefaultLockstepPairs). -/
abbrev K.idDefaultLockstepPairs : Nat := dictKey 0x1000 0x11
/-- Entry 1000:12 (idSerdesLanes). -/
abbrev K.idSerdesLanes : Nat := dictKey 0x1000 0x12
/-- Entry 1000:13 (idBackbonePorts). -/
abbrev K.idBackbonePorts : Nat := dictKey 0x1000 0x13
/-- Entry 1000:14 (idOrchardBytes). -/
abbrev K.idOrchardBytes : Nat := dictKey 0x1000 0x14
/-- Entry 1000:15 (idDramChannels). -/
abbrev K.idDramChannels : Nat := dictKey 0x1000 0x15
/-- Entry 1000:16 (idBrambleReplicas). -/
abbrev K.idBrambleReplicas : Nat := dictKey 0x1000 0x16
/-- Entry 1000:17 (idBrambleBuckets). -/
abbrev K.idBrambleBuckets : Nat := dictKey 0x1000 0x17
/-- Entry 1000:18 (idRuleEntries). -/
abbrev K.idRuleEntries : Nat := dictKey 0x1000 0x18
/-- Entry 1000:19 (idPatterns). -/
abbrev K.idPatterns : Nat := dictKey 0x1000 0x19
/-- Entry 1000:1A (idLodestarStreams). -/
abbrev K.idLodestarStreams : Nat := dictKey 0x1000 0x1A
/-- Entry 1000:1B (idOrderDomains). -/
abbrev K.idOrderDomains : Nat := dictKey 0x1000 0x1B
/-- Entry 1000:1C (idJournalEntries). -/
abbrev K.idJournalEntries : Nat := dictKey 0x1000 0x1C
/-- Entry 1000:1D (idBarrelProcessors). -/
abbrev K.idBarrelProcessors : Nat := dictKey 0x1000 0x1D
/-- Entry 1000:1E (idFioPins). -/
abbrev K.idFioPins : Nat := dictKey 0x1000 0x1E
/-- Entry 1000:1F (idPilotCores). -/
abbrev K.idPilotCores : Nat := dictKey 0x1000 0x1F
/-- Entry 1010:01 (udaUdaPort). -/
abbrev K.udaUdaPort : Nat := dictKey 0x1010 0x01
/-- Entry 1010:02 (udaUdaIpv4). -/
abbrev K.udaUdaIpv4 : Nat := dictKey 0x1010 0x02
/-- Entry 1010:03 (udaUdaIpv6). -/
abbrev K.udaUdaIpv6 : Nat := dictKey 0x1010 0x03
/-- Entry 1010:04 (udaUdaPortMask). -/
abbrev K.udaUdaPortMask : Nat := dictKey 0x1010 0x04
/-- Entry 1010:05 (udaUdaRate). -/
abbrev K.udaUdaRate : Nat := dictKey 0x1010 0x05
/-- Entry 1010:06 (udaUdaClass). -/
abbrev K.udaUdaClass : Nat := dictKey 0x1010 0x06
/-- Entry 1010:07 (udaUdaIdle). -/
abbrev K.udaUdaIdle : Nat := dictKey 0x1010 0x07
/-- Entry 1010:08 (udaWindowRole). -/
abbrev K.udaWindowRole : Nat := dictKey 0x1010 0x08
/-- Entry 1010:09 (udaPskKeyId). -/
abbrev K.udaPskKeyId (j : Nat) : Nat := dictKey 0x1010 (0x09 + j)
/-- Entry 1010:11 (udaPskRole). -/
abbrev K.udaPskRole (j : Nat) : Nat := dictKey 0x1010 (0x11 + j)
/-- Entry 1010:19 (udaHostKeyHash). -/
abbrev K.udaHostKeyHash (j : Nat) : Nat := dictKey 0x1010 (0x19 + j)
/-- Entry 1010:21 (udaHostKeyRole). -/
abbrev K.udaHostKeyRole (j : Nat) : Nat := dictKey 0x1010 (0x21 + j)
/-- Entry 1010:29 (udaUdaCanChannel). -/
abbrev K.udaUdaCanChannel : Nat := dictKey 0x1010 0x29
/-- Entry 1010:2A (udaUdaCanRxId). -/
abbrev K.udaUdaCanRxId : Nat := dictKey 0x1010 0x2A
/-- Entry 1010:2B (udaUdaCanTxId). -/
abbrev K.udaUdaCanTxId : Nat := dictKey 0x1010 0x2B
/-- Entry 1010:2C (udaUdaCanSdt). -/
abbrev K.udaUdaCanSdt : Nat := dictKey 0x1010 0x2C
/-- Entry 1010:2D (udaUdaCanReqChannel). -/
abbrev K.udaUdaCanReqChannel : Nat := dictKey 0x1010 0x2D
/-- Entry 1010:2E (udaUdaCanRspChannel). -/
abbrev K.udaUdaCanRspChannel : Nat := dictKey 0x1010 0x2E
/-- Entry 1010:2F (udaUdaCanRspBuf). -/
abbrev K.udaUdaCanRspBuf : Nat := dictKey 0x1010 0x2F
/-- Entry 1020:01 (cmtCommitState). -/
abbrev K.cmtCommitState : Nat := dictKey 0x1020 0x01
/-- Entry 1020:02 (cmtLastResult). -/
abbrev K.cmtLastResult : Nat := dictKey 0x1020 0x02
/-- Entry 1020:03 (cmtExportImage). -/
abbrev K.cmtExportImage : Nat := dictKey 0x1020 0x03
/-- Entry 1020:04 (cmtImageUpload). -/
abbrev K.cmtImageUpload : Nat := dictKey 0x1020 0x04
/-- Entry 1020:05 (cmtInForceBank). -/
abbrev K.cmtInForceBank : Nat := dictKey 0x1020 0x05
/-- Entry 1020:06 (cmtStagedWrites). -/
abbrev K.cmtStagedWrites : Nat := dictKey 0x1020 0x06
/-- Entry 5800:01 (almSlots). -/
abbrev K.almSlots : Nat := dictKey 0x5800 0x01
/-- Entry 5800:02 (almHeldRecords). -/
abbrev K.almHeldRecords : Nat := dictKey 0x5800 0x02
/-- Entry 5800:03 (almHeadSeq). -/
abbrev K.almHeadSeq : Nat := dictKey 0x5800 0x03
/-- Entry 5800:05 (almEvictions). -/
abbrev K.almEvictions : Nat := dictKey 0x5800 0x05
/-- Entry 5800:06 (almBackgroundSeverity). -/
abbrev K.almBackgroundSeverity : Nat := dictKey 0x5800 0x06
/-- Entry 5800:07 (almUrgentSeverity). -/
abbrev K.almUrgentSeverity : Nat := dictKey 0x5800 0x07
/-- Entry 5800:08 (almPowerFailMinSeverity). -/
abbrev K.almPowerFailMinSeverity : Nat := dictKey 0x5800 0x08
/-- Entry 5800:09 (almPowerFailRecords). -/
abbrev K.almPowerFailRecords : Nat := dictKey 0x5800 0x09
/-- Entry 5800:0A (almFlushDelay). -/
abbrev K.almFlushDelay : Nat := dictKey 0x5800 0x0A
/-- Entry 5800:0B (almFlashType). -/
abbrev K.almFlashType : Nat := dictKey 0x5800 0x0B
/-- Entry 5800:0C (almFlashBase). -/
abbrev K.almFlashBase : Nat := dictKey 0x5800 0x0C
/-- Entry 5800:0D (almFlashSectors). -/
abbrev K.almFlashSectors : Nat := dictKey 0x5800 0x0D
/-- Entry 5800:0E (almClear). -/
abbrev K.almClear : Nat := dictKey 0x5800 0x0E
/-- Entry 5800:0F (almProgramTimeMax). -/
abbrev K.almProgramTimeMax : Nat := dictKey 0x5800 0x0F
/-- Entry 5800:10 (almSuspendTimeMax). -/
abbrev K.almSuspendTimeMax : Nat := dictKey 0x5800 0x10
/-- Entry 5800:11 (almFlashState). -/
abbrev K.almFlashState : Nat := dictKey 0x5800 0x11
/-- Entry 5810:01 (trcTraceOutput). -/
abbrev K.trcTraceOutput : Nat := dictKey 0x5810 0x01
/-- Entry 5810:02 (trcTraceClock). -/
abbrev K.trcTraceClock : Nat := dictKey 0x5810 0x02
/-- Entry 5810:03 (trcTraceDestMac). -/
abbrev K.trcTraceDestMac : Nat := dictKey 0x5810 0x03
/-- Entry 5810:04 (trcTraceSrcMac). -/
abbrev K.trcTraceSrcMac : Nat := dictKey 0x5810 0x04
/-- Entry 5810:05 (trcTraceClass). -/
abbrev K.trcTraceClass : Nat := dictKey 0x5810 0x05
/-- Entry 5810:06 (trcTraceM0Rate). -/
abbrev K.trcTraceM0Rate : Nat := dictKey 0x5810 0x06
/-- Entry 5810:07 (trcTraceThread). -/
abbrev K.trcTraceThread (j : Nat) : Nat := dictKey 0x5810 (0x07 + j)
/-- Entry 5810:0F (trcJourneyClassMask). -/
abbrev K.trcJourneyClassMask (j : Nat) : Nat := dictKey 0x5810 (0x0F + j)
/-- Entry 5810:13 (trcJourneySample). -/
abbrev K.trcJourneySample : Nat := dictKey 0x5810 0x13
/-- Entry 5810:14 (trcCounterInterval). -/
abbrev K.trcCounterInterval : Nat := dictKey 0x5810 0x14
/-- Entry 5810:15 (trcMirrorSeverity). -/
abbrev K.trcMirrorSeverity : Nat := dictKey 0x5810 0x15
/-- Entry 5400:01 (sndSoundingEnable). -/
abbrev K.sndSoundingEnable : Nat := dictKey 0x5400 0x01
/-- Entry 5400:02 (sndMemoryPassPeriod). -/
abbrev K.sndMemoryPassPeriod : Nat := dictKey 0x5400 0x02
/-- Entry 5400:03 (sndLogicSliceInterval). -/
abbrev K.sndLogicSliceInterval : Nat := dictKey 0x5400 0x03
/-- Entry 5400:04 (sndDrainLimit). -/
abbrev K.sndDrainLimit : Nat := dictKey 0x5400 0x04
/-- Entry 5400:05 (sndOutOfServiceCores). -/
abbrev K.sndOutOfServiceCores : Nat := dictKey 0x5400 0x05
/-- Entry 5400:06 (sndOutOfServiceClusters). -/
abbrev K.sndOutOfServiceClusters : Nat := dictKey 0x5400 0x06
/-- Entry 5400:07 (sndSparesFree). -/
abbrev K.sndSparesFree : Nat := dictKey 0x5400 0x07
/-- Entry 5400:08 (sndFullTest). -/
abbrev K.sndFullTest : Nat := dictKey 0x5400 0x08
/-- Entry 5410:01 (safFaultStatus). -/
abbrev K.safFaultStatus : Nat := dictKey 0x5410 0x01
/-- Entry 5410:02 (safLodestarInSafeState). -/
abbrev K.safLodestarInSafeState : Nat := dictKey 0x5410 0x02
/-- Entry 5410:03 (safSafeResetDelay). -/
abbrev K.safSafeResetDelay : Nat := dictKey 0x5410 0x03
/-- Entry 5410:04 (safSafeRelease). -/
abbrev K.safSafeRelease : Nat := dictKey 0x5410 0x04
/-- Entry 5410:05 (safPilotWatchdogTime). -/
abbrev K.safPilotWatchdogTime : Nat := dictKey 0x5410 0x05
/-- Entry 5410:06 (safPilotKick). -/
abbrev K.safPilotKick : Nat := dictKey 0x5410 0x06
/-- Entry 5410:07 (safDeviceKick). -/
abbrev K.safDeviceKick : Nat := dictKey 0x5410 0x07
/-- Entry 5410:08 (safDeviceWdMin). -/
abbrev K.safDeviceWdMin : Nat := dictKey 0x5410 0x08
/-- Entry 5410:09 (safDeviceWdMax). -/
abbrev K.safDeviceWdMax : Nat := dictKey 0x5410 0x09
/-- Entry 1040:01 (rstResetRequest). -/
abbrev K.rstResetRequest : Nat := dictKey 0x1040 0x01
/-- Entry 1040:02 (rstLastResetCause). -/
abbrev K.rstLastResetCause : Nat := dictKey 0x1040 0x02
/-- Entry 1040:03 (rstResetCount). -/
abbrev K.rstResetCount : Nat := dictKey 0x1040 0x03
/-- Entry 1040:04 (rstLodestarReadyTime). -/
abbrev K.rstLodestarReadyTime : Nat := dictKey 0x1040 0x04
/-- Entry 1040:05 (rstFullServiceTime). -/
abbrev K.rstFullServiceTime : Nat := dictKey 0x1040 0x05
/-- Entry 1040:06 (rstAvsEnable). -/
abbrev K.rstAvsEnable : Nat := dictKey 0x1040 0x06
/-- Entry 1040:07 (rstAvsState). -/
abbrev K.rstAvsState : Nat := dictKey 0x1040 0x07
/-- Entry 1040:08 (rstCoreVoltage). -/
abbrev K.rstCoreVoltage : Nat := dictKey 0x1040 0x08
/-- Entry 1040:09 (rstDieTemperature). -/
abbrev K.rstDieTemperature : Nat := dictKey 0x1040 0x09
/-- Entry 1040:0A (rstPowerFailLatched). -/
abbrev K.rstPowerFailLatched : Nat := dictKey 0x1040 0x0A
/-- Entry 1040:0B (rstDirectoryCopy). -/
abbrev K.rstDirectoryCopy : Nat := dictKey 0x1040 0x0B
/-- Entry 3A00:01 (dispLevelMask). -/
abbrev K.dispLevelMask (i j : Nat) : Nat := dictKey (0x3A00 + i) (0x01 + j)
/-- Entry 3B00:01 (dispFlowAffinity). -/
abbrev K.dispFlowAffinity (i j : Nat) : Nat := dictKey (0x3B00 + i) (0x01 + j)
/-- Entry 2200:01 (secyEnable). -/
abbrev K.secyEnable (i : Nat) : Nat := dictKey (0x2200 + i) 0x01
/-- Entry 2200:02 (secyCipherSuite). -/
abbrev K.secyCipherSuite (i : Nat) : Nat := dictKey (0x2200 + i) 0x02
/-- Entry 2200:03 (secyValidateFrames). -/
abbrev K.secyValidateFrames (i : Nat) : Nat := dictKey (0x2200 + i) 0x03
/-- Entry 2200:04 (secyReplayProtect). -/
abbrev K.secyReplayProtect (i : Nat) : Nat := dictKey (0x2200 + i) 0x04
/-- Entry 2200:05 (secyReplayWindow). -/
abbrev K.secyReplayWindow (i : Nat) : Nat := dictKey (0x2200 + i) 0x05
/-- Entry 2200:06 (secyConfidentialityOffset). -/
abbrev K.secyConfidentialityOffset (i : Nat) : Nat := dictKey (0x2200 + i) 0x06
/-- Entry 2200:07 (secyTxSCI). -/
abbrev K.secyTxSCI (i : Nat) : Nat := dictKey (0x2200 + i) 0x07
/-- Entry 2200:08 (secyIncludeSCI). -/
abbrev K.secyIncludeSCI (i : Nat) : Nat := dictKey (0x2200 + i) 0x08
/-- Entry 2200:09 (secyProtectFrames). -/
abbrev K.secyProtectFrames (i : Nat) : Nat := dictKey (0x2200 + i) 0x09
/-- Entry 2200:0A (secyEncodingSA). -/
abbrev K.secyEncodingSA (i : Nat) : Nat := dictKey (0x2200 + i) 0x0A
/-- Entry 2200:0B (secyPnThreshold). -/
abbrev K.secyPnThreshold (i : Nat) : Nat := dictKey (0x2200 + i) 0x0B
/-- Entry 2200:0C (secyConfidentialityProtection). -/
abbrev K.secyConfidentialityProtection (i : Nat) : Nat := dictKey (0x2200 + i) 0x0C
/-- Entry 1030:01 (sesSessionsOpen). -/
abbrev K.sesSessionsOpen : Nat := dictKey 0x1030 0x01
/-- Entry 1030:02 (sesSession). -/
abbrev K.sesSession (j : Nat) : Nat := dictKey 0x1030 (0x02 + j)
/-- Entry 6010:01 (ctrPortRxFrames). -/
abbrev K.ctrPortRxFrames (i : Nat) : Nat := dictKey (0x6010 + i) 0x01
/-- Entry 6010:02 (ctrPortRxBytes). -/
abbrev K.ctrPortRxBytes (i : Nat) : Nat := dictKey (0x6010 + i) 0x02
/-- Entry 6010:03 (ctrPortRxRunt). -/
abbrev K.ctrPortRxRunt (i : Nat) : Nat := dictKey (0x6010 + i) 0x03
/-- Entry 6010:04 (ctrPortRxOversize). -/
abbrev K.ctrPortRxOversize (i : Nat) : Nat := dictKey (0x6010 + i) 0x04
/-- Entry 6010:05 (ctrPortRxFcsError). -/
abbrev K.ctrPortRxFcsError (i : Nat) : Nat := dictKey (0x6010 + i) 0x05
/-- Entry 6010:06 (ctrPortRxCodeError). -/
abbrev K.ctrPortRxCodeError (i : Nat) : Nat := dictKey (0x6010 + i) 0x06
/-- Entry 6010:07 (ctrPortRxAssemblyError). -/
abbrev K.ctrPortRxAssemblyError (i : Nat) : Nat := dictKey (0x6010 + i) 0x07
/-- Entry 6010:08 (ctrPortRxPauseFrames). -/
abbrev K.ctrPortRxPauseFrames (i : Nat) : Nat := dictKey (0x6010 + i) 0x08
/-- Entry 6010:09 (ctrPortRxPauseIgnored). -/
abbrev K.ctrPortRxPauseIgnored (i : Nat) : Nat := dictKey (0x6010 + i) 0x09
/-- Entry 6010:0A (ctrPortTxFrames). -/
abbrev K.ctrPortTxFrames (i : Nat) : Nat := dictKey (0x6010 + i) 0x0A
/-- Entry 6010:0B (ctrPortTxBytes). -/
abbrev K.ctrPortTxBytes (i : Nat) : Nat := dictKey (0x6010 + i) 0x0B
/-- Entry 6010:0C (ctrPortTxPauseFrames). -/
abbrev K.ctrPortTxPauseFrames (i : Nat) : Nat := dictKey (0x6010 + i) 0x0C
/-- Entry 6010:0D (ctrPortTxFramesExpress). -/
abbrev K.ctrPortTxFramesExpress (i : Nat) : Nat := dictKey (0x6010 + i) 0x0D
/-- Entry 6010:0E (ctrPortTxFramesPreemptable). -/
abbrev K.ctrPortTxFramesPreemptable (i : Nat) : Nat := dictKey (0x6010 + i) 0x0E
/-- Entry 6010:0F (ctrPortMacMergeFragCountTx). -/
abbrev K.ctrPortMacMergeFragCountTx (i : Nat) : Nat := dictKey (0x6010 + i) 0x0F
/-- Entry 6010:10 (ctrPortMacMergeFragCountRx). -/
abbrev K.ctrPortMacMergeFragCountRx (i : Nat) : Nat := dictKey (0x6010 + i) 0x10
/-- Entry 6020:01 (ctrSecInPktsOK). -/
abbrev K.ctrSecInPktsOK (i : Nat) : Nat := dictKey (0x6020 + i) 0x01
/-- Entry 6020:02 (ctrSecInPktsDelayed). -/
abbrev K.ctrSecInPktsDelayed (i : Nat) : Nat := dictKey (0x6020 + i) 0x02
/-- Entry 6020:03 (ctrSecInPktsUnchecked). -/
abbrev K.ctrSecInPktsUnchecked (i : Nat) : Nat := dictKey (0x6020 + i) 0x03
/-- Entry 6020:04 (ctrSecInPktsInvalid). -/
abbrev K.ctrSecInPktsInvalid (i : Nat) : Nat := dictKey (0x6020 + i) 0x04
/-- Entry 6020:05 (ctrSecInPktsNotValid). -/
abbrev K.ctrSecInPktsNotValid (i : Nat) : Nat := dictKey (0x6020 + i) 0x05
/-- Entry 6020:06 (ctrSecInPktsLate). -/
abbrev K.ctrSecInPktsLate (i : Nat) : Nat := dictKey (0x6020 + i) 0x06
/-- Entry 6020:07 (ctrSecInPktsNoSCI). -/
abbrev K.ctrSecInPktsNoSCI (i : Nat) : Nat := dictKey (0x6020 + i) 0x07
/-- Entry 6020:08 (ctrSecInPktsUnknownSCI). -/
abbrev K.ctrSecInPktsUnknownSCI (i : Nat) : Nat := dictKey (0x6020 + i) 0x08
/-- Entry 6020:09 (ctrSecInPktsNotUsingSA). -/
abbrev K.ctrSecInPktsNotUsingSA (i : Nat) : Nat := dictKey (0x6020 + i) 0x09
/-- Entry 6020:0A (ctrSecInPktsUnusedSA). -/
abbrev K.ctrSecInPktsUnusedSA (i : Nat) : Nat := dictKey (0x6020 + i) 0x0A
/-- Entry 6020:0B (ctrSecInPktsBadTag). -/
abbrev K.ctrSecInPktsBadTag (i : Nat) : Nat := dictKey (0x6020 + i) 0x0B
/-- Entry 6020:0C (ctrSecInPktsNoTag). -/
abbrev K.ctrSecInPktsNoTag (i : Nat) : Nat := dictKey (0x6020 + i) 0x0C
/-- Entry 6020:0D (ctrSecInPktsUntagged). -/
abbrev K.ctrSecInPktsUntagged (i : Nat) : Nat := dictKey (0x6020 + i) 0x0D
/-- Entry 6020:0E (ctrSecOutPktsProtected). -/
abbrev K.ctrSecOutPktsProtected (i : Nat) : Nat := dictKey (0x6020 + i) 0x0E
/-- Entry 6020:0F (ctrSecOutPktsEncrypted). -/
abbrev K.ctrSecOutPktsEncrypted (i : Nat) : Nat := dictKey (0x6020 + i) 0x0F
/-- Entry 6020:10 (ctrSecOutPktsUntagged). -/
abbrev K.ctrSecOutPktsUntagged (i : Nat) : Nat := dictKey (0x6020 + i) 0x10
/-- Entry 6020:11 (ctrSecOutPktsTooLong). -/
abbrev K.ctrSecOutPktsTooLong (i : Nat) : Nat := dictKey (0x6020 + i) 0x11
/-- Entry 6020:12 (ctrSecTxPnExhausted). -/
abbrev K.ctrSecTxPnExhausted (i : Nat) : Nat := dictKey (0x6020 + i) 0x12
/-- Entry 6020:13 (ctrSecTxNoSA). -/
abbrev K.ctrSecTxNoSA (i : Nat) : Nat := dictKey (0x6020 + i) 0x13
/-- Entry 6020:14 (ctrSecTxSecYDrops). -/
abbrev K.ctrSecTxSecYDrops (i : Nat) : Nat := dictKey (0x6020 + i) 0x14
/-- Entry 6030:01 (ctrPrsParseOk). -/
abbrev K.ctrPrsParseOk (i : Nat) : Nat := dictKey (0x6030 + i) 0x01
/-- Entry 6030:02 (ctrPrsParseUnknownNext). -/
abbrev K.ctrPrsParseUnknownNext (i : Nat) : Nat := dictKey (0x6030 + i) 0x02
/-- Entry 6030:03 (ctrPrsParseTooDeep). -/
abbrev K.ctrPrsParseTooDeep (i : Nat) : Nat := dictKey (0x6030 + i) 0x03
/-- Entry 6030:04 (ctrPrsParseTruncated). -/
abbrev K.ctrPrsParseTruncated (i : Nat) : Nat := dictKey (0x6030 + i) 0x04
/-- Entry 6030:05 (ctrPrsParseBeyondReach). -/
abbrev K.ctrPrsParseBeyondReach (i : Nat) : Nat := dictKey (0x6030 + i) 0x05
/-- Entry 6030:06 (ctrPrsParseBadLength). -/
abbrev K.ctrPrsParseBadLength (i : Nat) : Nat := dictKey (0x6030 + i) 0x06
/-- Entry 6030:07 (ctrPrsParseBadChecksum). -/
abbrev K.ctrPrsParseBadChecksum (i : Nat) : Nat := dictKey (0x6030 + i) 0x07
/-- Entry 6030:08 (ctrPrsParseMalformed). -/
abbrev K.ctrPrsParseMalformed (i : Nat) : Nat := dictKey (0x6030 + i) 0x08
/-- Entry 6030:09 (ctrPrsRuleNoHit). -/
abbrev K.ctrPrsRuleNoHit (i : Nat) : Nat := dictKey (0x6030 + i) 0x09
/-- Entry 6030:0A (ctrPrsRuleDrop). -/
abbrev K.ctrPrsRuleDrop (i : Nat) : Nat := dictKey (0x6030 + i) 0x0A
/-- Entry 6030:0B (ctrPrsPatternDrop). -/
abbrev K.ctrPrsPatternDrop (i : Nat) : Nat := dictKey (0x6030 + i) 0x0B
/-- Entry 6030:0C (ctrPrsExceptionSent). -/
abbrev K.ctrPrsExceptionSent (i : Nat) : Nat := dictKey (0x6030 + i) 0x0C
/-- Entry 6030:0D (ctrPrsScanScanned). -/
abbrev K.ctrPrsScanScanned (i : Nat) : Nat := dictKey (0x6030 + i) 0x0D
/-- Entry 6030:0E (ctrPrsScanSkippedBusy). -/
abbrev K.ctrPrsScanSkippedBusy (i : Nat) : Nat := dictKey (0x6030 + i) 0x0E
/-- Entry 6030:0F (ctrPrsOrderHolds). -/
abbrev K.ctrPrsOrderHolds (i : Nat) : Nat := dictKey (0x6030 + i) 0x0F
/-- Entry 6038:01 (ctrClsExceptionPolicerDrop). -/
abbrev K.ctrClsExceptionPolicerDrop : Nat := dictKey 0x6038 0x01
/-- Entry 6038:02 (ctrClsExceptionQueueFull). -/
abbrev K.ctrClsExceptionQueueFull : Nat := dictKey 0x6038 0x02
/-- Entry 6038:03 (ctrClsRuleEccError). -/
abbrev K.ctrClsRuleEccError : Nat := dictKey 0x6038 0x03
/-- Entry 6038:04 (ctrClsPatternEccError). -/
abbrev K.ctrClsPatternEccError : Nat := dictKey 0x6038 0x04
/-- Entry 6040:01 (ctrBrLookups). -/
abbrev K.ctrBrLookups (i : Nat) : Nat := dictKey (0x6040 + i) 0x01
/-- Entry 6040:02 (ctrBrHits). -/
abbrev K.ctrBrHits (i : Nat) : Nat := dictKey (0x6040 + i) 0x02
/-- Entry 6040:03 (ctrBrLearnInserted). -/
abbrev K.ctrBrLearnInserted (i : Nat) : Nat := dictKey (0x6040 + i) 0x03
/-- Entry 6040:04 (ctrBrLearnMove). -/
abbrev K.ctrBrLearnMove (i : Nat) : Nat := dictKey (0x6040 + i) 0x04
/-- Entry 6040:05 (ctrBrLearnStatic). -/
abbrev K.ctrBrLearnStatic (i : Nat) : Nat := dictKey (0x6040 + i) 0x05
/-- Entry 6040:06 (ctrBrLearnRateDrop). -/
abbrev K.ctrBrLearnRateDrop (i : Nat) : Nat := dictKey (0x6040 + i) 0x06
/-- Entry 6040:07 (ctrBrLearnLimitDrop). -/
abbrev K.ctrBrLearnLimitDrop (i : Nat) : Nat := dictKey (0x6040 + i) 0x07
/-- Entry 6040:08 (ctrBrLearnQueueFull). -/
abbrev K.ctrBrLearnQueueFull (i : Nat) : Nat := dictKey (0x6040 + i) 0x08
/-- Entry 6040:09 (ctrBrLearnSuspended). -/
abbrev K.ctrBrLearnSuspended (i : Nat) : Nat := dictKey (0x6040 + i) 0x09
/-- Entry 6040:0A (ctrBrInsertFail). -/
abbrev K.ctrBrInsertFail (i : Nat) : Nat := dictKey (0x6040 + i) 0x0A
/-- Entry 6040:0B (ctrBrAgedOut). -/
abbrev K.ctrBrAgedOut (i : Nat) : Nat := dictKey (0x6040 + i) 0x0B
/-- Entry 6040:0C (ctrBrNotifyOverflow). -/
abbrev K.ctrBrNotifyOverflow (i : Nat) : Nat := dictKey (0x6040 + i) 0x0C
/-- Entry 6040:0D (ctrBrShadowReject). -/
abbrev K.ctrBrShadowReject (i : Nat) : Nat := dictKey (0x6040 + i) 0x0D
/-- Entry 6040:0E (ctrBrRehashCount). -/
abbrev K.ctrBrRehashCount (i : Nat) : Nat := dictKey (0x6040 + i) 0x0E
/-- Entry 6040:0F (ctrBrEccCorrected). -/
abbrev K.ctrBrEccCorrected (i : Nat) : Nat := dictKey (0x6040 + i) 0x0F
/-- Entry 6040:10 (ctrBrEccUncorrectable). -/
abbrev K.ctrBrEccUncorrectable (i : Nat) : Nat := dictKey (0x6040 + i) 0x10
/-- Entry 6050:01 (ctrLodeCutThrough). -/
abbrev K.ctrLodeCutThrough : Nat := dictKey 0x6050 0x01
/-- Entry 6050:02 (ctrLodeDelayed). -/
abbrev K.ctrLodeDelayed : Nat := dictKey 0x6050 0x02
/-- Entry 6050:03 (ctrLodeWholeFrame). -/
abbrev K.ctrLodeWholeFrame : Nat := dictKey 0x6050 0x03
/-- Entry 6050:04 (ctrLodeLinkDrop). -/
abbrev K.ctrLodeLinkDrop : Nat := dictKey 0x6050 0x04
/-- Entry 6050:05 (ctrLodeHoldDrop). -/
abbrev K.ctrLodeHoldDrop : Nat := dictKey 0x6050 0x05
/-- Entry 6050:06 (ctrLodeVerifyDrop). -/
abbrev K.ctrLodeVerifyDrop : Nat := dictKey 0x6050 0x06
/-- Entry 6050:07 (ctrLodeStompIcv). -/
abbrev K.ctrLodeStompIcv : Nat := dictKey 0x6050 0x07
/-- Entry 6050:08 (ctrLodeStompFcs). -/
abbrev K.ctrLodeStompFcs : Nat := dictKey 0x6050 0x08
/-- Entry 6050:09 (ctrLodeStompLength). -/
abbrev K.ctrLodeStompLength : Nat := dictKey 0x6050 0x09
/-- Entry 6060:01 (ctrDispEnqueued). -/
abbrev K.ctrDispEnqueued : Nat := dictKey 0x6060 0x01
/-- Entry 6060:02 (ctrDispGranted). -/
abbrev K.ctrDispGranted : Nat := dictKey 0x6060 0x02
/-- Entry 6060:03 (ctrDispQueueFullDrop). -/
abbrev K.ctrDispQueueFullDrop : Nat := dictKey 0x6060 0x03
/-- Entry 6060:04 (ctrDispPreemptions). -/
abbrev K.ctrDispPreemptions : Nat := dictKey 0x6060 0x04
/-- Entry 6060:05 (ctrDispTimedReleased). -/
abbrev K.ctrDispTimedReleased : Nat := dictKey 0x6060 0x05
/-- Entry 6060:06 (ctrDispLaunchReleased). -/
abbrev K.ctrDispLaunchReleased : Nat := dictKey 0x6060 0x06
/-- Entry 6060:07 (ctrDispReleaseHeld). -/
abbrev K.ctrDispReleaseHeld : Nat := dictKey 0x6060 0x07
/-- Entry 6060:08 (ctrDispListFull). -/
abbrev K.ctrDispListFull : Nat := dictKey 0x6060 0x08
/-- Entry 6060:09 (ctrDispLateInsert). -/
abbrev K.ctrDispLateInsert : Nat := dictKey 0x6060 0x09
/-- Entry 6060:0A (ctrDispCancelOk). -/
abbrev K.ctrDispCancelOk : Nat := dictKey 0x6060 0x0A
/-- Entry 6060:0B (ctrDispCancelNotFound). -/
abbrev K.ctrDispCancelNotFound : Nat := dictKey 0x6060 0x0B
/-- Entry 6060:0C (ctrDispWaitTimeouts). -/
abbrev K.ctrDispWaitTimeouts : Nat := dictKey 0x6060 0x0C
/-- Entry 6060:0D (ctrDispTimedFault). -/
abbrev K.ctrDispTimedFault : Nat := dictKey 0x6060 0x0D
/-- Entry 6060:0E (ctrDispDomainStep). -/
abbrev K.ctrDispDomainStep : Nat := dictKey 0x6060 0x0E
/-- Entry 6070:05 (ctrLvlEnqueued). -/
abbrev K.ctrLvlEnqueued (i : Nat) : Nat := dictKey (0x6070 + i) 0x05
/-- Entry 6070:06 (ctrLvlGranted). -/
abbrev K.ctrLvlGranted (i : Nat) : Nat := dictKey (0x6070 + i) 0x06
/-- Entry 6070:07 (ctrLvlQueueFullDrop). -/
abbrev K.ctrLvlQueueFullDrop (i : Nat) : Nat := dictKey (0x6070 + i) 0x07
/-- Entry 6100:04 (ctrDcoreGranted). -/
abbrev K.ctrDcoreGranted (i : Nat) : Nat := dictKey (0x6100 + i) 0x04
/-- Entry 6100:05 (ctrDcorePreemptions). -/
abbrev K.ctrDcorePreemptions (i : Nat) : Nat := dictKey (0x6100 + i) 0x05
/-- Entry 6100:06 (ctrDcoreWaitTimeouts). -/
abbrev K.ctrDcoreWaitTimeouts (i : Nat) : Nat := dictKey (0x6100 + i) 0x06
/-- Entry 6080:01 (ctrOruTicketsIssued). -/
abbrev K.ctrOruTicketsIssued : Nat := dictKey 0x6080 0x01
/-- Entry 6080:02 (ctrOruReleased). -/
abbrev K.ctrOruReleased : Nat := dictKey 0x6080 0x02
/-- Entry 6080:03 (ctrOruReleasedDrop). -/
abbrev K.ctrOruReleasedDrop : Nat := dictKey 0x6080 0x03
/-- Entry 6080:04 (ctrOruReleasedMc). -/
abbrev K.ctrOruReleasedMc : Nat := dictKey 0x6080 0x04
/-- Entry 6080:05 (ctrOruMcEmpty). -/
abbrev K.ctrOruMcEmpty : Nat := dictKey 0x6080 0x05
/-- Entry 6080:06 (ctrOruReplays). -/
abbrev K.ctrOruReplays : Nat := dictKey 0x6080 0x06
/-- Entry 6080:07 (ctrOruReplayExhausted). -/
abbrev K.ctrOruReplayExhausted : Nat := dictKey 0x6080 0x07
/-- Entry 6080:08 (ctrOruReplayMarginExceeded). -/
abbrev K.ctrOruReplayMarginExceeded : Nat := dictKey 0x6080 0x08
/-- Entry 6080:09 (ctrOruOriginalCellLost). -/
abbrev K.ctrOruOriginalCellLost : Nat := dictKey 0x6080 0x09
/-- Entry 6080:0A (ctrOruJournalEccError). -/
abbrev K.ctrOruJournalEccError : Nat := dictKey 0x6080 0x0A
/-- Entry 6080:0B (ctrOruActionsApplied). -/
abbrev K.ctrOruActionsApplied : Nat := dictKey 0x6080 0x0B
/-- Entry 6080:0C (ctrOruActionFail). -/
abbrev K.ctrOruActionFail : Nat := dictKey 0x6080 0x0C
/-- Entry 6080:0D (ctrOruPostRefused). -/
abbrev K.ctrOruPostRefused : Nat := dictKey 0x6080 0x0D
/-- Entry 6080:0E (ctrOruReleaseOnEnd). -/
abbrev K.ctrOruReleaseOnEnd : Nat := dictKey 0x6080 0x0E
/-- Entry 6080:0F (ctrOruWindowCellFail). -/
abbrev K.ctrOruWindowCellFail : Nat := dictKey 0x6080 0x0F
/-- Entry 6080:10 (ctrOruLaunchRefused). -/
abbrev K.ctrOruLaunchRefused : Nat := dictKey 0x6080 0x10
/-- Entry 6080:11 (ctrOruJournalFullCycles). -/
abbrev K.ctrOruJournalFullCycles : Nat := dictKey 0x6080 0x11
/-- Entry 6140:01 (ctrCoreIssueCycles). -/
abbrev K.ctrCoreIssueCycles (i : Nat) : Nat := dictKey (0x6140 + i) 0x01
/-- Entry 6140:02 (ctrCoreIdleCycles). -/
abbrev K.ctrCoreIdleCycles (i : Nat) : Nat := dictKey (0x6140 + i) 0x02
/-- Entry 6140:03 (ctrCoreSquashedIssues). -/
abbrev K.ctrCoreSquashedIssues (i : Nat) : Nat := dictKey (0x6140 + i) 0x03
/-- Entry 6140:04 (ctrCoreOverlapHolds). -/
abbrev K.ctrCoreOverlapHolds (i : Nat) : Nat := dictKey (0x6140 + i) 0x04
/-- Entry 6140:05 (ctrCoreLoadForwards). -/
abbrev K.ctrCoreLoadForwards (i : Nat) : Nat := dictKey (0x6140 + i) 0x05
/-- Entry 6140:06 (ctrCoreHelperRetries). -/
abbrev K.ctrCoreHelperRetries (i : Nat) : Nat := dictKey (0x6140 + i) 0x06
/-- Entry 6140:07 (ctrCoreDivideStarts). -/
abbrev K.ctrCoreDivideStarts (i : Nat) : Nat := dictKey (0x6140 + i) 0x07
/-- Entry 6140:08 (ctrCoreDivideAbandoned). -/
abbrev K.ctrCoreDivideAbandoned (i : Nat) : Nat := dictKey (0x6140 + i) 0x08
/-- Entry 6140:09 (ctrCoreLoopCaptured). -/
abbrev K.ctrCoreLoopCaptured (i : Nat) : Nat := dictKey (0x6140 + i) 0x09
/-- Entry 6140:0A (ctrCoreLoopUncapturedEdges). -/
abbrev K.ctrCoreLoopUncapturedEdges (i : Nat) : Nat := dictKey (0x6140 + i) 0x0A
/-- Entry 6140:0B (ctrCoreEccCorrected). -/
abbrev K.ctrCoreEccCorrected (i : Nat) : Nat := dictKey (0x6140 + i) 0x0B
/-- Entry 6140:0C (ctrCoreEccUncorrectable). -/
abbrev K.ctrCoreEccUncorrectable (i : Nat) : Nat := dictKey (0x6140 + i) 0x0C
/-- Entry 6140:0D (ctrCoreWatchdogExpiries). -/
abbrev K.ctrCoreWatchdogExpiries (i : Nat) : Nat := dictKey (0x6140 + i) 0x0D
/-- Entry 6140:0E (ctrCoreLockstepMismatches). -/
abbrev K.ctrCoreLockstepMismatches (i : Nat) : Nat := dictKey (0x6140 + i) 0x0E
/-- Entry 6140:0F (ctrCoreThreadResets). -/
abbrev K.ctrCoreThreadResets (i : Nat) : Nat := dictKey (0x6140 + i) 0x0F
/-- Entry 6180:01 (ctrExcVectoredExceptions). -/
abbrev K.ctrExcVectoredExceptions (i : Nat) : Nat := dictKey (0x6180 + i) 0x01
/-- Entry 6180:02 (ctrExcUnhandledExceptions). -/
abbrev K.ctrExcUnhandledExceptions (i : Nat) : Nat := dictKey (0x6180 + i) 0x02
/-- Entry 6180:03 (ctrExcSyscalls). -/
abbrev K.ctrExcSyscalls (i : Nat) : Nat := dictKey (0x6180 + i) 0x03
/-- Entry 6180:04 (ctrExcDivideByZero). -/
abbrev K.ctrExcDivideByZero (i : Nat) : Nat := dictKey (0x6180 + i) 0x04
/-- Entry 6180:05 (ctrExcDecimalInvalid). -/
abbrev K.ctrExcDecimalInvalid (i : Nat) : Nat := dictKey (0x6180 + i) 0x05
/-- Entry 6180:06 (ctrExcDictStoreRefused). -/
abbrev K.ctrExcDictStoreRefused (i : Nat) : Nat := dictKey (0x6180 + i) 0x06
/-- Entry 61C0:01 (ctrHlpCryptoOps). -/
abbrev K.ctrHlpCryptoOps (i : Nat) : Nat := dictKey (0x61C0 + i) 0x01
/-- Entry 61C0:02 (ctrHlpCryptoBytes). -/
abbrev K.ctrHlpCryptoBytes (i : Nat) : Nat := dictKey (0x61C0 + i) 0x02
/-- Entry 61C0:03 (ctrHlpAuthFail). -/
abbrev K.ctrHlpAuthFail (i : Nat) : Nat := dictKey (0x61C0 + i) 0x03
/-- Entry 61C0:04 (ctrHlpCryptoRefusals). -/
abbrev K.ctrHlpCryptoRefusals (i : Nat) : Nat := dictKey (0x61C0 + i) 0x04
/-- Entry 61C0:05 (ctrHlpCrcOps). -/
abbrev K.ctrHlpCrcOps (i : Nat) : Nat := dictKey (0x61C0 + i) 0x05
/-- Entry 61C0:06 (ctrHlpCrcBytes). -/
abbrev K.ctrHlpCrcBytes (i : Nat) : Nat := dictKey (0x61C0 + i) 0x06
/-- Entry 61C0:07 (ctrHlpCrcRefusals). -/
abbrev K.ctrHlpCrcRefusals (i : Nat) : Nat := dictKey (0x61C0 + i) 0x07
/-- Entry 61C0:08 (ctrHlpLookups). -/
abbrev K.ctrHlpLookups (i : Nat) : Nat := dictKey (0x61C0 + i) 0x08
/-- Entry 61C0:09 (ctrHlpRuleSearches). -/
abbrev K.ctrHlpRuleSearches (i : Nat) : Nat := dictKey (0x61C0 + i) 0x09
/-- Entry 61C0:0A (ctrHlpBrambleWrites). -/
abbrev K.ctrHlpBrambleWrites (i : Nat) : Nat := dictKey (0x61C0 + i) 0x0A
/-- Entry 61C0:0B (ctrHlpLookupRefusals). -/
abbrev K.ctrHlpLookupRefusals (i : Nat) : Nat := dictKey (0x61C0 + i) 0x0B
/-- Entry 61C0:0C (ctrHlpPatternScans). -/
abbrev K.ctrHlpPatternScans (i : Nat) : Nat := dictKey (0x61C0 + i) 0x0C
/-- Entry 61C0:0D (ctrHlpPatternRefusals). -/
abbrev K.ctrHlpPatternRefusals (i : Nat) : Nat := dictKey (0x61C0 + i) 0x0D
/-- Entry 61C0:0E (ctrHlpSourceEccErrors). -/
abbrev K.ctrHlpSourceEccErrors (i : Nat) : Nat := dictKey (0x61C0 + i) 0x0E
/-- Entry 61C0:0F (ctrHlpRegEccCorrected). -/
abbrev K.ctrHlpRegEccCorrected (i : Nat) : Nat := dictKey (0x61C0 + i) 0x0F
/-- Entry 61C0:10 (ctrHlpRegEccUncorrectable). -/
abbrev K.ctrHlpRegEccUncorrectable (i : Nat) : Nat := dictKey (0x61C0 + i) 0x10
/-- Entry 61C0:11 (ctrHlpCancelled). -/
abbrev K.ctrHlpCancelled (i : Nat) : Nat := dictKey (0x61C0 + i) 0x11
/-- Entry 61D0:01 (ctrRdvLockGrants). -/
abbrev K.ctrRdvLockGrants : Nat := dictKey 0x61D0 0x01
/-- Entry 61D0:02 (ctrRdvLockQueued). -/
abbrev K.ctrRdvLockQueued : Nat := dictKey 0x61D0 0x02
/-- Entry 61D0:03 (ctrRdvTryLockBusy). -/
abbrev K.ctrRdvTryLockBusy : Nat := dictKey 0x61D0 0x03
/-- Entry 61D0:04 (ctrRdvHeldBySelf). -/
abbrev K.ctrRdvHeldBySelf : Nat := dictKey 0x61D0 0x04
/-- Entry 61D0:05 (ctrRdvNotHolder). -/
abbrev K.ctrRdvNotHolder : Nat := dictKey 0x61D0 0x05
/-- Entry 61D0:06 (ctrRdvNoRight). -/
abbrev K.ctrRdvNoRight : Nat := dictKey 0x61D0 0x06
/-- Entry 61D0:07 (ctrRdvAbandonments). -/
abbrev K.ctrRdvAbandonments : Nat := dictKey 0x61D0 0x07
/-- Entry 61D0:08 (ctrRdvAbandonedGrants). -/
abbrev K.ctrRdvAbandonedGrants : Nat := dictKey 0x61D0 0x08
/-- Entry 61D0:09 (ctrRdvLockReleaseOnDone). -/
abbrev K.ctrRdvLockReleaseOnDone : Nat := dictKey 0x61D0 0x09
/-- Entry 61D0:0A (ctrRdvSemTakes). -/
abbrev K.ctrRdvSemTakes : Nat := dictKey 0x61D0 0x0A
/-- Entry 61D0:0B (ctrRdvSemQueued). -/
abbrev K.ctrRdvSemQueued : Nat := dictKey 0x61D0 0x0B
/-- Entry 61D0:0C (ctrRdvSemSaturated). -/
abbrev K.ctrRdvSemSaturated : Nat := dictKey 0x61D0 0x0C
/-- Entry 61D0:0D (ctrRdvAtomicOps). -/
abbrev K.ctrRdvAtomicOps : Nat := dictKey 0x61D0 0x0D
/-- Entry 61D0:0E (ctrRdvAtomicEccCorrected). -/
abbrev K.ctrRdvAtomicEccCorrected : Nat := dictKey 0x61D0 0x0E
/-- Entry 61D0:0F (ctrRdvAtomicEccErrors). -/
abbrev K.ctrRdvAtomicEccErrors : Nat := dictKey 0x61D0 0x0F
/-- Entry 61D0:10 (ctrRdvChSent). -/
abbrev K.ctrRdvChSent : Nat := dictKey 0x61D0 0x10
/-- Entry 61D0:11 (ctrRdvChReceived). -/
abbrev K.ctrRdvChReceived : Nat := dictKey 0x61D0 0x11
/-- Entry 61D0:12 (ctrRdvChSenderQueued). -/
abbrev K.ctrRdvChSenderQueued : Nat := dictKey 0x61D0 0x12
/-- Entry 61D0:13 (ctrRdvChPartialDiscards). -/
abbrev K.ctrRdvChPartialDiscards : Nat := dictKey 0x61D0 0x13
/-- Entry 61D0:14 (ctrRdvEvSets). -/
abbrev K.ctrRdvEvSets : Nat := dictKey 0x61D0 0x14
/-- Entry 61D0:15 (ctrRdvStalls). -/
abbrev K.ctrRdvStalls : Nat := dictKey 0x61D0 0x15
/-- Entry 61D0:16 (ctrRdvStalledWakes). -/
abbrev K.ctrRdvStalledWakes : Nat := dictKey 0x61D0 0x16
/-- Entry 61D0:17 (ctrRdvAtomicStoreDiscards). -/
abbrev K.ctrRdvAtomicStoreDiscards : Nat := dictKey 0x61D0 0x17
/-- Entry 61E0:01 (ctrOrchAllocations). -/
abbrev K.ctrOrchAllocations : Nat := dictKey 0x61E0 0x01
/-- Entry 61E0:02 (ctrOrchFrees). -/
abbrev K.ctrOrchFrees : Nat := dictKey 0x61E0 0x02
/-- Entry 61E0:03 (ctrOrchLeaves). -/
abbrev K.ctrOrchLeaves : Nat := dictKey 0x61E0 0x03
/-- Entry 61E0:04 (ctrOrchQuarantined). -/
abbrev K.ctrOrchQuarantined : Nat := dictKey 0x61E0 0x04
/-- Entry 61E0:05 (ctrOrchDoubleFree). -/
abbrev K.ctrOrchDoubleFree : Nat := dictKey 0x61E0 0x05
/-- Entry 61E0:06 (ctrOrchNotLast). -/
abbrev K.ctrOrchNotLast : Nat := dictKey 0x61E0 0x06
/-- Entry 61E0:07 (ctrOrchNotOwner). -/
abbrev K.ctrOrchNotOwner : Nat := dictKey 0x61E0 0x07
/-- Entry 61E0:08 (ctrOrchReclaimed). -/
abbrev K.ctrOrchReclaimed : Nat := dictKey 0x61E0 0x08
/-- Entry 61E0:09 (ctrOrchQuarantineUnlisted). -/
abbrev K.ctrOrchQuarantineUnlisted : Nat := dictKey 0x61E0 0x09
/-- Entry 61E0:0A (ctrOrchCellEccCorrected). -/
abbrev K.ctrOrchCellEccCorrected : Nat := dictKey 0x61E0 0x0A
/-- Entry 61E0:0B (ctrOrchCellEccUncorrectable). -/
abbrev K.ctrOrchCellEccUncorrectable : Nat := dictKey 0x61E0 0x0B
/-- Entry 61E0:0C (ctrOrchLinkEccError). -/
abbrev K.ctrOrchLinkEccError : Nat := dictKey 0x61E0 0x0C
/-- Entry 61E0:0D (ctrOrchEgressEccDrop). -/
abbrev K.ctrOrchEgressEccDrop : Nat := dictKey 0x61E0 0x0D
/-- Entry 61E0:0E (ctrOrchMigratedCells). -/
abbrev K.ctrOrchMigratedCells : Nat := dictKey 0x61E0 0x0E
/-- Entry 61E0:0F (ctrOrchSpillReads). -/
abbrev K.ctrOrchSpillReads : Nat := dictKey 0x61E0 0x0F
/-- Entry 61E0:10 (ctrOrchRecoveredCells). -/
abbrev K.ctrOrchRecoveredCells : Nat := dictKey 0x61E0 0x10
/-- Entry 6200:01 (ctrPoolCellsAllocated). -/
abbrev K.ctrPoolCellsAllocated (i : Nat) : Nat := dictKey (0x6200 + i) 0x01
/-- Entry 6200:02 (ctrPoolFramesAdmitted). -/
abbrev K.ctrPoolFramesAdmitted (i : Nat) : Nat := dictKey (0x6200 + i) 0x02
/-- Entry 6200:03 (ctrPoolDropThresholdDrops). -/
abbrev K.ctrPoolDropThresholdDrops (i : Nat) : Nat := dictKey (0x6200 + i) 0x03
/-- Entry 6200:04 (ctrPoolNoCellDrops). -/
abbrev K.ctrPoolNoCellDrops (i : Nat) : Nat := dictKey (0x6200 + i) 0x04
/-- Entry 6200:05 (ctrPoolTruncatedDrops). -/
abbrev K.ctrPoolTruncatedDrops (i : Nat) : Nat := dictKey (0x6200 + i) 0x05
/-- Entry 6200:06 (ctrPoolWindowCellFails). -/
abbrev K.ctrPoolWindowCellFails (i : Nat) : Nat := dictKey (0x6200 + i) 0x06
/-- Entry 6200:07 (ctrPoolWarnCrossings). -/
abbrev K.ctrPoolWarnCrossings (i : Nat) : Nat := dictKey (0x6200 + i) 0x07
/-- Entry 6200:08 (ctrPoolBackPressureStarts). -/
abbrev K.ctrPoolBackPressureStarts (i : Nat) : Nat := dictKey (0x6200 + i) 0x08
/-- Entry 6200:09 (ctrPoolBackPressureCycles). -/
abbrev K.ctrPoolBackPressureCycles (i : Nat) : Nat := dictKey (0x6200 + i) 0x09
/-- Entry 6220:01 (ctrTmpTailDrops). -/
abbrev K.ctrTmpTailDrops (i : Nat) : Nat := dictKey (0x6220 + i) 0x01
/-- Entry 6220:02 (ctrTmpLinkDownDrops). -/
abbrev K.ctrTmpLinkDownDrops (i : Nat) : Nat := dictKey (0x6220 + i) 0x02
/-- Entry 6220:03 (ctrTmpGateGuardHolds). -/
abbrev K.ctrTmpGateGuardHolds (i : Nat) : Nat := dictKey (0x6220 + i) 0x03
/-- Entry 6220:04 (ctrTmpGateOversizeDrops). -/
abbrev K.ctrTmpGateOversizeDrops (i : Nat) : Nat := dictKey (0x6220 + i) 0x04
/-- Entry 6220:05 (ctrTmpLaunchGuardHolds). -/
abbrev K.ctrTmpLaunchGuardHolds (i : Nat) : Nat := dictKey (0x6220 + i) 0x05
/-- Entry 6220:06 (ctrTmpLaunchOnTime). -/
abbrev K.ctrTmpLaunchOnTime (i : Nat) : Nat := dictKey (0x6220 + i) 0x06
/-- Entry 6220:07 (ctrTmpLaunchLate). -/
abbrev K.ctrTmpLaunchLate (i : Nat) : Nat := dictKey (0x6220 + i) 0x07
/-- Entry 6220:08 (ctrTmpLaunchLateDrops). -/
abbrev K.ctrTmpLaunchLateDrops (i : Nat) : Nat := dictKey (0x6220 + i) 0x08
/-- Entry 6220:09 (ctrTmpLaunchSetFullDrops). -/
abbrev K.ctrTmpLaunchSetFullDrops (i : Nat) : Nat := dictKey (0x6220 + i) 0x09
/-- Entry 6220:0A (ctrTmpAtsDrops). -/
abbrev K.ctrTmpAtsDrops (i : Nat) : Nat := dictKey (0x6220 + i) 0x0A
/-- Entry 6220:0B (ctrTmpGateResync). -/
abbrev K.ctrTmpGateResync (i : Nat) : Nat := dictKey (0x6220 + i) 0x0B
/-- Entry 6220:0C (ctrTmpConfigChanges). -/
abbrev K.ctrTmpConfigChanges (i : Nat) : Nat := dictKey (0x6220 + i) 0x0C
/-- Entry 6220:0D (ctrTmpTsFifoOverflow). -/
abbrev K.ctrTmpTsFifoOverflow (i : Nat) : Nat := dictKey (0x6220 + i) 0x0D
/-- Entry 6228:01 (ctrTmStreamSduDrops). -/
abbrev K.ctrTmStreamSduDrops : Nat := dictKey 0x6228 0x01
/-- Entry 6228:02 (ctrTmStreamBlockedDrops). -/
abbrev K.ctrTmStreamBlockedDrops : Nat := dictKey 0x6228 0x02
/-- Entry 6228:03 (ctrTmMeterRedDrops). -/
abbrev K.ctrTmMeterRedDrops : Nat := dictKey 0x6228 0x03
/-- Entry 6228:04 (ctrTmMeterYellow). -/
abbrev K.ctrTmMeterYellow : Nat := dictKey 0x6228 0x04
/-- Entry 6229:01 (ctrChrPpsRejected). -/
abbrev K.ctrChrPpsRejected : Nat := dictKey 0x6229 0x01
/-- Entry 6229:02 (ctrChrPpsMissed). -/
abbrev K.ctrChrPpsMissed : Nat := dictKey 0x6229 0x02
/-- Entry 6229:03 (ctrChrDomainSteps). -/
abbrev K.ctrChrDomainSteps : Nat := dictKey 0x6229 0x03
/-- Entry 6229:04 (ctrChrHoldoverEntries). -/
abbrev K.ctrChrHoldoverEntries : Nat := dictKey 0x6229 0x04
/-- Entry 6229:05 (ctrChrPpsOutSuppressed). -/
abbrev K.ctrChrPpsOutSuppressed : Nat := dictKey 0x6229 0x05
/-- Entry 6240:01 (ctrBiopIssueSlots). -/
abbrev K.ctrBiopIssueSlots (i : Nat) : Nat := dictKey (0x6240 + i) 0x01
/-- Entry 6240:02 (ctrBiopIdleSlots). -/
abbrev K.ctrBiopIdleSlots (i : Nat) : Nat := dictKey (0x6240 + i) 0x02
/-- Entry 6240:03 (ctrBiopElasticSlots). -/
abbrev K.ctrBiopElasticSlots (i : Nat) : Nat := dictKey (0x6240 + i) 0x03
/-- Entry 6240:04 (ctrBiopThreadResets). -/
abbrev K.ctrBiopThreadResets (i : Nat) : Nat := dictKey (0x6240 + i) 0x04
/-- Entry 6240:05 (ctrBiopEccCorrected). -/
abbrev K.ctrBiopEccCorrected (i : Nat) : Nat := dictKey (0x6240 + i) 0x05
/-- Entry 6240:06 (ctrBiopEccUncorrectable). -/
abbrev K.ctrBiopEccUncorrectable (i : Nat) : Nat := dictKey (0x6240 + i) 0x06
/-- Entry 6240:07 (ctrBiopEdgeOverflows). -/
abbrev K.ctrBiopEdgeOverflows (i : Nat) : Nat := dictKey (0x6240 + i) 0x07
/-- Entry 6250:01 (ctrUnitFramesRx). -/
abbrev K.ctrUnitFramesRx (i : Nat) : Nat := dictKey (0x6250 + i) 0x01
/-- Entry 6250:02 (ctrUnitFramesTx). -/
abbrev K.ctrUnitFramesTx (i : Nat) : Nat := dictKey (0x6250 + i) 0x02
/-- Entry 6250:03 (ctrUnitArbLost). -/
abbrev K.ctrUnitArbLost (i : Nat) : Nat := dictKey (0x6250 + i) 0x03
/-- Entry 6250:04 (ctrUnitBitErrors). -/
abbrev K.ctrUnitBitErrors (i : Nat) : Nat := dictKey (0x6250 + i) 0x04
/-- Entry 6250:05 (ctrUnitStuffErrors). -/
abbrev K.ctrUnitStuffErrors (i : Nat) : Nat := dictKey (0x6250 + i) 0x05
/-- Entry 6250:06 (ctrUnitCrcErrors). -/
abbrev K.ctrUnitCrcErrors (i : Nat) : Nat := dictKey (0x6250 + i) 0x06
/-- Entry 6250:07 (ctrUnitFormErrors). -/
abbrev K.ctrUnitFormErrors (i : Nat) : Nat := dictKey (0x6250 + i) 0x07
/-- Entry 6250:08 (ctrUnitAckErrors). -/
abbrev K.ctrUnitAckErrors (i : Nat) : Nat := dictKey (0x6250 + i) 0x08
/-- Entry 6250:09 (ctrUnitAckMissed). -/
abbrev K.ctrUnitAckMissed (i : Nat) : Nat := dictKey (0x6250 + i) 0x09
/-- Entry 6250:0A (ctrUnitRxOverruns). -/
abbrev K.ctrUnitRxOverruns (i : Nat) : Nat := dictKey (0x6250 + i) 0x0A
/-- Entry 6250:0B (ctrUnitTxUnderruns). -/
abbrev K.ctrUnitTxUnderruns (i : Nat) : Nat := dictKey (0x6250 + i) 0x0B
/-- Entry 6260:01 (ctrAcfUpMessages). -/
abbrev K.ctrAcfUpMessages : Nat := dictKey 0x6260 0x01
/-- Entry 6260:02 (ctrAcfUpFrames). -/
abbrev K.ctrAcfUpFrames : Nat := dictKey 0x6260 0x02
/-- Entry 6260:03 (ctrAcfUpQueueFull). -/
abbrev K.ctrAcfUpQueueFull : Nat := dictKey 0x6260 0x03
/-- Entry 6260:04 (ctrAcfDownFrames). -/
abbrev K.ctrAcfDownFrames : Nat := dictKey 0x6260 0x04
/-- Entry 6260:05 (ctrAcfDownMessages). -/
abbrev K.ctrAcfDownMessages : Nat := dictKey 0x6260 0x05
/-- Entry 6260:06 (ctrAcfDownSkipped). -/
abbrev K.ctrAcfDownSkipped : Nat := dictKey 0x6260 0x06
/-- Entry 6260:07 (ctrAcfDownMalformed). -/
abbrev K.ctrAcfDownMalformed : Nat := dictKey 0x6260 0x07
/-- Entry 6260:08 (ctrAcfDownRingFull). -/
abbrev K.ctrAcfDownRingFull : Nat := dictKey 0x6260 0x08
/-- Entry 6270:01 (ctrDchReads). -/
abbrev K.ctrDchReads (i : Nat) : Nat := dictKey (0x6270 + i) 0x01
/-- Entry 6270:02 (ctrDchWrites). -/
abbrev K.ctrDchWrites (i : Nat) : Nat := dictKey (0x6270 + i) 0x02
/-- Entry 6270:03 (ctrDchDrains). -/
abbrev K.ctrDchDrains (i : Nat) : Nat := dictKey (0x6270 + i) 0x03
/-- Entry 6270:04 (ctrDchReadForwards). -/
abbrev K.ctrDchReadForwards (i : Nat) : Nat := dictKey (0x6270 + i) 0x04
/-- Entry 6270:05 (ctrDchParityRetries). -/
abbrev K.ctrDchParityRetries (i : Nat) : Nat := dictKey (0x6270 + i) 0x05
/-- Entry 6270:06 (ctrDchEccCorrected). -/
abbrev K.ctrDchEccCorrected (i : Nat) : Nat := dictKey (0x6270 + i) 0x06
/-- Entry 6270:07 (ctrDchEccUncorrectable). -/
abbrev K.ctrDchEccUncorrectable (i : Nat) : Nat := dictKey (0x6270 + i) 0x07
/-- Entry 6270:08 (ctrDchIntegrityFailures). -/
abbrev K.ctrDchIntegrityFailures (i : Nat) : Nat := dictKey (0x6270 + i) 0x08
/-- Entry 6270:09 (ctrDchRhMitigations). -/
abbrev K.ctrDchRhMitigations (i : Nat) : Nat := dictKey (0x6270 + i) 0x09
/-- Entry 6270:0A (ctrDchRhOverflows). -/
abbrev K.ctrDchRhOverflows (i : Nat) : Nat := dictKey (0x6270 + i) 0x0A
/-- Entry 6270:0B (ctrDchThrottledActs). -/
abbrev K.ctrDchThrottledActs (i : Nat) : Nat := dictKey (0x6270 + i) 0x0B
/-- Entry 6270:0C (ctrDchPowerDownEntries). -/
abbrev K.ctrDchPowerDownEntries (i : Nat) : Nat := dictKey (0x6270 + i) 0x0C
/-- Entry 6270:0D (ctrDchPostponedRefreshes). -/
abbrev K.ctrDchPostponedRefreshes (i : Nat) : Nat := dictKey (0x6270 + i) 0x0D
/-- Entry 6272:01 (ctrDramUnmappedRequests). -/
abbrev K.ctrDramUnmappedRequests : Nat := dictKey 0x6272 0x01
/-- Entry 6272:02 (ctrDramNotReadyRequests). -/
abbrev K.ctrDramNotReadyRequests : Nat := dictKey 0x6272 0x02
/-- Entry 6272:03 (ctrDramNoKeyRequests). -/
abbrev K.ctrDramNoKeyRequests : Nat := dictKey 0x6272 0x03
/-- Entry 6272:04 (ctrDramCounterExhausted). -/
abbrev K.ctrDramCounterExhausted : Nat := dictKey 0x6272 0x04
/-- Entry 6280:01 (ctrDmaTransfers). -/
abbrev K.ctrDmaTransfers : Nat := dictKey 0x6280 0x01
/-- Entry 6280:02 (ctrDmaBytesMoved). -/
abbrev K.ctrDmaBytesMoved : Nat := dictKey 0x6280 0x02
/-- Entry 6280:03 (ctrDmaDoorbellsRefused). -/
abbrev K.ctrDmaDoorbellsRefused : Nat := dictKey 0x6280 0x03
/-- Entry 6280:04 (ctrDmaTransferErrors). -/
abbrev K.ctrDmaTransferErrors : Nat := dictKey 0x6280 0x04
/-- Entry 6280:05 (ctrDmaAborts). -/
abbrev K.ctrDmaAborts : Nat := dictKey 0x6280 0x05
/-- Entry 6280:06 (ctrDmaCqFullCycles). -/
abbrev K.ctrDmaCqFullCycles : Nat := dictKey 0x6280 0x06
/-- Entry 6290:01 (ctrBinImageVerifyOk). -/
abbrev K.ctrBinImageVerifyOk : Nat := dictKey 0x6290 0x01
/-- Entry 6290:02 (ctrBinImageVerifyFail). -/
abbrev K.ctrBinImageVerifyFail : Nat := dictKey 0x6290 0x02
/-- Entry 6290:03 (ctrBinRollbackRefused). -/
abbrev K.ctrBinRollbackRefused : Nat := dictKey 0x6290 0x03
/-- Entry 6290:04 (ctrBinRollbackAdvances). -/
abbrev K.ctrBinRollbackAdvances : Nat := dictKey 0x6290 0x04
/-- Entry 6290:05 (ctrBinKeyDeliveries). -/
abbrev K.ctrBinKeyDeliveries : Nat := dictKey 0x6290 0x05
/-- Entry 6290:06 (ctrBinKeyRefusals). -/
abbrev K.ctrBinKeyRefusals : Nat := dictKey 0x6290 0x06
/-- Entry 6290:07 (ctrBinQuotesIssued). -/
abbrev K.ctrBinQuotesIssued : Nat := dictKey 0x6290 0x07
/-- Entry 6290:08 (ctrBinTamperEvents). -/
abbrev K.ctrBinTamperEvents : Nat := dictKey 0x6290 0x08
/-- Entry 6290:09 (ctrBinZeroisations). -/
abbrev K.ctrBinZeroisations : Nat := dictKey 0x6290 0x09
/-- Entry 6290:0A (ctrBinTrngHealthFailures). -/
abbrev K.ctrBinTrngHealthFailures : Nat := dictKey 0x6290 0x0A
/-- Entry 6290:0B (ctrBinZeroisedTxDrops). -/
abbrev K.ctrBinZeroisedTxDrops : Nat := dictKey 0x6290 0x0B
/-- Entry 6290:0C (ctrBinKwkExports). -/
abbrev K.ctrBinKwkExports : Nat := dictKey 0x6290 0x0C
/-- Entry 62A0:01 (ctrUdaRequests). -/
abbrev K.ctrUdaRequests : Nat := dictKey 0x62A0 0x01
/-- Entry 62A0:02 (ctrUdaHwReads). -/
abbrev K.ctrUdaHwReads : Nat := dictKey 0x62A0 0x02
/-- Entry 62A0:03 (ctrUdaHwWrites). -/
abbrev K.ctrUdaHwWrites : Nat := dictKey 0x62A0 0x03
/-- Entry 62A0:04 (ctrUdaPilotRequests). -/
abbrev K.ctrUdaPilotRequests : Nat := dictKey 0x62A0 0x04
/-- Entry 62A0:05 (ctrUdaBadMac). -/
abbrev K.ctrUdaBadMac : Nat := dictKey 0x62A0 0x05
/-- Entry 62A0:06 (ctrUdaSequenceRefused). -/
abbrev K.ctrUdaSequenceRefused : Nat := dictKey 0x62A0 0x06
/-- Entry 62A0:07 (ctrUdaDuplicates). -/
abbrev K.ctrUdaDuplicates : Nat := dictKey 0x62A0 0x07
/-- Entry 62A0:08 (ctrUdaMalformed). -/
abbrev K.ctrUdaMalformed : Nat := dictKey 0x62A0 0x08
/-- Entry 62A0:09 (ctrUdaPolicerDrops). -/
abbrev K.ctrUdaPolicerDrops : Nat := dictKey 0x62A0 0x09
/-- Entry 62A0:0A (ctrUdaQueueFull). -/
abbrev K.ctrUdaQueueFull : Nat := dictKey 0x62A0 0x0A
/-- Entry 62A0:0B (ctrUdaSessionsOpened). -/
abbrev K.ctrUdaSessionsOpened : Nat := dictKey 0x62A0 0x0B
/-- Entry 62A0:0C (ctrUdaOpenRefused). -/
abbrev K.ctrUdaOpenRefused : Nat := dictKey 0x62A0 0x0C
/-- Entry 62A0:0D (ctrUdaSessionsExpired). -/
abbrev K.ctrUdaSessionsExpired : Nat := dictKey 0x62A0 0x0D
/-- Entry 62A0:0E (ctrUdaCommits). -/
abbrev K.ctrUdaCommits : Nat := dictKey 0x62A0 0x0E
/-- Entry 62A0:0F (ctrUdaCommitFailures). -/
abbrev K.ctrUdaCommitFailures : Nat := dictKey 0x62A0 0x0F
/-- Entry 62A0:10 (ctrUdaWindowRefusals). -/
abbrev K.ctrUdaWindowRefusals : Nat := dictKey 0x62A0 0x10
/-- Entry 62B0:01 (ctrAlmRecords). -/
abbrev K.ctrAlmRecords : Nat := dictKey 0x62B0 0x01
/-- Entry 62B0:02 (ctrAlmEvictions). -/
abbrev K.ctrAlmEvictions : Nat := dictKey 0x62B0 0x02
/-- Entry 62B0:03 (ctrAlmDiscardedLow). -/
abbrev K.ctrAlmDiscardedLow : Nat := dictKey 0x62B0 0x03
/-- Entry 62B0:04 (ctrAlmFlushed). -/
abbrev K.ctrAlmFlushed : Nat := dictKey 0x62B0 0x04
/-- Entry 62B0:05 (ctrAlmFlushPages). -/
abbrev K.ctrAlmFlushPages : Nat := dictKey 0x62B0 0x05
/-- Entry 62B0:06 (ctrAlmUrgentFlushes). -/
abbrev K.ctrAlmUrgentFlushes : Nat := dictKey 0x62B0 0x06
/-- Entry 62B0:07 (ctrAlmFlushIncomplete). -/
abbrev K.ctrAlmFlushIncomplete : Nat := dictKey 0x62B0 0x07
/-- Entry 62B0:08 (ctrAlmFlashErrors). -/
abbrev K.ctrAlmFlashErrors : Nat := dictKey 0x62B0 0x08
/-- Entry 62B0:09 (ctrAlmClears). -/
abbrev K.ctrAlmClears : Nat := dictKey 0x62B0 0x09
/-- Entry 62B0:0A (ctrAlmSramEccCorrected). -/
abbrev K.ctrAlmSramEccCorrected : Nat := dictKey 0x62B0 0x0A
/-- Entry 62B0:0B (ctrAlmSramEccLost). -/
abbrev K.ctrAlmSramEccLost : Nat := dictKey 0x62B0 0x0B
/-- Entry 62B1:01 (ctrAlmSourceDrops). -/
abbrev K.ctrAlmSourceDrops (j : Nat) : Nat := dictKey 0x62B1 (0x01 + j)
/-- Entry 62B2:01 (ctrTrcBlocksSent). -/
abbrev K.ctrTrcBlocksSent : Nat := dictKey 0x62B2 0x01
/-- Entry 62B2:02 (ctrTrcM0Frames). -/
abbrev K.ctrTrcM0Frames : Nat := dictKey 0x62B2 0x02
/-- Entry 62B2:03 (ctrTrcInstrLost). -/
abbrev K.ctrTrcInstrLost : Nat := dictKey 0x62B2 0x03
/-- Entry 62B2:04 (ctrTrcJourneyLost). -/
abbrev K.ctrTrcJourneyLost : Nat := dictKey 0x62B2 0x04
/-- Entry 62B2:05 (ctrTrcCounterLost). -/
abbrev K.ctrTrcCounterLost : Nat := dictKey 0x62B2 0x05
/-- Entry 62B2:06 (ctrTrcMirrorLost). -/
abbrev K.ctrTrcMirrorLost : Nat := dictKey 0x62B2 0x06
/-- Entry 62C0:01 (ctrSndMemorySlices). -/
abbrev K.ctrSndMemorySlices : Nat := dictKey 0x62C0 0x01
/-- Entry 62C0:02 (ctrSndTransientFaults). -/
abbrev K.ctrSndTransientFaults : Nat := dictKey 0x62C0 0x02
/-- Entry 62C0:03 (ctrSndRepairsApplied). -/
abbrev K.ctrSndRepairsApplied : Nat := dictKey 0x62C0 0x03
/-- Entry 62C0:04 (ctrSndRetiredCells). -/
abbrev K.ctrSndRetiredCells : Nat := dictKey 0x62C0 0x04
/-- Entry 62C0:05 (ctrSndPassOverruns). -/
abbrev K.ctrSndPassOverruns : Nat := dictKey 0x62C0 0x05
/-- Entry 62C0:06 (ctrSndLogicSlices). -/
abbrev K.ctrSndLogicSlices : Nat := dictKey 0x62C0 0x06
/-- Entry 62C0:07 (ctrSndSliceDeferred). -/
abbrev K.ctrSndSliceDeferred : Nat := dictKey 0x62C0 0x07
/-- Entry 62C0:08 (ctrSndLogicFailures). -/
abbrev K.ctrSndLogicFailures : Nat := dictKey 0x62C0 0x08
/-- Entry 62C0:09 (ctrSndReturns). -/
abbrev K.ctrSndReturns : Nat := dictKey 0x62C0 0x09
/-- Entry 62C1:01 (ctrSafFaultsInfo). -/
abbrev K.ctrSafFaultsInfo : Nat := dictKey 0x62C1 0x01
/-- Entry 62C1:02 (ctrSafFaultsLocal). -/
abbrev K.ctrSafFaultsLocal : Nat := dictKey 0x62C1 0x02
/-- Entry 62C1:03 (ctrSafFaultsDegraded). -/
abbrev K.ctrSafFaultsDegraded : Nat := dictKey 0x62C1 0x03
/-- Entry 62C1:04 (ctrSafFaultsCritical). -/
abbrev K.ctrSafFaultsCritical : Nat := dictKey 0x62C1 0x04
/-- Entry 62C1:05 (ctrSafFaultsFatal). -/
abbrev K.ctrSafFaultsFatal : Nat := dictKey 0x62C1 0x05
/-- Entry 62C1:06 (ctrSafSafeStateEntries). -/
abbrev K.ctrSafSafeStateEntries : Nat := dictKey 0x62C1 0x06
/-- Entry 62C1:07 (ctrSafSafeStateDrops). -/
abbrev K.ctrSafSafeStateDrops : Nat := dictKey 0x62C1 0x07
/-- Entry 62C1:08 (ctrSafPilotRestarts). -/
abbrev K.ctrSafPilotRestarts : Nat := dictKey 0x62C1 0x08
/-- Entry 62C1:09 (ctrSafExceptionDiscarded). -/
abbrev K.ctrSafExceptionDiscarded : Nat := dictKey 0x62C1 0x09
/-- Entry 62C1:0A (ctrSafDeviceWdExpiries). -/
abbrev K.ctrSafDeviceWdExpiries : Nat := dictKey 0x62C1 0x0A
/-- Entry 6070:01 (gaugeLvlDepth). -/
abbrev K.gaugeLvlDepth (i : Nat) : Nat := dictKey (0x6070 + i) 0x01
/-- Entry 6070:02 (gaugeLvlHeadWait). -/
abbrev K.gaugeLvlHeadWait (i : Nat) : Nat := dictKey (0x6070 + i) 0x02
/-- Entry 6070:03 (gaugeLvlMaxWait). -/
abbrev K.gaugeLvlMaxWait (i : Nat) : Nat := dictKey (0x6070 + i) 0x03
/-- Entry 6070:04 (gaugeLvlMeanWait). -/
abbrev K.gaugeLvlMeanWait (i : Nat) : Nat := dictKey (0x6070 + i) 0x04
/-- Entry 6100:01 (gaugeDcoreBusyThreads). -/
abbrev K.gaugeDcoreBusyThreads (i : Nat) : Nat := dictKey (0x6100 + i) 0x01
/-- Entry 6100:02 (gaugeDcoreLoad). -/
abbrev K.gaugeDcoreLoad (i : Nat) : Nat := dictKey (0x6100 + i) 0x02
/-- Entry 6100:03 (gaugeDcoreMeanWait). -/
abbrev K.gaugeDcoreMeanWait (i : Nat) : Nat := dictKey (0x6100 + i) 0x03

end Sys2Proof.Machine
end

