-- ==== Sys2Proof/Machine/State.lean ====
section
/-! DEFINITION. The machine's state as plain data: everything the manual gives the CH9820, grouped by its blocks, and the
queue of commands that wait. Scalar dictionary entries and counters have one home, `dict`; nothing else repeats them. -/

namespace Sys2Proof.Machine

/-- A sparse table: keys strictly rising, no entry equal to the table's default. The carrier of every RAM, register group
and table of the manual. -/
abbrev Tbl (α : Type) := List (Nat × α)

/-- The two orderable variants. R1. -/
inductive Variant where
  | a2 | a2s
deriving DecidableEq, Repr

/-- The descriptor, field by field. R74. -/
structure Desc where
  ingressTs : BitVec 64
  ruleAction : BitVec 32
  brambleData : BitVec 32
  brambleHit : Bool
  brambleWest : Bool
  brambleSlot : BitVec 17
  patternHit : Bool
  patternId : BitVec 12
  ruleHit : Bool
  ruleIndex : BitVec 13
  scanState : BitVec 2
  protoFlags : BitVec 16
  l3 : BitVec 10
  l4 : BitVec 10
  payload : BitVec 10
  ticket : BitVec 16
  orderDomain : BitVec 10
  level : BitVec 3
  windowSize : BitVec 2
  firstCell : BitVec 24
  cellCount : BitVec 6
  tsDomain : BitVec 2
  frameLength : BitVec 14
  ingressPort : BitVec 3
  headerCount : BitVec 6
  parseStatus : BitVec 4
  egressSecY : BitVec 8
  ingressSecY : BitVec 8
  macsecOutcome : BitVec 3
  flowClass : BitVec 8
  outerPcp : BitVec 3
  outerDei : Bool
  outerVid : BitVec 12
  etherType : BitVec 16
deriving DecidableEq, Repr

def Desc.zero : Desc :=
  ⟨0, 0, 0, false, false, 0, false, 0, false, 0, 0, 0, 0, 0, 0, 0, 0, 0, 0, 0, 0, 0, 0, 0, 0, 0, 0xFF, 0xFF, 0, 0, 0, false,
   0, 0⟩

/-! ### Ports and MACsec (02) -/

/-- A frame a MAC and its MACsec engine have delivered to the Parser. R58. -/
structure RxFrame where
  bytes : List Byte
  ts : BitVec 64        -- R36, R37: ingress timestamp in its domain
  tsDomain : Nat        -- R325
  secY : BitVec 8
  outcome : BitVec 3
  dropped : Bool        -- R59: its MACsec verdict drops it, once its cells are written
deriving DecidableEq, Repr

/-- A MAC control frame waiting to be sent next. R44, R40. -/
inductive CtrlFrame where
  | pause (quanta : Nat)
  | pfc (prios : BitVec 8) (quanta : Nat)
  | verify
  | respond
deriving DecidableEq, Repr

/-- MACsec protection of a frame under way: what its transmit association gave it when it began. R50, R52, R53. -/
structure TxGuard where
  an : Nat
  key : List Byte
  salt : List Byte
  ssci : BitVec 32
  xpn : Bool
  sci : Nat
  inc : Bool              -- the SecTAG carries the SCI
  conf : Bool             -- encrypted from the confidentiality offset on
  off : Nat
  pn : Nat
deriving DecidableEq, Repr

/-- What occupies or will occupy an egress line. R34. -/
structure TxFrame where
  control : Option CtrlFrame       -- a MAC control frame, with nothing to release
  handle : Option Nat              -- head cell of the Traffic Manager's copy, released at its end (R305)
  length : Nat                     -- bytes as sent, with FCS
  express : Bool                   -- which MAC of Z0-Z3 sends it (R39)
  sent : Nat                       -- data bytes sent in fragments before the present one (R41)
  mcrcs : List Nat                 -- the mCRC that ended each fragment closed so far (R41)
  cls : Nat                        -- traffic class
  ts : BitVec 64                   -- R36: egress timestamp
  tsDomain : Nat                   -- R325
  ptp : Option (Nat × Nat × Nat)   -- messageType, domainNumber, sequenceId of a frame for the FIFO (R326)
  stream : Option Nat              -- Lodestar stream of an express-path frame
  stomped : Bool                   -- R120
  bytes : List Byte                -- R333: the bytes sent before the FCS; those of a cut-through frame once its ingress frame has ended
  crc : Nat                        -- R34: its FCS, or the complement that ends a stomped frame (R120)
  guard : Option TxGuard           -- MACsec protection of a Lodestar frame (R114)
deriving DecidableEq, Repr

/-- One port's MAC. -/
structure Port where
  reprog : Bool                   -- R30: lane and PCS being reprogrammed
  anDone : Bool                   -- R54: SGMII auto-negotiation completed since reset (M0)
  verifyTries : Nat               -- R40: verify frames sent
  pauseAll : Nat                  -- R46: quanta of the PAUSE in force; 0 none
  pausePrio : Tbl Nat             -- R46: quanta of the PFC in force per priority
  bp : BitVec 8                   -- R44: priorities under back-pressure
  ctrlQ : List CtrlFrame          -- R44: control frames sent next
  line : Option TxFrame           -- R34: frame in transmission
  preempted : Option TxFrame      -- R42: preempted frame to be resumed
  holdMac : Bool                  -- R342: Set-And-Hold-MAC in force
  rxPartial : List Byte           -- R42: bytes of the partial frame
  rxFrag : Option Nat             -- R42: fragment count expected next; none without a partial frame
  rxAge : Nat                     -- R36: age of the partial frame's first byte, 0.25 ns units
  rxQ : List RxFrame              -- R58: frames delivered, waiting for the Parser
  lodeIn : Option Nat             -- R112: Lodestar has taken the frame being received: its flight number
  lodeClaim : Option Nat          -- R119: PX cycle of the last ingress point of a Lodestar frame for this egress port
deriving DecidableEq, Repr

def Port.zero : Port := ⟨false, false, 0, 0, [], 0#8, [], none, none, false, [], none, 0, [], none, none⟩

/-- A MACsec secure channel of a port's pool. R48. -/
structure SecChan where
  used : Bool
  rx : Bool
  secy : Nat
  sci : BitVec 64
  ctrs : Tbl Nat       -- R56: per-channel counters, numbered as the record 6020 numbers the port's
deriving DecidableEq, Repr

def SecChan.zero : SecChan := ⟨false, false, 0, 0#64, []⟩

/-- A MACsec secure association. R48, R53. -/
structure Sa where
  installed : Bool
  key : List Byte      -- the delivered key, inside the engine; no operation reads it out (R48)
  salt : List Byte     -- XPN suites: 12-byte salt (R419, INSTALL_SA)
  ssci : BitVec 32     -- XPN suites
  nextPn : Nat
  lowestPn : Nat       -- lowest acceptable PN of a receive SA (R49)
  exhausted : Bool     -- R53
  discarded : Bool     -- R53: first discard recorded
  ctrs : Tbl Nat       -- R56: per-association counters, numbered as the record 6020 numbers the port's
deriving DecidableEq, Repr

def Sa.zero : Sa := ⟨false, [], [], 0#32, 0, 0, false, false, []⟩

/-- The PX island: MACs and MACsec engines. Secure channel c of port p has key 256p + c, association AN of it 4(256p + c) + AN. -/
structure Px where
  ports : Tbl Port
  chans : Tbl SecChan
  sas : Tbl Sa
  mkaNotified : List Nat     -- R53: associations whose threshold crossing was notified to the MKA service
  zeroised : Bool            -- R435: keys cleared by zeroisation since reset
deriving DecidableEq, Repr

/-! ### Parser, Classifier, Pattern Engine (03) -/

/-- A programmable parse node. R62. -/
structure ProgNode where
  used : Bool
  fixedLen : Option Nat     -- 1 to 256 bytes; none: by length field
  lenBit : Nat
  lenWidth : Nat
  lenScale : Nat
  lenAdd : Nat
  keyBit : Nat
  keyWidth : Nat
  terminal : Bool
  profile : Nat
deriving DecidableEq, Repr

def ProgNode.zero : ProgNode := ⟨false, none, 0, 0, 0, 0, 0, 0, false, 0⟩

/-- A parse transition. R62. -/
structure Transition where
  used : Bool
  fromNode : Nat
  value : BitVec 32
  mask : BitVec 32
  toNode : Nat
deriving DecidableEq, Repr

def Transition.zero : Transition := ⟨false, 0, 0#32, 0#32, 0⟩

/-- A rule-table entry. R66, R71. -/
structure Rule where
  valid : Bool
  value : BitVec 512
  mask : BitVec 512
  action : BitVec 32
  hits : Nat
  badEast : Bool     -- uncorrectable ECC error in the east copy (R71)
  badWest : Bool
  outEast : Bool     -- out of service in the east copy until the Pilot rewrites it (R71)
  outWest : Bool
  fixEast : Bool     -- correctable ECC error in the east copy (R71)
  fixWest : Bool
deriving DecidableEq, Repr

def Rule.zero : Rule := ⟨false, 0, 0, 0x01000000#32, 0, false, false, false, false, false, false⟩

/-- A pattern. R76, R80. -/
structure Pattern where
  valid : Bool
  bytes : List Byte
  noCase : Bool
  anchor : Nat
  offset : Nat
  range : Nat
  flowValue : BitVec 8
  flowMask : BitVec 8
  action : Nat
  hits : Nat
  bad : Bool         -- uncorrectable ECC error (R80)
deriving DecidableEq, Repr

def Pattern.zero : Pattern := ⟨false, [], false, 0, 0, 0, 0#8, 0#8, 0, 0, false⟩

/-- A parsed frame waiting for acceptance. R60, R63. -/
structure Parsed where
  ts : BitVec 64
  tsDomain : Nat
  secY : BitVec 8
  outcome : BitVec 3
  length : Nat
  status : Nat
  node : Nat                        -- last parsed node
  profile : Nat                     -- R62: its key profile when the frame was parsed
  headers : List (Nat × Nat × Nat)  -- node, byte offset, length, in parse order
  flags : Nat
  l3 : Nat
  l4 : Nat
  payload : Nat
  etherType : Nat
  pcp : Nat
  dei : Bool
  vid : Nat
  firstCell : Nat
  cells : Nat
deriving DecidableEq, Repr

/-- A descriptor in a port's release-order queue. R73. -/
structure OutDesc where
  desc : Desc
  id : Nat            -- names the scan it waits for
  ready : Bool        -- scan result in, or none awaited
deriving DecidableEq, Repr

/-- A scan queued on a lane. R78. -/
structure Scan where
  port : Nat
  id : Nat            -- its descriptor in the release-order queue
  bytes : List Byte
  flowClass : BitVec 8
deriving DecidableEq, Repr

/-- The Parsers, the Classifier, the rule table, the Pattern Engine and the exception path. -/
structure Pc where
  nodes : Tbl ProgNode           -- R62: nodes 0x40 to 0x7F
  nativeProfile : Tbl Nat        -- R65: key profiles of nodes 0x01 to 0x0F
  transitions : Tbl Transition   -- R60, R62: 1,024
  keyProfiles : Tbl Nat          -- R65: extraction word i of profile p at 16p + i
  rules : Tbl Rule               -- R66: 8,192
  patterns : Tbl Pattern         -- R76: 4,096
  parsed : Tbl (List Parsed)     -- R63: parse results per port
  outQ : Tbl (List OutDesc)      -- R73: release-order queue per port
  toDx : List Desc               -- R18, R21: descriptors in the crossing to DX, waiting for a ticket
  lanes : Tbl (List Scan)        -- R78: eight lane queues
  exceptionQ : List Desc         -- R81
  tokens : Nat                   -- R81: policer tokens, in 10^-9 tokens
  tokensAt : Nat                 -- R81: instant of the last refill, ns
  nextScan : Nat                 -- next scan identifier
  alerts : Nat                   -- R79: ALERT records in the current 1 s interval
  alertsIn : Nat                 -- R79: that interval
  runs : Tbl Nat                 -- R268: Classifier scans a lane has completed in a row while a client request waited
deriving DecidableEq, Repr

/-! ### Bramble (04) -/

/-- A Bramble slot. R87. -/
structure BrEntry where
  valid : Bool
  half : Nat          -- 0 narrow, 1 wide first half, 2 wide second half
  etype : Nat         -- 0 STATIC, 1 LEARNED, 2 FLOW
  hit : Bool
  age : Nat
  profile : Nat
  mirror : Bool
  data : BitVec 32
  hitCount : Nat
  key : Nat           -- the slot's 160 key bits
deriving DecidableEq, Repr

def BrEntry.zero : BrEntry := ⟨false, 0, 0, false, 0, 0, false, 0#32, 0, 0⟩

/-- A notification of learning or ageing. R101. -/
structure Notice where
  event : Nat         -- 0 LEARN, 1 MOVE, 2 AGE
  key : Nat
  port : Nat
deriving DecidableEq, Repr

/-- One Bramble replica. R85. Slot numbers 0 to 131,071 are bucket slots; 131,072 + i is stash slot i. -/
structure Replica where
  slots : Tbl BrEntry
  bad : List Nat                -- R103: slots holding an uncorrectable error
  fix : List Nat                -- R103: slots holding a correctable error
  tokens : Nat                  -- R98: learn tokens, in 10^-9 tokens
  tokensAt : Nat                -- R98: instant of the last refill, ns
  learnQ : List (Nat × Nat)     -- R98: learn queue, profile-0 key and port
  notices : List Notice         -- R101
  changeLog : List (Nat × BrEntry)   -- R105: recorded writes: 0 insertion, 1 deletion
  failedInCopy : Bool           -- R108: an insertion failed during COPYING
  retired : List Nat            -- R498: buckets retired by Sounding
  swapAt : Option Nat           -- R108: instant at which SWAP was last sampled
  wrote : Nat × List Nat        -- R100: instant of the last table-domain or commit write, and the slots written at it
deriving DecidableEq, Repr

def Replica.zero : Replica := ⟨[], [], [], 256 * 10 ^ 9, 0, [], [], [], false, [], none, (0, [])⟩

/-- Bramble's replicas and programmable key profiles. -/
structure Bramble where
  east : Replica
  west : Replica
  profiles : Tbl (List (Nat × Nat))   -- R89: offset and width of the ranges of profiles 8 to 15
deriving DecidableEq, Repr

/-! ### Orchard (13) -/

/-- A link entry. R303. -/
structure Cell where
  allocated : Bool
  head : Bool
  quarantined : Bool
  pool : Nat
  owners : BitVec 16
  count : Nat
  next : Nat
deriving DecidableEq, Repr

def Cell.zero : Cell := ⟨false, false, false, 0, 0#16, 0, 0xFFFFFF⟩

/-- The Orchard. -/
structure Orchard where
  cells : Tbl Cell               -- R303: link entries by handle
  warned : List Nat              -- R311: pools whose warning is not re-armed
  quarantineList : List Nat      -- R312: at most 256 handles
  claims : List (Nat × Nat)      -- R315: claimed ranges, base and count
  sinceWalk : List Nat           -- R314: cells allocated since RECOVER began
  begun : List Nat               -- R316: head cells a port has begun to transmit
  badData : List Nat             -- R304: cells with an uncorrectable data error
  badLink : List Nat             -- R304: cells with an uncorrectable link entry
  fixData : List Nat             -- R304: cells with a correctable data error
  fixLink : List Nat             -- R304: cells with a correctable error in the link entry
  order : List Nat               -- R316: head cells of buffers in handover order
  retired : List Nat             -- R498: cells Sounding retired
  spillReads : List (Nat × Nat)  -- R317, R347: spilled cells asked for, each with the port that asks
  readBack : List (Nat × Nat)    -- R317, R347: spilled cells read back for a port
deriving DecidableEq, Repr
/-! ### Lodestar (05) -/

/-- A Lodestar stream entry with its counters. R112, R122. -/
structure LStream where
  word : BitVec 128
  frames : Nat
  stomps : Nat
deriving DecidableEq, Repr

def LStream.zero : LStream := ⟨0xFF#128 <<< 78, 0, 0⟩

/-- A frame Lodestar has taken and not dropped. R116 to R120. -/
structure Flight where
  id : Nat
  stream : Nat
  ingress : Nat
  egress : Nat
  secY : BitVec 8
  cls : Nat
  pcp : Nat
  limit : Nat               -- R113
  form : Nat                -- 0 cut-through on the line, 1 delayed, 2 held
  arrived : Option Nat      -- egress length once the last byte is in
  verdict : Option Nat      -- 0 good, 1 FCS, code error or runt, 2 ICV or late, 3 dropped otherwise; none: not received
  bad : Nat                 -- event found before the egress point: 0 none, 1 FCS, 2 ICV, 3 length
  passed : Bool             -- R118: a held frame whose good verdict has been taken
  ts : Option (BitVec 64)   -- R36: ingress timestamp, once the frame is in
  payload : List Byte       -- the delivered bytes, as far as they are known
deriving DecidableEq, Repr

/-- The Lodestar express path. -/
structure Lodestar where
  streams : Tbl LStream
  flights : List Flight     -- in arrival order; held frames leave in this order
  nextId : Nat
deriving DecidableEq, Repr

/-! ### Dispatcher (06) -/

/-- Kinds of work item. R126. -/
inductive ItemKind where
  | packet | replay | timed | posted
deriving DecidableEq, Repr

/-- A work item. R126, R129. -/
structure Item where
  kind : ItemKind
  level : Nat
  affinity : BitVec 16   -- TIMED and POSTED; a packet's is its FlowAffinity, read at enqueue (R146)
  tag : BitVec 32
  journal : Nat          -- journal entry of a PACKET or REPLAY item
  list : Nat             -- delay list of a TIMED item
  enq : Nat              -- instant of enqueue, ns (R143)
deriving DecidableEq, Repr

/-- A delay-list entry with its slot and generation. R136, R137. -/
structure DelayEntry where
  due : Nat
  affinity : BitVec 16
  level : Nat
  launch : Bool
  tag : BitVec 32
  slot : Nat
  gen : Nat
  isDue : Bool           -- R138: a sampled tick has made it due
  held : Bool            -- R128: it stands at the head and is counted in ReleaseHeld
deriving DecidableEq, Repr

/-- A delay list. R136. -/
structure DelayList where
  entries : List DelayEntry     -- sorted by DueTime, equal times by insertion
  gens : Tbl Nat                -- R137: generation the next entry of a slot takes
deriving DecidableEq, Repr

def DelayList.zero : DelayList := ⟨[], []⟩

/-- The Dispatcher. -/
structure Disp where
  levels : Tbl (List Item)                   -- R126: eight level FIFOs
  lists : Tbl DelayList                      -- R136: eight delay lists
  tickNs : Tbl Nat                           -- R138: time of each domain sent with the last tick, ns
  grants : Nat                               -- grants made, naming their order (R132)
  grantLog : List (Nat × Nat × Nat × Nat)    -- R143: instant, level, core, waiting time of grants in the window
  maxWait : Tbl Nat                          -- R143: longest waiting time per level since the last read, DX cycles
  busyLog : Tbl (List Nat)                   -- R143: BusyThreads of a core at the last refreshes of the window
deriving DecidableEq, Repr

/-! ### Ordered Release Unit (07) -/

/-- Journal states. R152. -/
inductive JState where
  | free | queued | running | ended | releasing | replay | failed
deriving DecidableEq, Repr

/-- A journal entry. R152. -/
structure JEntry where
  st : JState
  desc : Desc
  thread : Nat
  endKind : Nat                  -- 0 not ended, 1 PKTFWD, 2 PKTDROP, 3 PKTMC
  actions : List (BitVec 128)    -- posted action slots, in posting order, offsets written
  payload : List Byte            -- payload units in use
  replayCount : Nat
  lastFault : Nat
  endArg : BitVec 16
  windowCell : Nat
  firstGrant : Option Nat        -- R152, R166: instant of the first grant, ns
  copying : Bool                 -- R162: its window cell is being written
  fence : Bool                   -- R165: its drain fence is outstanding
  noCell : Bool                  -- R162: no window cell could be allocated
  bad : Bool                     -- R170: uncorrectable error in the entry
deriving DecidableEq, Repr

def JEntry.zero : JEntry := ⟨.free, Desc.zero, 0, 0, [], [], 0, 0, 0#16, 0, none, false, false, false, false⟩

/-- The Ordered Release Unit. -/
structure Oru where
  next : Tbl Nat                 -- R149: NextTicket by order domain
  head : Tbl Nat                 -- R149: HeadTicket by order domain
  journal : Tbl JEntry           -- R152: 4,096 entries
  ready : List Nat               -- R156: releasable journal entries, earliest first
  mcast : Tbl (BitVec 8)         -- R161: multicast groups
  reasons : Tbl Nat              -- R153: drop-reason counters
  eccAt : List Nat               -- R504: instants of journal errors within the last second
deriving DecidableEq, Repr

/-! ### Cores and threads (08, 09) -/

/-- A reply: status half and data half. R206. -/
structure Reply where
  status : BitVec 32
  data : BitVec 32
deriving DecidableEq, Repr

/-- What an outstanding request waits on. R186, R206, R274. -/
inductive WaitOn where
  | lock (l : Nat) | sem (n : Nat) | send (c : Nat) | recv (c : Nat) | event (e : Nat)
  | post | dma (ch : Nat)
  | request            -- R18: the request has not been sampled in DX
deriving DecidableEq, Repr

/-- A reply register. R186 to R188, R206. -/
inductive Rp where
  | empty
  /-- A request is outstanding; `n` microseconds of time-out (0 none), armed at microsecond strobe `at_`. R141. -/
  | out (w : WaitOn) (n at_ : Nat)
  /-- Its reply has been sent and not yet sampled in the cluster, with message words for a receive buffer. R247. -/
  | flying (r : Reply) (words : List Word) (buf : Nat)
  | full (r : Reply)
deriving DecidableEq, Repr

/-- The special registers that exist twice per thread. R203, R204. -/
structure RegSet where
  epc : BitVec 32
  ecode : BitVec 32
  eaddr : BitVec 32
  tvec : BitVec 32
  witem : BitVec 32
  wtag : BitVec 32
  rp0 : Rp
  rp1 : Rp
  rp2 : Rp
  rp3 : Rp
deriving DecidableEq, Repr

def RegSet.zero : RegSet := ⟨0, 0, 0, 0, 0, 0, .empty, .empty, .empty, .empty⟩

/-- A hardware loop context. R194, R244. -/
structure LoopCtx where
  start : Nat          -- address of the first body instruction
  last : Nat           -- address of the last body instruction
  remaining : Nat
  captured : Bool      -- holds a loop-buffer entry
deriving DecidableEq, Repr

/-- A blocking load whose data has not come back. R188, R284. -/
structure PendLoad where
  rd : Nat
  signed : Bool
  size : Nat
  data : List Byte
  bad : Option (Nat × Nat)   -- R177, R286: uncorrectable error met: MemoryId and word
deriving DecidableEq, Repr

/-- Why a thread is BLOCKED. R188, R211. -/
inductive Blk where
  | reply (m : Nat)                                  -- its next instruction reads empty RPm
  | busy (m : Nat)                                   -- its next request needs RPm, still in use
  | helper (n x : Nat)                               -- its next instruction reads PENDING register x of helper n
  | load (l : PendLoad)                              -- a load from shared RAM or atomic memory
  | dictLoad (addr rd : Nat)                         -- a dictionary-window load
  | dictStore (addr : Nat) (value : BitVec 64)       -- a dictionary-window store
deriving DecidableEq, Repr

/-- Why a thread is HELD. R190 to R193. -/
inductive Hold where
  | overlap (addr size : Nat) | storeFull | refusal | divider | dividing
deriving DecidableEq, Repr

/-- Thread states. R179. -/
inductive TState where
  | idle | starting | ready | blocked (b : Blk)
  | waiting (mask : BitVec 7) (n at_ : Nat)          -- R189: with its time-out and the strobe it was armed at
  | held (h : Hold) | ending | out
deriving DecidableEq, Repr

/-- The save slot of a pre-empted thread and what stands still with it. R133, R198, R204, R260. -/
structure Saved where
  regs : Tbl Word
  pc : Nat
  tsw : BitVec 32
  loops : List LoopCtx
  item : Item
  st : TState
  wdSpent : Nat        -- R198: strobes counted so far
  wdLimit : Nat
  codeBank : Nat
  ev : BitVec 7
  seq : Nat            -- its grant's number
deriving DecidableEq, Repr

/-- A request to the Rendezvous Unit or the Dispatcher; a message of a barrel thread carries the instant its words began to cross.
R137, R247, R274, R288. -/
inductive DxReq where
  | lock (l : Nat) (try_ : Bool) (n : Nat)
  | unlock (l : Nat) | clrAbnd (l : Nat)
  | semWait (k n : Nat) | semSig (k count : Nat)
  | chSend (c : Nat) (words : List Word) (n : Nat) (began : Option Nat)
  | chRecv (c buf n : Nat)
  | evSet (e : Nat) | evClr (e : Nat) | evWait (e n : Nat) | evSub (e : Nat) | evUnsub (e : Nat)
  | add (off : Nat) (v : Word) | cas (off : Nat) (old new : Word) | swap (off : Nat) (v : Word)
  | insert (l : Nat) (entry : BitVec 128) | cancel (handle : Nat)
deriving DecidableEq, Repr

/-- What a thread has sent to DX and DX has not sampled. R18, R153, R154. -/
inductive ToDx where
  | post (j : Option Nat) (second : Bool) (rp : Nat) (slot : BitVec 128) (payload : List Byte)
  | finish (j kind : Nat) (arg : BitVec 16)
  | fault (j code : Nat)       -- R163, R199
  | request (second : Bool) (rp : Nat) (r : DxReq)
  | store (off : Nat) (data : List Byte)   -- R284: to atomic memory
  | load (off n : Nat)                     -- R284
  | workDone (second : Bool)               -- R279
deriving DecidableEq, Repr

/-- What DX has sent to a thread and its island has not sampled. R18, R130, R133, R274, R292. -/
inductive FromDx where
  | work | preempt
  | reply (second : Bool) (m : Nat)
  | loaded
  | signal (second : Bool)
deriving DecidableEq, Repr

/-- A grant on its way to a thread: its item, its number, the watchdog strobe and limit it started with. R130, R198. -/
structure Grant where
  item : Item
  seq : Nat
  strobe : Nat
  limit : Nat
deriving DecidableEq, Repr

/-- A hardware thread: packet thread T(c.k) is 8c + k, barrel thread B(p.k) is 512 + 16p + k, Pilot core i is 576 + i. -/
structure Thread where
  regs : Tbl Word              -- R203: w1 to w31
  pc : Nat                     -- R180
  tsw : BitVec 32              -- R204
  set0 : RegSet                -- R204
  set1 : RegSet                -- R204: in force during a pre-empting TIMED item
  second : Bool                -- R204: the second set is in force
  ev : BitVec 7                -- R189: event pending bits
  loops : List LoopCtx         -- R194: innermost first
  st : TState                  -- R179
  item : Option Item           -- R205
  saved : Option Saved         -- R133
  window : List Byte           -- R75: header window, W bytes
  desc : Option Desc           -- R208: descriptor of the held packet
  wdFrom : Nat                 -- R198: watchdog strobe the count started at
  wdLimit : Nat                -- R198: limit taken at the grant
  codeBank : Nat               -- R226: bank the item began in
  seq : Nat                    -- R132: number of its grant
  hregs : Tbl Word             -- R253: helper registers: 256 × bank + 64 × helper + x
  hpend : List Nat             -- R258: helper registers that are PENDING
  hbad : List Nat              -- R253: helper registers with an uncorrectable error
  hfix : List Nat              -- R253: helper registers with a correctable error
  wbad : List Nat              -- R177: words of the header window with an uncorrectable error
  wfix : List Nat              -- R177: words of the header window with a correctable error
  work : Option Grant          -- R130: WORK event sent and not yet sampled in the cluster
  preempt : Option Grant       -- R133: pre-emption requested and not yet sampled
  kickAt : Nat                 -- R358: microsecond strobe of a barrel thread's last KICK
  retired : Nat                -- R489: instructions retired since the thread's last trace message
deriving DecidableEq, Repr

def Thread.zero : Thread :=
  ⟨[], 0, 0#32, RegSet.zero, RegSet.zero, false, 0#7, [], .idle, none, none, [], none, 0, 0, 0, 0, [], [], [], [], [], [], none,
   none, 0, 0⟩

/-- A store-buffer entry. R190. -/
structure SbEntry where
  addr : Nat
  data : List Byte
  tid : Nat
  seq : Nat            -- the storing item's grant (R177)
deriving DecidableEq, Repr

/-- A divide in progress. R193. -/
structure DivOp where
  tid : Nat
  rd : Nat
  a : Word
  b : Word
  signed : Bool
deriving DecidableEq, Repr

/-- What the threads of a core share. R176. Core c is c; processor BIOPp is 64 + p; Pilot core i is 68 + i. -/
structure Core where
  sb : List SbEntry            -- R190: at most 8
  div : Option DivOp           -- R193
deriving DecidableEq, Repr

def Core.zero : Core := ⟨[], none⟩

/-- Whose turn it is on a core to issue. R181, R354. -/
structure Turn where
  slot : Nat                   -- slot of the next cycle
  lastDyn : Nat                -- LastDynamic, LastElastic
deriving DecidableEq, Repr

def Turn.zero : Turn := ⟨0, 7⟩

/-! ### Helpers (11) -/

/-- An accepted helper operation with its latched operands. R255, R256. -/
structure HOp where
  tid : Nat
  bank : Nat
  helper : Nat
  fn : Nat
  regs : Tbl Word              -- its operand registers, latched
  started : Bool
  key : List Byte              -- R264: the slot's key as the operation started
  cut : Bool                   -- R264: the slot was cleared while it ran
  lane : Option Nat            -- R268: the lane that serves a scan
  src : Option (Nat × List Byte)   -- R268: what the pattern client has read: a status, and the source's bytes
  out : List (Nat × Word)      -- R266: the reply of a lookup: result registers, and STATUS
deriving DecidableEq, Repr

/-- A key in a cluster key slot. R264, R422. -/
structure KeySlot where
  loaded : Bool
  bytes : List Byte
deriving DecidableEq, Repr

def KeySlot.zero : KeySlot := ⟨false, []⟩

/-- The cores, threads and helpers. -/
structure Cores where
  threads : Tbl Thread
  cores : Tbl Core
  turns : Tbl Turn             -- R181, R354
  toDx : Tbl (List (Nat × ToDx))       -- R18: the crossing of cluster n, BI (16) or PL (17) to DX, oldest event first
  fromDx : Tbl (List (Nat × FromDx))   -- R18: the crossing from DX
  ops : Tbl (List HOp)         -- R256: accepted operations of cluster n, in acceptance order
  clientQ : List (Nat × Nat)   -- R268: client requests in order, at most 16 of them in the queue: thread and bank
  keys : Tbl KeySlot           -- R264: slot s of cluster n at 16n + s
  bad : List Nat               -- R177: memory words (32 bits, by key) with an uncorrectable error
  fix : List Nat               -- R177: memory words with a correctable error
deriving DecidableEq, Repr

/-! ### Rendezvous (12) -/

/-- Who holds a lock. R276. -/
inductive Holder where
  | requester (t : Nat) (second : Bool)   -- a thread, and the register set of the item that took it
  | journal (j : Nat)
deriving DecidableEq, Repr

/-- A waiter. R274, R278. -/
structure Waiter where
  tid : Nat
  second : Bool
  rp : Nat
  prio : Nat
  words : List Word    -- a waiting sender's message
  buf : Nat            -- a waiting receiver's buffer
deriving DecidableEq, Repr

/-- A lock. R276. -/
structure Lock where
  holder : Option Holder
  abandoned : Bool
  waiters : List Waiter
deriving DecidableEq, Repr

def Lock.zero : Lock := ⟨none, false, []⟩

/-- A semaphore. R281. -/
structure Sem where
  count : Nat
  waiters : List Waiter
deriving DecidableEq, Repr

def Sem.zero : Sem := ⟨0, []⟩

/-- A channel. R287, R289. -/
structure Chan where
  msgs : List (List Word)
  receivers : List Waiter
  senders : List Waiter
deriving DecidableEq, Repr

def Chan.zero : Chan := ⟨[], [], []⟩

/-- An event bit. R291. -/
structure EvBit where
  value : Bool
  waiters : List Waiter
deriving DecidableEq, Repr

def EvBit.zero : EvBit := ⟨false, []⟩

/-- The configuration words of R299. -/
structure RdvCfg where
  sems : Tbl (BitVec 32)
  chans : Tbl (BitVec 32)
  events : Tbl (BitVec 32)
  groups : Tbl (BitVec 576)
deriving DecidableEq, Repr

/-- The Rendezvous Unit. -/
structure Rdv where
  locks : Tbl Lock
  sems : Tbl Sem
  chans : Tbl Chan
  events : Tbl EvBit
  subs : Tbl (List Nat)        -- R292: event bits subscribed, by 2 × requester + register set
  cfg : RdvCfg                 -- as written (R299)
  live : RdvCfg                -- as taken at the last reset (R299)
  badAtomic : List Nat         -- R286: doublewords with an uncorrectable error
  fixAtomic : List Nat         -- R286: doublewords with a correctable error
  toldAtomic : List Nat        -- R286: those recorded
deriving DecidableEq, Repr
/-! ### Chronometer and Traffic Manager (14) -/

/-- A time domain. R321, R328. -/
structure TimeDomain where
  units : Nat                 -- 0.25 ns units
  frac : Nat                  -- 40-bit fraction
  step : Option Int           -- R322: pending step, 0.25 ns units
  goods : Nat                 -- R328: consecutive edges within the lock threshold
  bads : Nat                  -- R328: consecutive edges beyond it, in LOCKED
  missed : Nat                -- R328: consecutive missed pulses
  outputs : List Int          -- R329: PLL outputs of the last valid edges, latest first, at most 64
  integ : Int                 -- R328: integral part of the PLL's loop
deriving DecidableEq, Repr

def TimeDomain.zero : TimeDomain := ⟨0, 0, none, 0, 0, 0, [], 0⟩

/-- The Chronometer. -/
structure Chrono where
  domains : Tbl TimeDomain
  lastEdge : Option Nat       -- R327: TM cycle of the last valid edge; none: the next edge is the first
  awaited : Option Nat        -- R327: TM cycle of the last edge that was valid or due and missed
  ppsOut : Bool               -- R330: level of 1PPS_OUT
  ppsOutAt : Option Nat       -- R330: TM cycle of its last rising edge
  ppsDueAt : Option Nat       -- R330: TM cycle of the last edge that fell due
deriving DecidableEq, Repr

/-- A gate control list entry. R340. -/
structure GateEntry where
  states : BitVec 8
  op : Nat
  interval : Nat
deriving DecidableEq, Repr

def GateEntry.zero : GateEntry := ⟨0xFF#8, 0, 0⟩

/-- The gate control of a port. R340, R341. -/
structure Gate where
  admin : Tbl GateEntry
  oper : List GateEntry
  cycle : Nat               -- CycleTime of the operational list
  base : Nat                -- start of the current cycle, ns of GateDomain
  idx : Nat                 -- entry in force
  idxAt : Nat               -- when it came into force
  changeAt : Option Nat     -- R341: ConfigChangeTime of a pending change
deriving DecidableEq, Repr

/-- A packet copy at the Traffic Manager. R331 to R333, R345. -/
structure TmCopy where
  handle : Nat                    -- head cell
  desc : Desc
  raw : Option (List Byte)        -- a frame handed over without cells (UDA, trace, bridge); else its cells hold it
  cls : Nat
  queue : Option Nat              -- stream queue; none: class FIFO
  cells : Nat                     -- the buffer's Count at handover
  rtag : Option Nat               -- R337: sequence number inserted or replaced
  strip : Bool                    -- R338: R-TAG removed
  due : Nat                       -- arrival, or ATS eligibility time, ns of GateDomain (R339, R344)
  ats : Bool                      -- not before its eligibility time
  launch : Option (Nat × Nat)     -- R345: delay list and launch time
  released : Bool                 -- its LAUNCH release has arrived
  inTime : Bool                   -- handover and release by LaunchTime - 100 ns
  gateHeld : Bool                 -- counted in GateGuardHolds
  guardHeld : Bool                -- counted in LaunchGuardHolds
deriving DecidableEq, Repr

/-- A record of an egress timestamp FIFO. R326. -/
structure PtpRec where
  ts : BitVec 64
  domain : Nat
  messageType : Nat
  domainNumber : Nat
  sequenceId : Nat
deriving DecidableEq, Repr

/-- A port of the Traffic Manager. -/
structure TmPort where
  classQ : Tbl (List TmCopy)    -- R331: 8 class FIFOs
  streamQ : Tbl (List TmCopy)   -- R331: 64 stream queues
  launchSet : List TmCopy       -- R345: at most 256
  gate : Gate
  credit : Tbl Int              -- R343: 10^-6 bits per class
  ptp : List PtpRec             -- R326: at most 64
deriving DecidableEq, Repr

def TmPort.zero : TmPort := ⟨[], [], [], ⟨[], [], 0, 0, 0, 0, none⟩, [], []⟩

/-- A stream filter. R335. -/
structure StreamFilter where
  enable : Bool
  maxSdu : Nat
  blockOnOversize : Bool
  meterEnable : Bool
  meter : Nat
  blocked : Bool
deriving DecidableEq, Repr

def StreamFilter.zero : StreamFilter := ⟨false, 0, false, false, 0, false⟩

/-- A flow meter. R336. -/
structure Meter where
  cir : Nat
  eir : Nat
  cbs : Nat
  ebs : Nat
  coupling : Bool
  dropOnYellow : Bool
  markRed : Bool
  committed : Nat     -- committed bucket, 10^-6 bits
  excess : Nat        -- excess bucket, 10^-6 bits
  at_ : Nat           -- instant of the last refill, ns
  allRed : Bool
deriving DecidableEq, Repr

def Meter.zero : Meter := ⟨0, 0, 0, 0, false, false, false, 0, 0, 0, false⟩

/-- An ATS shaper. R339. -/
structure AtsShaper where
  cir : Nat
  cbs : Nat
  maxResidence : Nat
  bucketEmpty : Nat
deriving DecidableEq, Repr

def AtsShaper.zero : AtsShaper := ⟨1, 64, 0, 0⟩

/-- A sequence recovery function. R338. -/
structure Recovery where
  history : Nat
  timeout : Nat
  takeNoSeq : Bool
  strip : Bool
  takeAny : Bool
  num : Nat
  hist : BitVec 128      -- bit i: number num - i received
  passed : Nat
  discarded : Nat
  outOfOrder : Nat
  rogue : Nat
  lost : Nat
  tagless : Nat
  resets : Nat
  lastAt : Option Nat    -- R338: when the time-out last began to run, ns; none: not running
deriving DecidableEq, Repr

def Recovery.zero : Recovery := ⟨2, 1, false, true, true, 0, 0#128, 0, 0, 0, 0, 0, 0, 0, none⟩

/-- A packet handed over by the Ordered Release Unit. R161, R332. -/
structure Handover where
  desc : Desc
  handle : Nat
  raw : Option (List Byte)
  ports : List (Nat × Nat × Nat)   -- port, traffic class, stream queue
  launch : Option (Nat × Nat)      -- R160: delay list and launch time
deriving DecidableEq, Repr

/-- The Traffic Manager. -/
structure Tm where
  ports : Tbl TmPort
  streamCfg : Tbl (BitVec 64)      -- R331: word of queue q of port p at 64p + q; reset 4096
  filters : Tbl StreamFilter       -- R335
  meters : Tbl Meter               -- R336
  shapers : Tbl AtsShaper          -- R339
  groupElig : Tbl Nat              -- R339: by stream queue, 64p + q
  seqGen : Tbl Nat                 -- R337
  recovery : Tbl Recovery          -- R338
  inbox : List Handover            -- released packets crossing to TM
  releases : List (Nat × Bool)     -- R345: LAUNCH releases ahead of their handover: handle, by LaunchTime - 100 ns
  acfIn : List TmCopy              -- R371: copies handed over to stream queue 63 of port 7
deriving DecidableEq, Repr

/-! ### Barrel I/O Processors (15) -/

/-- An FIO pin. R360 to R362. -/
structure Pin where
  out : Bool                             -- output register
  level : Bool                           -- input level behind the glitch filter
  edges : List (Bool × BitVec 32)        -- edge FIFO: level after the edge and its BiTime, at most 8
  overflow : Bool                        -- R362: an edge was discarded since the last EDGE
  sets : List (BitVec 32 × Bool × Nat)   -- pending timed SETs in issue order, at most 4: WHEN, level, thread
deriving DecidableEq, Repr

def Pin.zero : Pin := ⟨false, false, [], false, []⟩

/-- A bit-timing assist unit. R363 to R367. -/
structure Assist where
  tx : List (Word × Nat × Bool)          -- TX FIFO: bits, how many, last word; at most 4
  rx : List (Word × Nat × Bool)          -- RX FIFO: bits, how many, end of frame; at most 4
  state : Nat                            -- 0 ACTIVE, 1 PASSIVE, 2 OFF
  next : Option Nat                      -- SETSTATE waiting for the next bit boundary
  events : BitVec 14
  sofTime : BitVec 32
  sending : Bool                         -- past SOF of an own frame, and not ARB_LOST
  crc : Option Bool                      -- CRC result of the frame being received
  armedAt : Option (BitVec 32)           -- ACKARM issued at this BiTime
  ack : Bool                             -- ACK slot driven dominant
  stopped : Bool                         -- its processor is HALTED or its owner was reset
  rxw : Word                             -- RXW
  rxinfo : Word                          -- RXINFO
  rxDrop : Bool                          -- the frame being received is abandoned (RX overrun)
deriving DecidableEq, Repr

def Assist.zero : Assist := ⟨[], [], 0, none, 0#14, 0#32, false, none, none, false, false, 0#32, 0#32, false⟩

/-- An uplink message. R369, R370. -/
structure UpMsg where
  chan : Nat
  canId : BitVec 32
  flags : BitVec 3
  payload : List Byte
  ts : BitVec 64
deriving DecidableEq, Repr

/-- An ACF bridge stream. R370. -/
structure UpStream where
  queue : List UpMsg
  since : Nat                            -- instant of the first queued message, ns
  seq : BitVec 8                         -- NTSCF sequence number
deriving DecidableEq, Repr

def UpStream.zero : UpStream := ⟨[], 0, 0#8⟩

/-- The Barrel I/O Processors: pins, assist units and the ACF bridge. Their threads are among `Cores.threads`. -/
structure Barrel where
  pins : Tbl Pin
  pinCfg : Tbl (BitVec 32)               -- R360: as written; the default of pin i is pinDefault i
  pinLive : Tbl (BitVec 32)              -- R360: as taken at the last reset
  units : Tbl Assist
  streams : Tbl UpStream
  ringHead : Tbl Nat                     -- R371: DNHEAD of a channel
  ringTail : Tbl Nat                     -- R369: DNTAIL of a channel
  waits : Tbl Nat                        -- an operation that waits, by 4 × barrel thread + COP unit; 0 none. EDGE: 1 + pin +
                                         -- 64 × kind of edge; RXPOP: 1 + unit
  inject : List RxFrame                  -- R370: frames of the bridge waiting for the M0 parse pipeline
  injectTurn : Bool                      -- R370: that pipeline serves the bridge next
deriving DecidableEq, Repr

/-! ### DRAM Controller (16) -/

/-- A DRAM request, within one line. R380 to R384. -/
structure DramReq where
  requester : Nat             -- 0 Orchard egress read, 1 other Orchard access, 2 + c DMA channel c, 18 + i Pilot pair i
  line : Nat                  -- byte address of the line
  write : Bool
  bytes : List (Nat × Byte)   -- of a write its bytes by offset; of a read those a queued write forwards (R383)
  off : Nat                   -- a read's first byte and length
  size : Nat
  at_ : Nat                   -- instant it was sampled, ns
  overtaken : Nat                  -- requests of its bank that have overtaken it (R382)
deriving DecidableEq, Repr

/-- A completion a DRAM command has made: requester, line, status and a read's bytes. R380. -/
structure DramDone where
  requester : Nat
  line : Nat
  status : Nat
  data : List Byte
deriving DecidableEq, Repr

/-- A bank of a rank of a subchannel. R388, R389. -/
structure DramBank where
  openRow : Option Nat
  counts : List (Nat × Nat)          -- R388: row and count, at most 16
  throttled : List (Nat × Nat)       -- R389: requesters limited to one ACT per ThrottleInterval in this window, with the instant of
                                     -- their last ACT, ns
  acts : List (Nat × Nat)            -- R389: requester and instant of the ACTs of the last 1 us
  told : Bool                        -- R389: 0x1008 written in this window
  refreshed : List Nat               -- R389: rows the last mitigation refreshed
  rfms : Nat                         -- R389: RFM commands issued
deriving DecidableEq, Repr

def DramBank.zero : DramBank := ⟨none, [], [], [], false, [], 0⟩

/-- A rank of a subchannel. R390. -/
structure DramRank where
  down : Bool                        -- in precharge power-down
  postponed : Nat                    -- refreshes postponed, at most 4
  busyAt : Nat                       -- instant a queue last held a request for it, or of its last refresh, ns
deriving DecidableEq, Repr

def DramRank.zero : DramRank := ⟨false, 0, 0⟩

/-- A DRAM channel. R378, R381, R386, R387. -/
structure DramChan where
  reads : List DramReq               -- oldest first, at most 64
  writes : List DramReq              -- oldest first, at most 64
  drain : Bool
  retryA : List DramReq              -- R386: retry buffers of subchannels A and B, newest first, at most 32 each
  retryB : List DramReq
  alert : Bool                       -- R386: ALERT_n low, the retry sequence under way
  highAt : Option Nat                -- R387: instant ALERT_n last returned high
  alerts : List Nat                  -- R387: instants of alerts within the last 1 ms
  step : Nat                         -- R378: training step; 0 none, 8 trained
  tries : Nat                        -- R378: failures of the step
  cals : Nat                         -- R379: calibrations, each adjusting the DQ delays
deriving DecidableEq, Repr

def DramChan.zero : DramChan := ⟨[], [], false, [], [], false, none, [], 0, 0, 0⟩

/-- The DRAM Controller. -/
structure Dram where
  chans : Tbl DramChan
  banks : Tbl DramBank               -- by channel, subchannel, rank and bank
  ranks : Tbl DramRank               -- by channel, subchannel and rank
  badEcc : List Nat                  -- R385: lines with an uncorrectable error
  fixEcc : List Nat                  -- R385: lines with a correctable error
  badTag : List Nat                  -- R393: lines whose tag or counter does not verify
  counters : Tbl Nat                 -- R392: write counters of Vaulted regions, by region, level (1 a line's, 7 a root) and place in
                                     -- the level (Dram.counterKey)
  fromOb : List DramReq              -- R18, R380: requests in the crossing from OB, the first the one that waits for its queue
  fromPl : List DramReq              -- and in the crossing from PL
  keys : Tbl (List Byte)             -- R394, R415: key registers of Sealed and Vaulted regions, 96 bytes each; empty: none
  failedAt : List Nat                -- R433: instants of the latest integrity failures within 1 s, at most 16
  done : List DramDone               -- completions of the last DRAM command
  timing : Tbl Nat                   -- R377: timing table, by speed bin and parameter
deriving DecidableEq, Repr

/-! ### DMA Engine (17) -/

/-- A DMA transfer. R400, R401, R405. -/
structure DmaXfer where
  desc : BitVec 256
  origin : Nat                       -- 0 DMADB, 1 DMASTART, 2 Pilot
  requester : BitVec 32
  notify : Option (Nat × Bool)       -- thread and register set that RP2 is replied to
  start : Nat                        -- domain-0 ns at the first source request, or the doorbell
  abort : Bool                       -- R404: abort asked while running
deriving DecidableEq, Repr

/-- A completion record held by a full ring, or being written. R405, R406. -/
structure DmaRecord where
  ch : Nat
  xfer : DmaXfer
  status : Nat
  bytes : Nat
  refused : Bool                     -- of a refused doorbell: the channel is left alone
deriving DecidableEq, Repr

/-- The DMA Engine. -/
structure Dma where
  chans : Tbl (Option DmaXfer)       -- the transfer of a channel that is QUEUED or RUNNING
  queue : List Nat                   -- start queue
  running : Option Nat               -- the mover's channel
  held : List DmaRecord              -- R406: records waiting for room in the ring, oldest first
  heldAt : Nat                       -- R406: since when
  told : Bool                        -- R406: 0x1103 written for this hold
  phase : Bool                       -- Phase of the next record
deriving DecidableEq, Repr

/-! ### Binnacle (18) -/

/-- A key-store slot. R417, R419. -/
structure KeyEntry where
  used : Bool
  gen : Nat          -- generation of the slot
  usage : Nat        -- 1 CAK, 2 cluster AES, 3 cluster KMAC, 4 UDA pre-shared; 5 KEK, 6 ICK, 7 SAK (the model's codes)
  keyId : Nat
  bytes : List Byte
deriving DecidableEq, Repr

def KeyEntry.zero : KeyEntry := ⟨false, 0, 0, 0, []⟩

/-- Binnacle. -/
structure Binnacle where
  otp : Tbl Nat                -- R414: OTP by 32-bit word
  drk : List Byte              -- R415: device root key; empty when none is formed
  bootNonce : List Byte        -- R428
  store : Tbl KeyEntry         -- R419: 256 slots
  rngBad : Bool                -- R420: a health test has failed and 1,024 samples have not passed since
  rngFails : List Nat          -- R420: instants of failures within the last second
  lcTarget : Option Nat        -- R413: the life-cycle write in progress
  rollback : List (Nat × Nat)  -- R427: counter and value of the rollback writes under way, in order
  trips : List Nat             -- R435: detectors whose response waits for the write in progress
  zeroWait : Option Nat        -- R435: cause of a zeroisation that waits for the write in progress
  quote : Option (List Byte)   -- R432: nonce of the quote being formed
  quotes : Nat                 -- R431: quotes since reset
  mrWait : List (Nat × List Byte)  -- R432: extensions that wait for the quote
  recipient : Option (List Byte)   -- R418: recipient of an export the Pilot has yet to request
deriving DecidableEq, Repr

/-! ### UDA (19) -/

/-- A UDA request message waiting in the engine's queue, with what its response needs. R448, R449. -/
structure UdaReq where
  udp : Bool            -- over UDP; else over CAN XL
  port : Nat            -- ingress port; over CAN XL the channel
  l3 : Nat              -- offset of the IP header
  head : List Byte      -- the frame's bytes through the UDP header
  msg : List Byte       -- the message
deriving DecidableEq, Repr

/-- A UDA session. R450, R453. -/
structure Session where
  state : Nat                -- 0 free, 1 CHALLENGED, 2 OPEN
  id : Nat
  mode : Nat                 -- 1 KEY, 2 SIG
  role : Nat                 -- requested, then granted
  keyId : Nat
  clientNonce : List Byte
  deviceNonce : List Byte
  can : Bool                 -- transport: CAN XL
  at_ : Nat                  -- instant of the CHALLENGE, or of the last authenticated request, ns
  kc : List Byte             -- R452: host to device MAC key, held in Binnacle
  kd : List Byte             -- device to host
  high : Nat                 -- R453: HighSeq
  accepted : BitVec 64       -- bit i: HighSeq − i accepted
  cache : List (Nat × List Byte)  -- last 8 responses: Sequence and message, latest first
  seg : Option (Nat × Nat × List Byte × Nat)  -- R447: SEG_WRITE sequence: entry, TotalLength, bytes so far, instant of its last segment
  waiting : List UdaReq      -- R454: requests accepted behind one that the Pilot still holds, oldest first
deriving DecidableEq, Repr

def Session.zero : Session := ⟨0, 0, 0, 0, 0, [], [], false, 0, [], [], 0, 0#64, [], none, []⟩

/-- A commit under way. R459. -/
structure Commit where
  image : List Byte
  bank : Nat                 -- the bank it is written to
  staged : Nat               -- StagedWrites that it holds: 0 for an uploaded image
  req : UdaReq               -- its COMMIT
  slot : Nat                 -- the session it came in, by slot and SessionId
  id : Nat
  seq : Nat                  -- the Sequence of the COMMIT
deriving DecidableEq, Repr

/-- The UDA engine and the commit it carries. -/
structure Uda where
  tokens : Nat               -- R448: policer tokens, in 10^-9 tokens
  tokensAt : Nat             -- R448: instant of the last refill, ns
  engineQ : List UdaReq      -- R448: at most 32
  sessions : Tbl Session     -- R450: 16
  commit : Option Commit
  domains : Tbl (List (Nat × List Byte))  -- R473: staged items of the persistent domains: position and image, by domain index
deriving DecidableEq, Repr


/-! ### Almanac and trace (21) -/

/-- A record a block has raised, ahead of its crossing to AON. R476, R478. -/
structure Raised where
  code : Nat
  severity : Nat
  detail : Nat          -- the 12 detail bytes as a little-endian number
deriving DecidableEq, Repr

/-- An Almanac record in its slot, with its flush mark. R475, R484. -/
structure AlmRec where
  seq : Nat             -- 0: slot free
  time : Nat
  code : Nat
  severity : Nat
  timeSource : Bool     -- 1: AON uptime
  origin : Nat
  detail : Nat
  flushed : Bool
  at_ : Nat             -- R484: instant it arrived, ns
deriving DecidableEq, Repr

def AlmRec.zero : AlmRec := ⟨0, 0, 0, 0, false, 0, 0, false, 0⟩

/-- The Almanac recorder, its flush controller and flash log, and the Trace Unit. -/
structure Almanac where
  raised : Tbl (List Raised)    -- R478: up to 8 records per origin, ahead of the crossing
  slots : Tbl AlmRec            -- R481: 8,192 slots
  nextSeq : Nat                 -- R478: Sequence of the next record
  aonTime : Option Nat          -- R478: last domain-0 time the Chronometer sent, ns
  aonTimeAt : Nat               -- R478: instant it came
  onAt : Nat                    -- R478: instant of VDD_AON power-on
  badSlots : List Nat           -- R480: slots with an uncorrectable error
  fixSlots : List Nat           -- R480: words with a correctable error, by slot
  first1601 : Bool              -- R484: the power-on record is still to be written first in the log
  urgent : Bool                 -- R485: an urgent flush is under way
  urgentLeft : Nat              -- R485: records the urgent flush may still write
  page : List AlmRec            -- R484: page buffer of the write in progress
  headPage : Nat                -- R484: next page to write, counted from FlashBase
  room : Nat                    -- R484: pages left in the sector being written; 0: a reserve sector is taken first
  reserve : List Nat            -- R484: erased sectors ahead of the write position, nearest first
  eraseAt : Nat                 -- R484: the oldest log sector, erased next
  log : Tbl (List AlmRec)       -- R484: flash log by page
  configured : Bool             -- R483: a configuration has been applied since power-on
  headFound : Bool              -- R486: head search done since power-on
deriving DecidableEq, Repr

/-- One trace message waiting in a source's FIFO. R488, R489. -/
structure TraceMsg where
  kind : Nat
  source : Nat
  at_ : Nat             -- instant of the event, ns
  body : List Byte
deriving DecidableEq, Repr

/-- The Trace Unit. -/
structure Trace where
  fifos : Tbl (List TraceMsg)   -- R487: 64 messages; 1 instruction, 2 journey, 3 counter, 4 mirror
  lost : Tbl Nat                -- R489: messages lost per source since its last LOST
  lastTime : Option Nat         -- R489: instant of the last TIME message
  blockSeq : Nat                -- R490
  lostBlock : Nat               -- R490: messages lost since the previous block
  pendingBytes : List Byte      -- R490: bytes of the block being filled
  firstOffset : Nat             -- R490: offset of the first message beginning in that block, 0 none
  blocks : List (List Byte)     -- R490: blocks ready for an M0 frame
  blockAt : Nat                 -- R490: instant of the first block waiting for an M0 frame
  portBlocks : Nat              -- R490: blocks sent on the trace port
  selection : Tbl Nat           -- R492: counter selection domain 70D3
  counterAt : Nat               -- R488: instant the selected counters were last read
deriving DecidableEq, Repr
/-! ### Sounding and the Safety Manager (22) -/

/-- The Safety Manager. -/
structure Safety where
  reports : List (Nat × Nat)   -- R504: fault reports on their way to AON: source and unit
  safeOut : Bool               -- R505, R506: level of SAFE_A_N and SAFE_B_N, which move together
  safeAt : Option Nat          -- R505: instant of the reset that ends safe state
  safeCause : Nat              -- R505, R508: cause of that reset
  kicks : Tbl Nat              -- R507: instant of a pair's last PilotKick
  restarting : List Nat        -- R507: Pilot pairs that are restarting
  wdArmed : Bool               -- R508
  wdKickAt : Nat               -- R508: instant of the last kick, or of arming
  wdKicked : Bool              -- R508: a kick has come since arming
  wdFirst : Option Nat         -- R508: instant of a first kick byte that waits for its second
  lodestarOff : Bool           -- R505: safe state was entered for a PLL fault that names PX
  classes : Tbl Nat            -- R504: fault-class domain, class + 1 of a source that was raised
deriving DecidableEq, Repr

/-- Sounding. -/
structure Sounding where
  slice : Option (Nat × Nat)   -- R499: core under a logic slice and its phase: 0 draining, 1 testing, 2 helpers testing
  sliceAt : Nat                -- R499: instant the slice was chosen
  next : Nat                   -- R499: core the next choice starts at
  failed : Bool                -- R501: the slice has failed once and runs again
  offer : List Nat             -- R502: cores out of service to be tested for return
  firstOut : Tbl Nat           -- R502: instant + 1 of a unit's first out-of-service event: core c, or cluster 64 + n
  barred : List Nat            -- R502: units not offered for return before the next device reset
  pass : Option (Nat × Nat)    -- R495: the pass's next slice: instance in visiting order, and slice of it
  passAt : Option Nat          -- R495: instant the last pass was due
  passWait : Bool              -- R495: a pass is due when this one ends
  spares : Tbl Nat             -- R498: spares used, by 256 × MemoryId + instance
  repairs : List (Nat × Nat × Nat × Nat)  -- R511: repair list: MemoryId, instance, spare, granule; AON registers
  results : Tbl Nat            -- R503: result domain 70E0 by position, 128 bits
  resultAt : Nat               -- R503: position of the next result
deriving DecidableEq, Repr

/-! ### Reset, boot and power (23, 24) -/

/-- Reset, boot, clocks, power and the control balls. -/
structure Boot where
  asserted : Bool            -- R522: internal reset asserted
  cause : Nat                -- R521: its cause
  mask : Nat                 -- R521: other causes sampled in the same AON cycle
  at_ : Nat                  -- instant of assertion, ns
  waiting : List (Nat × Nat) -- R522: causes that wait for an OTP write or a zeroisation, with the instant of each, ns
  softAt : Option Nat        -- R523: instant of the reset a ResetRequest starts
  porst : Bool               -- PORST_N is low
  pwrfail : Bool             -- PWRFAIL_N is low behind its filter
  pwrHighAt : Nat            -- R529: instant PWRFAIL_N last went high
  powerFail : Bool           -- R529: the reset in force has cause POWER_FAIL
  releasedAt : Nat           -- instant of the last reset release, ns (1040:04, 1040:05)
  step : Nat                 -- R525: last boot step that has ended, 0 none
  linked : Bool              -- 1040:04: a backbone link has come up since release
  plls : Tbl (Nat × Nat)     -- R519: PLL by number: 0 starting, 1 locked, 2 failed or lost; attempts that failed
  codeOk : Tbl Bool          -- R226, R426: bank b of cluster n at 2n + b holds a verified image
  barrelOk : Tbl Bool        -- R426: processor p holds a verified image
  bankSigner : Nat           -- R411: SignerSlot of the configuration bank in force, 0xFF with defaults
  stepsDone : Nat            -- R525: bit 7 code loaded, bit 8 DRAM trained
  rstout : Bool              -- level of RSTOUT_N
  fullTest : Bool            -- R503: between the two resets of a full test
  avsWait : List Nat         -- R517: clusters whose rise waits for the regulator
  tapHeld : Bool             -- R535: the TAP is in reset
  bflResetLow : Bool         -- R534: BFL_RESET_N is low, until boot step 3
  bflMode : Nat              -- R543: boot-flash interface: 0 1S-1S-1S at 25 MHz, 1 8D-8D-8D at 200 MHz, 2 1S-1S-8S at 100 MHz
deriving DecidableEq, Repr


/-! ### The whole machine -/

/-- Everything the manual gives the machine. -/
structure State where
  variant : Variant             -- R1
  now : Nat                     -- TM cycles (ns) since the model's start; CHRONO_TICK advances it (log entry 2)
  dict : Tbl Nat                -- R439: scalar entries and counters by key; the default of each is its own
  staged : Tbl (Option Nat)     -- R441: pending values of "next reset" entries
  octets : Tbl (List Byte)      -- R439: OCTETS, STRING and DOMAIN entries by key
  mem : List Host.Cell          -- all byte memories, in the numbering of memKey (R27)
  firsts : Tbl Nat              -- "first in a 1 s interval" marks: the interval of the last record, plus 1 (log entry 3)
  freeCtr : Nat                 -- the model's own count of free values taken (log entry 5)
  opStatus : Nat                -- OpStatus of the last table operation (R471)
  reply : List Byte             -- result bytes of the last table operation or service (R447, R419)
  abort : Nat                   -- abort code of the last refused or accepted dictionary access (R461)
  px : Px
  pc : Pc
  br : Bramble
  orch : Orchard
  lode : Lodestar
  chron : Chrono
  tm : Tm
  alm : Almanac
  trc : Trace
  uda : Uda
  disp : Disp
  oru : Oru
  cores : Cores
  rdv : Rdv
  bio : Barrel
  dram : Dram
  dma : Dma
  saf : Safety
  snd : Sounding
  bin : Binnacle
  boot : Boot
  pending : List Instr          -- the commands that wait, first in, first out
deriving DecidableEq, Repr

/-- Why the machine stops. No rule of the manual halts the whole device on a command, so only an access outside every
memory of the device faults: raised by `memKey`'s callers; safe, the machine stops where hardware has nothing to access. -/
inductive Fault where
  | noSuchMemory
deriving DecidableEq, Repr

/-- Why a command has no meaning. -/
inductive Refusal where
  /-- Raised by `exec` for a row of the opcode table not modelled yet; safe, nothing is claimed of it. -/
  | notModelled (mnemonic : String)
deriving DecidableEq, Repr

/-- The machine right after reset: VDD_AON just powered, the device reset released, boot not begun (R521, R525). The manual sells two
variants and gives 1000:04 no default (R1): that this state is a CH9820-A2S is the model's choice (DESIGN CHOICE, log entry 49). -/
def State.reset : State where
  variant := .a2s
  now := 0
  dict := []
  staged := []
  octets := []
  mem := []
  firsts := []
  freeCtr := 0
  opStatus := 0
  reply := []
  abort := 0
  px := ⟨[], [], [], [], false⟩
  pc := ⟨[], [], [], [], [], [], [], [], [], [], [], 64 * 10 ^ 9, 0, 0, 0, 0, []⟩
  br := ⟨Replica.zero, Replica.zero, []⟩
  orch := ⟨[], [], [], [], [], [], [], [], [], [], [], [], [], []⟩
  lode := ⟨[], [], 0⟩
  chron := ⟨[], none, none, false, none, none⟩
  tm := ⟨[], [], [], [], [], [], [], [], [], [], []⟩
  alm := ⟨[(24, [⟨0x1601, 1, 0⟩, ⟨0x1602, 2, 0⟩])], [], 1, none, 0, 0, [], [], true, false, 0, [], 0, 0, [], 0, [], false, false⟩
  trc := ⟨[], [], none, 0, 0, [], 0, [], 0, 0, [], 0⟩
  uda := ⟨64 * 10 ^ 9, 0, [], [], none, []⟩
  disp := ⟨[], [], [], 0, [], [], []⟩
  oru := ⟨[], [], [], [], [], [], []⟩
  cores := ⟨[], [], [], [], [], [], [], [], [], []⟩
  rdv := ⟨[], [], [], [], [], ⟨[], [], [], []⟩, ⟨[], [], [], []⟩, [], [], []⟩
  bio := ⟨[], [], [], [], [], [], [], [], [], false⟩
  dram := ⟨[], [], [], [], [], [], [], [], [], [], [], [], []⟩
  dma := ⟨[], [], none, [], 0, false, true⟩
  saf := ⟨[], false, none, 3, [], [], false, 0, false, none, false, []⟩
  snd := ⟨none, 0, 0, false, [], [], [], none, none, false, [], [], [], 0⟩
  bin := ⟨[], [], [], [], false, [], none, [], [], none, none, 0, [], none⟩
  boot := ⟨false, 0, 0, 0, [], none, false, false, 0, false, 0, 0, false, [], [], [], 0xFF, 0, false, false, [], true, true, 0⟩
  pending := []

end Sys2Proof.Machine
end

