-- ==== Sys2Proof/Machine/Ops.lean ====
section
/-! DEFINITION. The named operations every block shares: sparse tables and memories in their canonical form, dictionary
entries and counters (R439 to R441, R56), the first-in-an-interval marks, Almanac records ahead of their crossing (R476,
R478), free values and domain times. -/

namespace Sys2Proof.Machine

/-! ### Sparse tables -/

/-- The value at a key; an unlisted key holds the default. -/
def tget (d : α) : Tbl α → Nat → α
  | [], _ => d
  | (k, v) :: r, a => if a = k then v else tget d r a

/-- The table without a key. -/
def terase : Tbl α → Nat → Tbl α
  | [], _ => []
  | (k, v) :: r, a => if a = k then terase r a else (k, v) :: terase r a

/-- The table with a value entered at a key, ahead of the first greater key. -/
def tput : Tbl α → Nat → α → Tbl α
  | [], a, x => [(a, x)]
  | (k, v) :: r, a, x => if a < k then (a, x) :: (k, v) :: r else if a = k then (a, x) :: r else (k, v) :: tput r a x

/-- The table with one key's value replaced: the default is not listed, so a canonical table stays canonical. -/
def tset [DecidableEq α] (d : α) (t : Tbl α) (a : Nat) (x : α) : Tbl α := if x = d then terase t a else tput t a x

/-- The table with one key's value changed by a function. -/
def tmod [DecidableEq α] (d : α) (t : Tbl α) (a : Nat) (f : α → α) : Tbl α := tset d t a (f (tget d t a))

/-- A table with every listed value changed by a function that keeps the default. -/
def tmap [DecidableEq α] (d : α) (f : Nat → α → α) (t : Tbl α) : Tbl α :=
  t.foldr (fun kv r => tset d r kv.1 (f kv.1 (tget d t kv.1))) []

/-- Canonical form from a lower bound on the keys: keys strictly rising, no entry equal to the default. -/
def twfFrom [DecidableEq α] (d : α) : Nat → Tbl α → Bool
  | _, [] => true
  | lo, (k, v) :: r => decide (lo ≤ k) && (decide (v ≠ d) && twfFrom d (k + 1) r)

/-- The canonical form of a table: keys strictly rising, no entry equal to the default. -/
def twf [DecidableEq α] (d : α) (t : Tbl α) : Bool := twfFrom d 0 t

/-! ### Memories -/

/-- What a byte no one has written reads as (log entry 4). -/
def unwritten : Byte := 0#8

/-- The canonical form of memory. -/
def Memory.wf (m : List Host.Cell) : Bool := twf unwritten m

/-- The memories of the device, in one numbering. R27, R302, R303, R376. -/
inductive Space where
  | cell | dram | coreData | shared | code | pilot | barrelData | barrelCode | atomic | flash
deriving DecidableEq, Repr

/-- The key of byte `off` of a memory: each memory has its own range of 2^48 keys. Core data RAM c at 65,536c, shared RAM n
at 262,144n, code RAM bank b of cluster n at 131,072(2n + b), barrel RAM and code p at 32,768p and 65,536p, cell h at 256h,
atomic word w at 8w. -/
def memKey (sp : Space) (off : Nat) : Nat :=
  (match sp with
    | .cell => 0 | .dram => 1 | .coreData => 2 | .shared => 3 | .code => 4 | .pilot => 5
    | .barrelData => 6 | .barrelCode => 7 | .atomic => 8 | .flash => 9) * 2 ^ 48 + off

/-- One byte of memory. -/
def mget (m : List Host.Cell) (a : Nat) : Byte := tget unwritten m a

/-- `n` bytes of memory from a key upward. -/
def mread (m : List Host.Cell) (a : Nat) : Nat → List Byte
  | 0 => []
  | n + 1 => mget m a :: mread m (a + 1) n

/-- Memory with bytes written from a key upward. -/
def mwrite (m : List Host.Cell) (a : Nat) : List Byte → List Host.Cell
  | [] => m
  | b :: bs => mwrite (tset unwritten m a b) (a + 1) bs

def State.loadBytes (s : State) (sp : Space) (off n : Nat) : List Byte := mread s.mem (memKey sp off) n
def State.storeBytes (s : State) (sp : Space) (off : Nat) (bs : List Byte) : State :=
  { s with mem := mwrite s.mem (memKey sp off) bs }

/-! ### Dictionary entries and counters -/

/-- Whether a row describes a key. -/
def EntryRow.has (r : EntryRow) (key : Nat) : Bool :=
  let idx := key / 256
  let sub := key % 256
  decide (r.base ≤ idx) && decide ((idx - r.base) % r.stride = 0) && decide ((idx - r.base) / r.stride < r.count)
    && decide (r.sub ≤ sub) && decide (sub < r.sub + r.n)

/-- The default of a key of a row. -/
def EntryRow.dflt (r : EntryRow) (key : Nat) : Nat :=
  let i := (key / 256 - r.base) / r.stride * r.n + (key % 256 - r.sub)
  r.dflts.getD i (r.dflts.getLastD 0)

/-- The row of a key. -/
def findEntry (key : Nat) : Option EntryRow := entryRows.find? (fun r => r.has key)

/-- What an entry holds when nothing has written it since reset. R441. -/
def entryDefault (key : Nat) : Nat :=
  match findEntry key with
  | some r => r.dflt key
  | none => 0

/-- The value in force of an entry or counter. -/
def State.rd (s : State) (k : Nat) : Nat := tget (entryDefault k) s.dict k

/-- A signed entry's value. -/
def State.rdInt (s : State) (w k : Nat) : Int := toSigned w (s.rd k)

/-- An entry's value as a flag. -/
def State.on (s : State) (k : Nat) : Bool := s.rd k ≠ 0

/-- The machine with an entry's value replaced. -/
def State.wr (s : State) (k v : Nat) : State := { s with dict := tset (entryDefault k) s.dict k v }

/-- The bytes of an OCTETS, STRING or DOMAIN entry; none while nothing has written it. -/
def State.octetsOf (s : State) (k : Nat) : List Byte := tget [] s.octets k

/-- The machine with such an entry's bytes replaced. -/
def State.setOctets (s : State) (k : Nat) (b : List Byte) : State := { s with octets := tset [] s.octets k b }

/-- A counter raised: 64 bits, wrapping at 2^64, never cleared by reading. R56. -/
def State.bump (s : State) (k : Nat) (n : Nat := 1) : State := s.wr k ((s.rd k + n) % 2 ^ 64)

/-- A gauge or status entry lowered, not below zero. -/
def State.drop (s : State) (k : Nat) (n : Nat := 1) : State := s.wr k (s.rd k - n)

/-- The pending value of a "next reset" entry, or the value in force. R441. -/
def State.stagedValue (s : State) (k : Nat) : Nat := (tget none s.staged k).getD (s.rd k)

/-- The device is in safe state. R505. -/
def State.safeState (s : State) : Bool := decide (bit (s.rd K.safFaultStatus) 1 = 1)

/-! ### Marks and records -/

/-- The 1 s interval the machine is in (log entry 3). -/
def State.second (s : State) : Nat := s.now / 10 ^ 9

/-- Whether an event is the first of its kind in the current 1 s interval. -/
def State.isFirst (s : State) (code sub : Nat) : Bool := tget 0 s.firsts (code * 2 ^ 32 + sub) ≠ s.second + 1

/-- The detail bytes of a record: items of 1, 2, 4 or 8 bytes packed upward, little-endian. R476. -/
def packDetail : List (Nat × Nat) → Nat
  | [] => 0
  | (n, v) :: r => v % 2 ^ (8 * n) + 2 ^ (8 * n) * packDetail r

/-- A record put into its producing block's buffer, or dropped when that holds 8. The first drop of an origin in a 1 s
interval raises code 0x1606 from the recorder's own island, AON. R478. -/
def State.almanac (s : State) (origin code severity : Nat) (detail : List (Nat × Nat) := []) : State :=
  let q := tget [] s.alm.raised origin
  if q.length < 8 then
    { s with alm := { s.alm with raised := tset [] s.alm.raised origin (q ++ [⟨code, severity, packDetail detail⟩]) } }
  else
    let s1 := s.bump (K.ctrAlmSourceDrops origin)
    if s.isFirst 0x1606 origin then
      let q24 := tget [] s1.alm.raised 24
      let s2 := { s1 with firsts := tset 0 s1.firsts (0x1606 * 2 ^ 32 + origin) (s1.second + 1) }
      if q24.length < 8 then
        { s2 with alm := { s2.alm with raised := tset [] s2.alm.raised 24 (q24 ++ [⟨0x1606, 3, packDetail [(1, origin)]⟩]) } }
      else s2.bump (K.ctrAlmSourceDrops 24)
    else s1

/-- A record written only for the first event of its kind and subject in each 1 s interval. -/
def State.almanacFirst (s : State) (origin code severity sub : Nat) (detail : List (Nat × Nat) := []) : State :=
  if s.isFirst code sub then
    ({ s with firsts := tset 0 s.firsts (code * 2 ^ 32 + sub) (s.second + 1) } : State).almanac origin code severity detail
  else s

/-- A fault report to the Safety Manager crosses to AON. R504. -/
def State.reportFault (s : State) (source unit : Nat) : State :=
  { s with saf := { s.saf with reports := s.saf.reports ++ [(source, unit)] } }

/-- Correctable ECC errors: counted under a key, and each reported to the Safety Manager. R504. -/
def State.corrected (s : State) (key n : Nat) : State :=
  let s := s.bump key n
  { s with saf := { s.saf with reports := s.saf.reports ++ List.replicate n (0, 0) } }

/-! ### Free values -/

/-- The machine after one free value has been taken. Log entry 5. -/
def State.tick (s : State) : State := { s with freeCtr := s.freeCtr + 1 }

/-- The free value taken next, below `n`. Log entry 5. -/
def State.free (s : State) (n : Nat) : Nat := Config.freeValue s.freeCtr % n

/-- The random value drawn next, of `n` bytes. -/
def State.randomBytes (s : State) (n : Nat) : List Byte := toLE n (Config.random s.freeCtr)

/-! ### Domain times -/

/-- A Chronometer domain. -/
def State.domain (s : State) (d : Nat) : TimeDomain := tget TimeDomain.zero s.chron.domains d

/-- A domain's time in 0.25 ns units. -/
def State.domainUnits (s : State) (d : Nat) : Nat := (s.domain d).units

/-- A domain's time in ns. R321. -/
def State.domainNs (s : State) (d : Nat) : Nat := (s.domain d).units / 4

/-- The result of a table or dictionary operation, for the requester. -/
def State.status (s : State) (v : Nat) : State := { s with opStatus := v }
def State.aborted (s : State) (v : Nat) : State := { s with abort := v }

/-! ### UDA abort codes -/

def Abort.ok : Nat := 0
def Abort.badVersion : Nat := 0x01000001
def Abort.badType : Nat := 0x01000002
def Abort.badLength : Nat := 0x01000003
def Abort.noSession : Nat := 0x02000001
def Abort.sessionLimit : Nat := 0x02000002
def Abort.openFailed : Nat := 0x02000003
def Abort.role : Nat := 0x02000004
def Abort.sequence : Nat := 0x02000005
def Abort.noObject : Nat := 0x03000001
def Abort.noSubindex : Nat := 0x03000002
def Abort.readOnly : Nat := 0x03000003
def Abort.writeOnly : Nat := 0x03000004
def Abort.typeMismatch : Nat := 0x03000005
def Abort.valueRange : Nat := 0x03000006
def Abort.reservedBits : Nat := 0x03000007
def Abort.busy : Nat := 0x03000008
def Abort.inconsistent : Nat := 0x04000001
def Abort.commitBusy : Nat := 0x04000002
def Abort.sequenceStale : Nat := 0x04000003
def Abort.imageRefused (ss : Nat) : Nat := 0x04000200 + ss
def Abort.flashError : Nat := 0x04000100
def Abort.security (ss : Nat) : Nat := 0x05000000 + ss
def Abort.hardware : Nat := 0x06000001

/-- OpStatus of an image that breaks a rule of its owning chapter. R471. -/
def opRefused : Nat := 0xFE

/-- A write of a persistent entry, which also counts StagedWrites. R458, R467. -/
def State.wrP (s : State) (k v : Nat) : State := (s.wr k v).bump K.cmtStagedWrites

/-- A flag chosen step: the second machine when the condition holds, else the first. -/
def State.when (s : State) (c : Bool) (f : State → State) : State := if c then f s else s

end Sys2Proof.Machine
end

