-- ==== Sys2Proof/Machine/Trace.lean ====
section
/-! DEFINITION. The Trace Unit (21_almanac_trace.md, R487 to R490): messages of the four sources, their FIFOs, blocks and M0
frames. The Almanac itself is in Almanac.lean, the counter stream in Entries.lean. -/

namespace Sys2Proof.Machine

/-- The sources' numbers in LOST messages. R489. -/
def srcInstr : Nat := 1
def srcJourney : Nat := 2
def srcCounter : Nat := 3
def srcMirror : Nat := 4

/-- Trace sources run: an output is selected (log entry 28) and the life cycle is neither BLANK nor SCRAPPED. R487, R490. -/
def State.traceOn (s : State) : Bool :=
  s.on K.trcTraceOutput && decide (s.rd K.binLifeCycle ≠ 0) && decide (s.rd K.binLifeCycle ≠ 5)

/-- The loss counter of a source. R493. -/
def lossKey (src : Nat) : Nat :=
  if src = 1 then K.ctrTrcInstrLost else if src = 2 then K.ctrTrcJourneyLost else if src = 3 then K.ctrTrcCounterLost
  else K.ctrTrcMirrorLost

/-- A message offered to its source's FIFO of 64; the newest is lost when it is full. R487, R494. -/
def State.traceMsg (s : State) (src kind source : Nat) (body : List Byte) : State :=
  if !s.traceOn then s
  else
    let q := tget [] s.trc.fifos src
    if q.length < 64 then { s with trc := { s.trc with fifos := tset [] s.trc.fifos src (q ++ [⟨kind, source, s.now, body⟩]) } }
    else
      let s := { s with trc := { s.trc with lost := tmod 0 s.trc.lost src (· + 1), lostBlock := s.trc.lostBlock + 1 } }
      (s.bump (lossKey src)).almanacFirst 24 0x1608 3 src [(2, src)]

/-- A thread is named in TraceThread0 to 7. R488. -/
def State.traced (s : State) (t : Nat) : Bool :=
  s.traceOn && decide (t < 512) && (List.range 8).any fun j => decide (s.rd (K.trcTraceThread j) = t)

/-- An instruction-trace message of a named thread, with the instructions retired since the one before where its kind has them. -/
def State.traceInstr (s : State) (t kind : Nat) (body : Nat → List Byte) : State :=
  if s.traced t then
    let x := tget Thread.zero s.cores.threads t
    let s := { s with cores := { s.cores with threads := tset Thread.zero s.cores.threads t { x with retired := 0 } } }
    s.traceMsg srcInstr kind t (body (x.retired % 65536))
  else s

/-- Causes of a FLOW message. R489. -/
def flBranch : Nat := 1
def flJump : Nat := 2
def flLoop : Nat := 3
def flException : Nat := 4
def flEret : Nat := 5

/-- A taken control transfer. R488, R489. -/
def State.traceFlow (s : State) (t fromPc toPc cause : Nat) : State :=
  s.traceInstr t 0x11 fun n => toLE 4 fromPc ++ toLE 4 toPc ++ toLE 2 n ++ toLE 1 cause ++ [0#8]

/-- The end of an item: EndKind 1 to 3, 4 WORKDONE, 5 reset. R489. -/
def State.traceEnd (s : State) (t kind code : Nat) : State :=
  s.traceInstr t 0x12 fun n => toLE 1 kind ++ toLE 1 code ++ toLE 2 n

/-- The start of a work item. R489. -/
def State.traceItem (s : State) (t kind level ticket domain entry : Nat) : State :=
  s.traceInstr t 0x10 fun _ => toLE 1 kind ++ toLE 1 level ++ toLE 2 ticket ++ toLE 2 domain ++ toLE 4 entry

/-- An instruction of a named thread retires. -/
def State.traceRetire (s : State) (t : Nat) : State :=
  if s.traced t then
    { s with cores := { s.cores with
      threads := tmod Thread.zero s.cores.threads t fun x => { x with retired := x.retired + 1 } } }
  else s

/-- Journey points. R488. -/
def jpIngress : Nat := 1
def jpGrant : Nat := 2
def jpEnd : Nat := 3
def jpRelease : Nat := 4
def jpEgress : Nat := 5
def jpDrop : Nat := 6
def jpReplay : Nat := 7

/-- A journey point of a packet; `thread` 0xFFFF: none. The timestamp is in 0.25 ns units. R488, R489. -/
def State.journey (s : State) (d : Desc) (point port thread ts : Nat) : State :=
  let k := d.flowClass.toNat
  if bit (s.rd (K.trcJourneyClassMask (k / 64))) (k % 64) = 1 ∧ d.ticket.toNat % s.rd K.trcJourneySample = 0 then
    s.traceMsg srcJourney 0x20 k (toLE 1 point ++ toLE 1 port ++ toLE 2 d.orderDomain.toNat ++ toLE 2 d.ticket.toNat
      ++ toLE 2 thread ++ toLE 8 ts)
  else s

/-- A journey point at the present domain-0 time and the packet's ingress port. -/
def State.journeyNow (s : State) (d : Desc) (point thread : Nat) : State :=
  s.journey d point d.ingressPort.toNat thread (4 * s.domainNs 0)

/-! ### Output (R488 to R490) -/

/-- A finished block of 56 message bytes. R490. -/
def traceBlock (seq lost first : Nat) (bs : List Byte) : List Byte :=
  let head := toLE 2 0xC35A ++ toLE 2 seq ++ toLE 1 (min lost 255) ++ toLE 1 first
  head ++ toLE 2 (crc16ccitt (head ++ bs)) ++ bs

/-- The M0 frame of the waiting blocks goes to the Traffic Manager of port 7. R490. -/
def State.m0Frame (s : State) : State :=
  let f := toBE 6 (s.rd K.trcTraceDestMac) ++ toBE 6 (s.rd K.trcTraceSrcMac) ++ toBE 2 0x88B5 ++ (s.trc.blocks.take 23).flatten
  let h : Handover := ⟨{ Desc.zero with frameLength := BitVec.ofNat 14 (f.length + 4) }, 0, some f, [(7, s.rd K.trcTraceClass, 0)],
    none⟩
  let left := s.trc.blocks.drop 23
  ({ s with trc := { s.trc with blocks := left, blockAt := s.now }, tm := { s.tm with inbox := s.tm.inbox ++ [h] } } :
    State).bump K.ctrTrcM0Frames

/-- The block being filled is sent. R490. -/
def State.closeBlock (s : State) (bs : List Byte) (first : Nat) : State :=
  let t := s.trc
  let out := s.rd K.trcTraceOutput
  let b := traceBlock t.blockSeq t.lostBlock first bs
  let m0 := decide (2 ≤ out)
  let t := { t with
    blockSeq := (t.blockSeq + 1) % 65536, lostBlock := 0, portBlocks := t.portBlocks + out % 2
    blockAt := if m0 && t.blocks.isEmpty then s.now else t.blockAt
    blocks := if m0 then t.blocks ++ [b] else t.blocks }
  let s := ({ s with trc := t } : State).bump K.ctrTrcBlocksSent
  if 23 ≤ t.blocks.length then s.m0Frame else s

/-- Bytes of one message laid into blocks; `begins`: its first byte is still to come. -/
def State.layBytes (s : State) (begins : Bool) : List Byte → State
  | [] => s
  | b :: r =>
    let t := s.trc
    let bytes := t.pendingBytes ++ [b]
    let first := if begins && decide (t.firstOffset = 0) then 8 + t.pendingBytes.length else t.firstOffset
    if bytes.length = 56 then
      (({ s with trc := { t with pendingBytes := [], firstOffset := 0 } } : State).closeBlock bytes first).layBytes false r
    else ({ s with trc := { t with pendingBytes := bytes, firstOffset := first } } : State).layBytes false r

/-- One message sent, a TIME message ahead of it when its TimeDelta would pass 32,768 ns or output starts. R489. -/
def State.sendMsg (s : State) (m : TraceMsg) : State :=
  let stale := match s.trc.lastTime with
    | none => true
    | some l => decide (l + 32768 < m.at_)
  let s := if stale then
      let t := toLE 1 0x01 ++ toLE 1 14 ++ toLE 2 0 ++ toLE 2 0 ++ toLE 8 (s.domainNs 0)
      ({ s with trc := { s.trc with lastTime := some s.now } } : State).layBytes true t
    else s
  let delta := m.at_ - s.trc.lastTime.getD 0
  s.layBytes true (toLE 1 m.kind ++ toLE 1 (6 + m.body.length) ++ toLE 2 m.source ++ toLE 2 delta ++ m.body)

/-- A source's LOST message, once it has lost any. R489. -/
def State.sendLost (s : State) (src : Nat) : State :=
  let n := tget 0 s.trc.lost src
  if n = 0 then s
  else ({ s with trc := { s.trc with lost := tset 0 s.trc.lost src 0 } } : State).sendMsg
    ⟨0x02, src, s.now, toLE 4 n ++ [0#8, 0#8]⟩

/-- The messages of one source sent. -/
def State.sendSource (s : State) (src : Nat) : State :=
  let q := tget [] s.trc.fifos src
  q.foldl (fun s m => s.sendMsg m) { s with trc := { s.trc with fifos := tset [] s.trc.fifos src [] } }

/-- Waiting messages leave in the order of R488: mirror, LOST, journey, counter, instruction. Output rates are left out. -/
def State.traceDrain (s : State) : State :=
  if !s.traceOn || (s.trc.fifos.isEmpty && s.trc.lost.isEmpty) then s
  else
    let s := s.sendSource srcMirror
    let s := [1, 2, 3, 4].foldl (fun s k => s.sendLost k) s
    [srcJourney, srcCounter, srcInstr].foldl (fun s k => s.sendSource k) s

/-! ### The commands -/

/-- TRACE_M0_FRAME_TIMEOUT: the blocks that wait leave in a frame 100 us after the first of them. R490. -/
def execTraceM0FrameTimeout (s : State) : Host.Outcome State Fault Refusal :=
  .next (if !s.trc.blocks.isEmpty ∧ s.trc.blockAt + 100000 ≤ s.now then s.m0Frame else s)

end Sys2Proof.Machine
end

