-- ==== Sys2Proof/Machine/Almanac.lean ====
section
/-! DEFINITION. The Almanac (21_almanac_trace.md, R475 to R486): intake, eviction, posts, and the flush controller with its
flash log. Almanac time is R478's. -/

namespace Sys2Proof.Machine

/-- The 30 bytes of a record that its Check covers, and the Check. R475. -/
def AlmRec.bytes (r : AlmRec) : List Byte :=
  if r.seq = 0 then List.replicate 32 0#8
  else
    let b := toLE 6 r.seq ++ toLE 8 r.time ++ toLE 2 r.code ++ toLE 1 (r.severity + 8 * b2n r.timeSource) ++ toLE 1 r.origin
      ++ toLE 12 r.detail
    b ++ toLE 2 (crc16ccitt b)

/-- The reading of the Almanac's clock and TimeSource: domain 0 interpolated from its last value, or the AON uptime; ns to a
resolution of 10 ns. R478. -/
def State.almTime (s : State) : Nat × Bool :=
  match s.alm.aonTime with
  | some t => ((t + (s.now - s.alm.aonTimeAt)) / 10 * 10, false)
  | none => ((s.now - s.alm.onAt) / 10 * 10, true)

/-- The lowest-numbered free slot from slot `n` up, of slots in rising order. -/
def firstFree : Tbl AlmRec → Nat → Nat
  | [], n => n
  | (k, _) :: r, n => if k = n then firstFree r (n + 1) else n

/-- The older of two held records. -/
def olderSlot (a b : Nat × AlmRec) : Nat × AlmRec := if b.2.seq < a.2.seq then b else a

/-- The oldest of a list of held records. -/
def oldest : List (Nat × AlmRec) → Option (Nat × AlmRec)
  | [] => none
  | x :: r => some (r.foldl olderSlot x)

/-- The victim of R481. -/
def State.almVictim (s : State) : Option (Nat × AlmRec) :=
  let sev := s.alm.slots.foldl (fun m x => min m x.2.severity) 7
  let low := s.alm.slots.filter fun x => x.2.severity = sev
  match oldest (low.filter fun x => x.2.flushed) with
  | some v => some v
  | none => oldest low

/-- HeldRecords follows the slots in use. -/
def State.almHeld (s : State) : State := s.wr K.almHeldRecords s.alm.slots.length

/-- Errors of the Almanac SRAM: correctable ones are corrected and counted; a slot with an uncorrectable one becomes free. R480. -/
def State.almEcc (s : State) : State :=
  let s := ({ s with alm := { s.alm with fixSlots := [] } } : State).corrected K.ctrAlmSramEccCorrected s.alm.fixSlots.length
  s.alm.badSlots.foldl (fun s k =>
    if tget AlmRec.zero s.alm.slots k = AlmRec.zero then s
    else
      ((({ s with alm := { s.alm with slots := tset AlmRec.zero s.alm.slots k AlmRec.zero } } : State).bump
        K.ctrAlmSramEccLost).almanac 24 0x1609 4 [(2, k)]).almHeld)
    { s with alm := { s.alm with badSlots := [] } }

/-! ### The flush controller -/

/-- Erased sectors kept ahead of the write position. R484. -/
def State.flushReserve (s : State) : Nat := cdiv (s.rd K.almPowerFailRecords) 128 + 1

/-- Records in Sequence order. -/
def bySeq (l : List AlmRec) : List AlmRec := sortBy (fun a b => decide (a.seq ≤ b.seq)) l

/-- Unflushed records of severity at least `sev`, and the power-on record while it is still to be written. R484, R485. -/
def State.flushable (s : State) (sev : Nat) : List AlmRec :=
  bySeq ((s.alm.slots.map Prod.snd).filter fun r =>
    !r.flushed && (decide (sev ≤ r.severity) || (s.alm.first1601 && decide (r.seq = 1))))

/-- The order of an urgent flush: the power-on record first, then highest severity first, then Sequence. R484, R485. -/
def State.urgentOrder (s : State) : List AlmRec :=
  sortBy (fun a b =>
    (s.alm.first1601 && decide (a.seq = 1)) || (!(s.alm.first1601 && decide (b.seq = 1))
      && (decide (b.severity < a.severity) || (decide (a.severity = b.severity) && decide (a.seq ≤ b.seq)))))
    (s.flushable (s.rd K.almPowerFailMinSeverity))

/-- A page to write: room in the sector being written, or the next reserve sector; none when the reserve has run out. -/
def State.takePage (s : State) : Option State :=
  if 0 < s.alm.room then some s
  else match s.alm.reserve with
    | [] => none
    | x :: r => some { s with alm := { s.alm with reserve := r, headPage := 16 * x, room := 16 } }

/-- The flush controller begins its next page, when it is ready, idle and has one to write; `partial_`: FlushDelay has passed.
R484, R485. -/
def State.startPage (s : State) (partial_ : Bool := false) : State :=
  let st := s.rd K.almFlashState
  if st < 2 ∨ !s.alm.page.isEmpty then s
  else if s.alm.urgent then
    let l := (s.urgentOrder).take s.alm.urgentLeft
    if l.isEmpty then s
    else match s.takePage with
      | some s => { s with alm := { s.alm with page := l.take 8, urgentLeft := s.alm.urgentLeft - (l.take 8).length } }
      | none => (({ s with alm := { s.alm with urgentLeft := 0 } } : State).bump K.ctrAlmFlushIncomplete).almanac 24 0x1604 4
          [(2, l.length)]
  else
    let l := s.flushable (s.rd K.almBackgroundSeverity)
    if 8 ≤ l.length ∨ (partial_ ∧ !l.isEmpty) then
      match s.takePage with
      | some s => { s with alm := { s.alm with page := l.take 8 } }
      | none => s
    else s

/-- An urgent flush starts, or a trigger merges into the one under way. Before the configuration has been applied no flush takes
place; during the head search it waits for its end. R483, R485, R486. -/
def State.urgentFlush (s : State) : State :=
  if s.alm.urgent ∨ s.rd K.almFlashState = 0 then s
  else
    let s := ({ s with alm := { s.alm with urgent := true, urgentLeft := s.rd K.almPowerFailRecords } } : State).bump
      K.ctrAlmUrgentFlushes
    if s.rd K.almFlashState = 2 then (s.wr K.almFlashState 3).startPage else s

/-- The urgent flush has nothing more to write: the limit or the last eligible record reached, or the reserve run out. R485. -/
def State.urgentOver (s : State) : Bool :=
  s.alm.urgent && s.alm.page.isEmpty && (decide (s.alm.urgentLeft = 0) || (s.urgentOrder).isEmpty)
    && decide (s.rd K.almFlashState = 3)

/-! ### Intake -/

/-- A record sampled in AON: Sequence, mirror, slot, eviction or discard, urgent trigger. R478, R481, R485, R488. -/
def State.intake (s : State) (origin : Nat) (r : Raised) : State :=
  let s := s.almEcc
  let (t, src) := s.almTime
  let x : AlmRec := ⟨s.alm.nextSeq, t, r.code, r.severity, src, origin, r.detail, false, s.now⟩
  let s := ({ s with alm := { s.alm with nextSeq := s.alm.nextSeq + 1 } } : State).wr K.almHeadSeq x.seq
  let s := s.bump K.ctrAlmRecords
  let s := s.when (decide (s.rd K.trcMirrorSeverity ≤ r.severity)) (·.traceMsg srcMirror 0x40 origin x.bytes)
  let n := firstFree s.alm.slots 0
  let put := fun (s : State) k => ({ s with alm := { s.alm with slots := tset AlmRec.zero s.alm.slots k x } } : State)
  let s :=
    if n < 8192 then put s n
    else match s.almVictim with
      | none => s
      | some (k, v) =>
        if v.severity ≤ r.severity then
          ((put s k).bump K.ctrAlmEvictions).wr K.almEvictions ((s.rd K.almEvictions + 1) % 2 ^ 64)
        else s.bump K.ctrAlmDiscardedLow
  let s := s.almHeld
  let s := s.when (decide (s.rd K.almUrgentSeverity ≤ r.severity)) (·.urgentFlush)
  s.startPage

/-- The origin sampled: the record of the power-on, of AON, is Sequence 1. R478. -/
def State.sampledOrigin (s : State) (origin : Nat) : Nat := if s.alm.nextSeq = 1 then 24 else origin

/-- ALMANAC_RECORD_INTAKE: AON samples the oldest record of an origin. R478, R481. -/
def execAlmanacRecordIntake (origin : Fin 26) (s : State) : Host.Outcome State Fault Refusal :=
  let o := s.sampledOrigin origin.val
  match tget [] s.alm.raised o with
  | [] => .next s
  | r :: q => .next (({ s with alm := { s.alm with raised := tset [] s.alm.raised o q } } : State).intake o r)

/-- The sources a host or firmware may post, and those of Ewehan Pilot firmware. R477, R479. -/
def postRefused (pilot : Bool) (code severity reserved : Nat) : Bool :=
  let src := code / 256
  let app := decide (0x30 ≤ src) && decide (src ≤ 0x3F)
  decide (code % 256 = 0) || decide (reserved ≠ 0)
    || (if pilot then !(app || decide (src = 0x20) || decide (src = 0x21)) else !app || decide (5 < severity))

/-- A post through domain 70D1, with its OpStatus. R479. -/
def State.almPost (s : State) (image : List Byte) (pilot : Bool) : State :=
  let x := ofLE (image.take 32)
  let code := bits x 127 112
  let sev := bits x 130 128
  if image.length ≠ 32 ∨ postRefused pilot code sev (bits x 135 132) then s.status opRefused
  else
    let q := tget [] s.alm.raised 25
    if q.length < 8 then
      ({ s with alm := { s.alm with raised := tset [] s.alm.raised 25 (q ++ [⟨code, sev, bits x 239 144⟩]) } } : State).status 0
    else (s.almanac 25 code sev).status 0

/-- ALMANAC_POST: a WRITE to the post domain. R479. -/
def execAlmanacPost (image : BitVec 256) (pilot : Bool) (s : State) : Host.Outcome State Fault Refusal :=
  .next (s.almPost (toLE 32 image.toNat) pilot)

/-- Clear. R481. -/
def State.almClear (s : State) : State :=
  let n := s.alm.slots.length
  let s := s.wr K.almEvictions ((s.rd K.almEvictions + n) % 2 ^ 64)
  ((((({ s with alm := { s.alm with slots := [] } } : State).bump K.ctrAlmEvictions n).bump K.ctrAlmClears).almHeld).almanac 24
    0x1607 2 [(2, n)])

/-- ALMANAC_CLEAR: a write of Clear (5800:0E). R481. -/
def execAlmanacClear (s : State) : Host.Outcome State Fault Refusal := .next s.almClear

/-- FLUSH_DELAY_TIMER: FlushDelay has passed since the oldest waiting record arrived. R484. -/
def execFlushDelayTimer (s : State) : Host.Outcome State Fault Refusal :=
  .next (match s.flushable (s.rd K.almBackgroundSeverity) with
    | [] => s
    | r :: _ => if r.at_ + s.rd K.almFlushDelay * 10 ^ 6 ≤ s.now then s.startPage true else s)

/-- The records of a page are marked flushed in the slots that still hold them. R484. -/
def State.markFlushed (s : State) (page : List AlmRec) : State :=
  { s with alm := { s.alm with slots := tmap AlmRec.zero (fun _ x =>
      if page.any (fun r => r.seq = x.seq) then { x with flushed := true } else x) s.alm.slots } }

/-- FLUSH_PAGE_DONE: the page program ends, with the status read. R484. -/
def execFlushPageDone (failed : Bool) (status : BitVec 8) (s : State) : Host.Outcome State Fault Refusal :=
  .next (if s.alm.page.isEmpty then s
    else
      let page := s.alm.page
      let k := s.alm.headPage
      let s1 : State := { s with alm := { s.alm with page := [], headPage := k + 1, room := s.alm.room - 1 } }
      if failed then
        ((s1.bump K.ctrAlmFlashErrors).almanac 24 0x1605 4 [(4, k), (1, status.toNat)]).startPage
      else
        let s2 := (s1.markFlushed page).bump K.ctrAlmFlushed page.length
        let s3 : State := { s2 with alm := { s2.alm with
          log := tset [] s2.alm.log k page
          first1601 := s2.alm.first1601 && !page.any (fun r => r.seq = 1) } }
        (s3.bump K.ctrAlmFlushPages).startPage)

/-- A sector of the log is erased. -/
def State.eraseSector (s : State) (x : Nat) : State :=
  { s with alm := { s.alm with log := s.alm.log.filter fun p => p.1 / 16 ≠ x } }

/-- FLASH_ERASE_DONE: the erase of the oldest log sector ends; a sector whose erase failed is passed over. An urgent flush
suspends it. R484, R485. -/
def execFlashEraseDone (failed : Bool) (status : BitVec 8) (s : State) : Host.Outcome State Fault Refusal :=
  .next (if s.rd K.almFlashState ≠ 2 ∨ s.flushReserve ≤ s.alm.reserve.length then s
    else
      let x := s.alm.eraseAt
      let s1 : State := { s with alm := { s.alm with eraseAt := (x + 1) % s.rd K.almFlashSectors } }
      if failed then (s1.bump K.ctrAlmFlashErrors).almanac 24 0x1605 4 [(4, 16 * x), (1, status.toNat)]
      else
        let s2 := s1.eraseSector x
        ({ s2 with alm := { s2.alm with reserve := s2.alm.reserve ++ [x] } } : State).startPage)

/-- The first record of a sector is erased. -/
def State.sectorErased (s : State) (x : Nat) : Bool := (tget [] s.alm.log (16 * x)).isEmpty

/-- FLASH_HEAD_SEARCH_DONE: the first sector of the erased run is written next, and the reserve sectors are erased again. An
urgent trigger that came meanwhile proceeds. R486. -/
def execFlashHeadSearchDone (s : State) : Host.Outcome State Fault Refusal :=
  .next (if s.rd K.almFlashState ≠ 1 then s
    else
      let n := s.rd K.almFlashSectors
      let starts := (List.range n).filter fun x => s.sectorErased x && !s.sectorErased ((x + n - 1) % n)
      let h := starts.headD 0
      let res := (List.range s.flushReserve).map fun i => (h + i) % n
      let s1 := res.foldl (fun s x => s.eraseSector x) s
      let s2 : State := { s1 with alm := { s1.alm with
        reserve := res, room := 0, headPage := 16 * h, eraseAt := (h + s.flushReserve) % n, headFound := true } }
      (s2.wr K.almFlashState (if s2.alm.urgent then 3 else 2)).startPage)

/-! ### Almanac time -/

/-- AON_TIME_UPDATE: the Chronometer's value of domain 0 arrives. R478. -/
def execAonTimeUpdate (s : State) : Host.Outcome State Fault Refusal :=
  .next { s with alm := { s.alm with aonTime := some (s.domainNs 0), aonTimeAt := s.now } }

/-- AON_TIME_TIMEOUT: no value for 10 us. R478. -/
def execAonTimeTimeout (s : State) : Host.Outcome State Fault Refusal :=
  .next (if s.alm.aonTimeAt + 10000 ≤ s.now then { s with alm := { s.alm with aonTime := none } } else s)

end Sys2Proof.Machine
end

