-- ==== Sys2Proof/Machine/Encoding.lean ====
section
/-! DEFINITION. The instruction words of the Wenkin map (10_wenkin_encoding.md, R231 to R250): which words are assigned, and the cause
of the ILLEGAL_INSTRUCTION that every other raises (R219, R227); and the word of each instruction. A reserved minor is reported before a
nonzero reserved field of the same word, and a reserved field before an instruction that a Wenkin-P core refuses (log entry 47). -/

namespace Sys2Proof.Machine

/-! ### Causes of ILLEGAL_INSTRUCTION (R219) -/

def illMajor : Nat := 0
def illMinor : Nat := 1
def illField : Nat := 2
def illPilot : Nat := 3
def illThird : Nat := 4
def illEret : Nat := 5
def illLoop : Nat := 6

/-! ### Registers of the helpers and of the barrel units that are assigned (R248, R253, R356) -/

/-- Whether a cluster helper's register is assigned, and then whether MTC may name it. R253. -/
def helperReg (n x : Nat) : Option Bool :=
  if x = 0x3F then (if n < 4 then some false else none)
  else if n = 0 then
    if x ≤ 9 ∨ (0x10 ≤ x ∧ x ≤ 0x13) then some true else if 0x20 ≤ x ∧ x ≤ 0x2F then some false else none
  else if n = 1 then
    if x = 0 ∨ (2 ≤ x ∧ x ≤ 0x0B) then some true else if x = 0x20 ∨ x = 0x21 then some false else none
  else if n = 2 then
    if x ≤ 0x11 then some true else if 0x20 ≤ x ∧ x ≤ 0x22 then some false else none
  else if n = 3 then
    if x = 0 ∨ x = 2 ∨ x = 3 then some true else if x = 0x20 ∨ x = 0x21 then some false else none
  else none

/-- A barrel unit's registers, and whether MTC may name them. R361, R364, R369. -/
def copReg (n x : Nat) : Option Bool :=
  if 3 ≤ n then none
  else if x = 0x3F then some false
  else if n = 0 then (if x ≤ 3 then some true else if x = 0x20 ∨ x = 0x21 then some false else none)
  else if n = 1 then (if x ≤ 3 then some true else if 0x20 ≤ x ∧ x ≤ 0x23 then some false else none)
  else (if x ≤ 6 then some true else if x = 0x20 then some false else none)

/-- The registers a thread's COP major reaches; a Wenkin-P core of the Pilot Complex has no unit. R248, R356. -/
def unitReg (t n x : Nat) : Option Bool :=
  if t < 512 then helperReg n x else if t < 576 then copReg n x else none

/-! ### The functions of HOP (R262, R265, R266, R268, R361, R365, R369) -/

/-- The functions assigned to a cluster helper. -/
def helperFns (n : Nat) : List Nat :=
  match n with
  | 0 => [0x01, 0x02, 0x03, 0x10, 0x11, 0x12, 0x13, 0x14]
  | 1 => [0x01, 0x02, 0x03, 0x04, 0x05, 0x06, 0x07, 0x10, 0x11]
  | 2 => [0x01, 0x02, 0x03, 0x04]
  | 3 => [0x01]
  | _ => []

/-- The functions assigned to a barrel unit. -/
def copFns (n : Nat) : List Nat :=
  match n with
  | 0 => [0x01, 0x02, 0x03, 0x04, 0x05, 0x10]
  | 1 => [0x01, 0x02, 0x03, 0x04, 0x05]
  | 2 => [0x01]
  | _ => []

/-- The functions of a thread's unit; a Wenkin-P core of the Pilot Complex has none. -/
def unitFns (t n : Nat) : List Nat := if t < 512 then helperFns n else if t < 576 then copFns n else []

/-! ### Which words are assigned (R227, R232 to R250)

Each table answers the number that must be 0 for a word of the minor to be assigned: its fields that are reserved or that its row
leaves unused; none for a minor that is not listed. -/

/-- The ALU major: unary minors leave rb 0, CMP leaves rd 0, and only the rows of column "S" have an S bit. R235, R236. -/
def aluZero (rd rb s minor : Nat) : Option Nat :=
  if minor = 0 ∨ 0x1D < minor then none
  else if minor = 0x06 then some (rd + s)
  else if minor = 0x05 ∨ minor = 0x0B then some rb
  else if 0x17 ≤ minor then some (rb + s)
  else if 0x11 ≤ minor then some s
  else some 0

/-- The MULDIV major: a divide names an even rd. R235, R237. -/
def mulDivZero (rd s minor : Nat) : Option Nat :=
  if minor = 0 ∨ 5 < minor then none else if minor = 1 then some 0 else if minor < 4 then some s else some (s + rd % 2)

/-- The DEC major, whose rows write their flags always: S is 0. R235, R239. -/
def decZero (rb s minor : Nat) : Option Nat :=
  if minor = 0 ∨ 7 < minor then none else if minor < 4 then some s else some (rb + s)

/-- The BITR major. R241. -/
def bitrZero (s minor : Nat) : Option Nat := if minor = 1 ∨ minor = 2 then some s else none

/-- The WORK major: fields rs, ra, rb, n and p. R246. -/
def workZero (rs ra rb n p minor : Nat) : Option Nat :=
  match minor with
  | 1 => some (rs + ra + rb + n + p)
  | 2 => some (ra + (n - 4))
  | 3 => some (rb + n)
  | 4 => some (rs + rb + n)
  | _ => none

/-- The RDV major: n is in use in CHSEND alone, whose words end at w31. R247. -/
def rdvZero (rs rb n minor : Nat) : Option Nat :=
  match minor with
  | 0x01 | 0x05 | 0x0B | 0x10 => some (rs + n)       -- LOCK, SEMWAIT, EVWAIT, AFADD
  | 0x06 | 0x12 => some (rb + n)                     -- SEMSIG, ASWP
  | 0x07 => some (rs + n - 31)                       -- CHSEND
  | 0x08 | 0x11 => some n                            -- CHRECV, ACAS
  | 0x02 | 0x03 | 0x04 | 0x09 | 0x0A | 0x0C | 0x0D => some (rs + rb + n)
  | _ => none

/-- The COP major: an unassigned x or fn is reported as the minor is. R248, R253, R255. -/
def copZero (t r n x fn minor : Nat) : Option Nat :=
  match minor with
  | 1 => (unitReg t n x).map fun _ => fn
  | 2 => if unitReg t n x = some true then some fn else none
  | 3 => if x = 0 ∧ fn ∈ unitFns t n then some r else none
  | _ => none

/-- A special register that MFS may name, and then whether MTS may. R203, R249. -/
def specialReg (n : Nat) : Option Bool :=
  if n = 0 ∨ n = 4 then some true else if n < 7 ∨ (8 ≤ n ∧ n < 16) then some false else none

/-- The SYS major: a field that a row does not name is 0. R203, R227, R249. -/
def sysZero (r1 r2 f7 minor : Nat) : Option Nat :=
  match minor with
  | 1 => some (f7 + if specialReg r2 = none then 1 else 0)
  | 2 => some (f7 + if specialReg r2 = some true then 0 else 1)
  | 3 | 6 => some (r1 + r2 + f7)
  | 4 => some (r1 + if f7 = 0 then 1 else 0)
  | 5 => some f7
  | _ => none

/-- What a word's fields must leave 0, by major; none where a minor is not assigned. R231 to R250. -/
def majorZero (t w : Nat) : Option Nat :=
  let a := bits w 25 21
  let b := bits w 20 16
  let c := bits w 15 11
  let s := bit w 10
  let minor := w % 64
  let i := w % 65536
  let n := bits w 10 8
  let p := bit w 6
  let also (k : Nat) (o : Option Nat) : Option Nat := o.map (k + ·)
  match w / 2 ^ 26 with
  | 0x01 => also (bits w 9 6) (aluZero a c s minor)
  | 0x02 => also (bits w 9 6) (mulDivZero a s minor)
  | 0x03 => also (bits w 9 6) (decZero c s minor)
  | 0x24 => also (bits w 9 6) (bitrZero s minor)
  | 0x0C => some b                                   -- LUI
  | 0x0D => some a                                   -- CMPI
  | 0x15 | 0x1B => some (a % 2)                      -- LD, SD
  | 0x22 | 0x23 => some a                            -- BSETF, BCLRF
  | 0x2E => some (bits w 21 16 + if bits w 25 22 = 15 then 1 else 0)
  | 0x30 => some (bits w 20 15)
  | 0x32 => some (a + if i = 0 then 1 else 0)        -- LOOP
  | 0x33 => some (if i = 0 then 1 else 0)            -- LOOPI
  | 0x38 | 0x39 | 0x3A => some a                     -- PKTFWD, PKTDROP, PKTMC
  | 0x3B => also (bit w 7) (workZero a b c n p minor)
  | 0x3C => also (bit w 7) (rdvZero a c n minor)
  | 0x3D => copZero t a (bits w 20 19) (bits w 18 13) (bits w 12 6) minor
  | 0x3E => also (bits w 15 13) (sysZero a b (bits w 12 6) minor)
  | 0x3F => some (bits w 25 16)
  | _ => some 0

/-- The majors of the map. R232. -/
def majors : List Nat :=
  [0x01, 0x02, 0x03, 0x04, 0x05, 0x06, 0x07, 0x08, 0x09, 0x0A, 0x0B, 0x0C, 0x0D, 0x10, 0x11, 0x12, 0x13, 0x14, 0x15,
   0x18, 0x19, 0x1A, 0x1B, 0x20, 0x21, 0x22, 0x23, 0x24, 0x25, 0x26, 0x28, 0x29, 0x2A, 0x2B, 0x2C, 0x2D, 0x2E,
   0x30, 0x31, 0x32, 0x33, 0x38, 0x39, 0x3A, 0x3B, 0x3C, 0x3D, 0x3E, 0x3F]

/-- Instructions of packet work: the ends, WORK and DMADB. R245, R246, R249. -/
def packetWork (w : Nat) : Bool :=
  (0x38 ≤ w / 2 ^ 26 && w / 2 ^ 26 ≤ 0x3B) || (w / 2 ^ 26 == 0x3E && w % 64 == 5)

/-- The cause of the ILLEGAL_INSTRUCTION a word raises on a thread whatever its state, or none: the major is not assigned, then the
minor (with it the x and fn of COP), then a field; an instruction of packet work on a Wenkin-P core. R13, R219, R227, R232 to R250. -/
def reservedCause (t w : Nat) : Option Nat :=
  if w / 2 ^ 26 ∉ majors then some illMajor
  else match majorZero t w with
    | none => some illMinor
    | some 0 => if packetWork w ∧ 512 ≤ t then some illPilot else none
    | some (_ + 1) => some illField

/-! ### The encoder -/

def wordR (major rd ra rb : Nat) (s : Bool) (minor : Nat) : Nat :=
  major * 2 ^ 26 + rd * 2 ^ 21 + ra * 2 ^ 16 + rb * 2 ^ 11 + b2n s * 2 ^ 10 + minor
def wordI (major rd ra : Nat) (imm : BitVec 16) : Nat := major * 2 ^ 26 + rd * 2 ^ 21 + ra * 2 ^ 16 + imm.toNat
def wordBB (major : Nat) (b off : BitVec 13) : Nat := major * 2 ^ 26 + b.toNat * 2 ^ 13 + off.toNat
def wordV (major rs ra rb n p minor : Nat) : Nat :=
  major * 2 ^ 26 + rs * 2 ^ 21 + ra * 2 ^ 16 + rb * 2 ^ 11 + n * 2 ^ 8 + p * 2 ^ 6 + minor
def wordC (r n x fn minor : Nat) : Nat := 0x3D * 2 ^ 26 + r * 2 ^ 21 + n * 2 ^ 19 + x * 2 ^ 13 + fn * 2 ^ 6 + minor
def wordS (r1 r2 f7 minor : Nat) : Nat := 0x3E * 2 ^ 26 + r1 * 2 ^ 21 + r2 * 2 ^ 16 + f7 * 2 ^ 6 + minor

/-- The word of a Wenkin instruction; none for a command that is no instruction of a core. -/
def wordOf : Instr → Option Nat
  | .add _ d a b f => some (wordR 1 d a b f 0x01) | .addc _ d a b f => some (wordR 1 d a b f 0x02)
  | .sub _ d a b f => some (wordR 1 d a b f 0x03) | .subb _ d a b f => some (wordR 1 d a b f 0x04)
  | .neg _ d a f => some (wordR 1 d a 0 f 0x05) | .cmp _ a b => some (wordR 1 0 a b false 0x06)
  | .and _ d a b f => some (wordR 1 d a b f 0x07) | .or _ d a b f => some (wordR 1 d a b f 0x08)
  | .xor _ d a b f => some (wordR 1 d a b f 0x09) | .andn _ d a b f => some (wordR 1 d a b f 0x0A)
  | .not _ d a f => some (wordR 1 d a 0 f 0x0B) | .shl _ d a b f => some (wordR 1 d a b f 0x0C)
  | .shr _ d a b f => some (wordR 1 d a b f 0x0D) | .asr _ d a b f => some (wordR 1 d a b f 0x0E)
  | .ror _ d a b f => some (wordR 1 d a b f 0x0F) | .rol _ d a b f => some (wordR 1 d a b f 0x10)
  | .min _ d a b => some (wordR 1 d a b false 0x11) | .max _ d a b => some (wordR 1 d a b false 0x12)
  | .minu _ d a b => some (wordR 1 d a b false 0x13) | .maxu _ d a b => some (wordR 1 d a b false 0x14)
  | .slt _ d a b => some (wordR 1 d a b false 0x15) | .sltu _ d a b => some (wordR 1 d a b false 0x16)
  | .clz _ d a => some (wordR 1 d a 0 false 0x17) | .popc _ d a => some (wordR 1 d a 0 false 0x18)
  | .bswap _ d a => some (wordR 1 d a 0 false 0x19) | .bswaph _ d a => some (wordR 1 d a 0 false 0x1A)
  | .sextb _ d a => some (wordR 1 d a 0 false 0x1B) | .sexth _ d a => some (wordR 1 d a 0 false 0x1C)
  | .zexth _ d a => some (wordR 1 d a 0 false 0x1D)
  | .mul _ d a b f => some (wordR 2 d a b f 1) | .mulh _ d a b => some (wordR 2 d a b false 2)
  | .mulhu _ d a b => some (wordR 2 d a b false 3)
  | .div _ d a b => some (wordR 2 d a b false 4) | .divu _ d a b => some (wordR 2 d a b false 5)
  | .dadd _ d a b => some (wordR 3 d a b false 1) | .daddc _ d a b => some (wordR 3 d a b false 2)
  | .dsub _ d a b => some (wordR 3 d a b false 3)
  | .bin2bcd _ d a => some (wordR 3 d a 0 false 4) | .bcd2bin _ d a => some (wordR 3 d a 0 false 5)
  | .digasc _ d a => some (wordR 3 d a 0 false 6) | .ascdig _ d a => some (wordR 3 d a 0 false 7)
  | .addi _ d a i => some (wordI 0x04 d a i) | .andi _ d a i => some (wordI 0x05 d a i)
  | .ori _ d a i => some (wordI 0x06 d a i) | .xori _ d a i => some (wordI 0x07 d a i)
  | .shli _ d a i => some (wordI 0x08 d a i) | .shri _ d a i => some (wordI 0x09 d a i)
  | .asri _ d a i => some (wordI 0x0A d a i) | .rori _ d a i => some (wordI 0x0B d a i)
  | .lui _ d i => some (wordI 0x0C d 0 i) | .cmpi _ a i => some (wordI 0x0D 0 a i)
  | .lb _ d a i => some (wordI 0x10 d a i) | .lbu _ d a i => some (wordI 0x11 d a i)
  | .lh _ d a i => some (wordI 0x12 d a i) | .lhu _ d a i => some (wordI 0x13 d a i)
  | .lw _ d a i => some (wordI 0x14 d a i) | .ld _ d a i => some (wordI 0x15 d a i)
  | .sb _ d a i => some (wordI 0x18 d a i) | .sh _ d a i => some (wordI 0x19 d a i)
  | .sw _ d a i => some (wordI 0x1A d a i) | .sd _ d a i => some (wordI 0x1B d a i)
  | .bext _ d m i => some (wordI 0x20 d m i) | .bins _ d m i => some (wordI 0x21 d m i)
  | .bsetf _ m i => some (wordI 0x22 0 m i) | .bclrf _ m i => some (wordI 0x23 0 m i)
  | .bextr _ d a b => some (wordR 0x24 d a b false 1) | .binsr _ d a b => some (wordR 0x24 d a b false 2)
  | .bbs _ b o => some (wordBB 0x25 b o) | .bbc _ b o => some (wordBB 0x26 b o)
  | .beq _ a b o => some (wordI 0x28 a b o) | .bne _ a b o => some (wordI 0x29 a b o)
  | .blt _ a b o => some (wordI 0x2A a b o) | .bge _ a b o => some (wordI 0x2B a b o)
  | .bltu _ a b o => some (wordI 0x2C a b o) | .bgeu _ a b o => some (wordI 0x2D a b o)
  | .bcc _ c o => some (0x2E * 2 ^ 26 + c.val * 2 ^ 22 + o.toNat)
  | .jal _ d x => some (0x30 * 2 ^ 26 + d.val * 2 ^ 21 + x.toNat)
  | .jalr _ d a i => some (wordI 0x31 d a i)
  | .loop _ a l => some (wordI 0x32 0 a l)
  | .loopi _ c l => some (0x33 * 2 ^ 26 + c.toNat * 2 ^ 16 + l.toNat)
  | .pktfwd _ a i => some (wordI 0x38 0 a i) | .pktdrop _ a i => some (wordI 0x39 0 a i) | .pktmc _ a i => some (wordI 0x3A 0 a i)
  | .workdone _ => some (wordV 0x3B 0 0 0 0 0 1)
  | .cpost _ s b n p => some (wordV 0x3B s 0 b n p 2)
  | .dins _ s a p => some (wordV 0x3B s a 0 0 p 3)
  | .dcan _ a p => some (wordV 0x3B 0 a 0 0 p 4)
  | .lock _ a b p => some (wordV 0x3C 0 a b 0 p 0x01) | .trylock _ a p => some (wordV 0x3C 0 a 0 0 p 0x02)
  | .unlock _ a p => some (wordV 0x3C 0 a 0 0 p 0x03) | .clrabnd _ a p => some (wordV 0x3C 0 a 0 0 p 0x04)
  | .semwait _ a b p => some (wordV 0x3C 0 a b 0 p 0x05) | .semsig _ a s p => some (wordV 0x3C s a 0 0 p 0x06)
  | .chsend _ a s b n p => some (wordV 0x3C s a b n p 0x07) | .chrecv _ a s b p => some (wordV 0x3C s a b 0 p 0x08)
  | .evset _ a p => some (wordV 0x3C 0 a 0 0 p 0x09) | .evclr _ a p => some (wordV 0x3C 0 a 0 0 p 0x0A)
  | .evwait _ a b p => some (wordV 0x3C 0 a b 0 p 0x0B) | .evsub _ a p => some (wordV 0x3C 0 a 0 0 p 0x0C)
  | .evunsub _ a p => some (wordV 0x3C 0 a 0 0 p 0x0D)
  | .afadd _ a b p => some (wordV 0x3C 0 a b 0 p 0x10) | .acas _ a b s p => some (wordV 0x3C s a b 0 p 0x11)
  | .aswp _ a s p => some (wordV 0x3C s a 0 0 p 0x12)
  | .mfc _ r n x => some (wordC r n x 0 1) | .mtc _ r n x => some (wordC r n x 0 2)
  | .gcmEnc _ => some (wordC 0 0 0 0x01 3) | .gcmDec _ => some (wordC 0 0 0 0x02 3) | .gmac _ => some (wordC 0 0 0 0x03 3)
  | .shake128 _ => some (wordC 0 0 0 0x10 3) | .shake256 _ => some (wordC 0 0 0 0x11 3)
  | .sha3_256 _ => some (wordC 0 0 0 0x12 3) | .sha3_512 _ => some (wordC 0 0 0 0x13 3) | .kmac256 _ => some (wordC 0 0 0 0x14 3)
  | .crc32 _ => some (wordC 0 1 0 0x01 3) | .crc32c _ => some (wordC 0 1 0 0x02 3) | .crc8 _ => some (wordC 0 1 0 0x03 3)
  | .crc16 _ => some (wordC 0 1 0 0x04 3) | .crc32F4ac _ => some (wordC 0 1 0 0x05 3) | .crc64 _ => some (wordC 0 1 0 0x06 3)
  | .crcprog _ => some (wordC 0 1 0 0x07 3) | .csum _ => some (wordC 0 1 0 0x10 3) | .csumupd _ => some (wordC 0 1 0 0x11 3)
  | .brFind _ => some (wordC 0 2 0 0x01 3) | .rtSearch _ => some (wordC 0 2 0 0x02 3) | .brInsert _ => some (wordC 0 2 0 0x03 3)
  | .brDelete _ => some (wordC 0 2 0 0x04 3) | .scan _ => some (wordC 0 3 0 0x01 3)
  | .set _ => some (wordC 0 0 0 0x01 3) | .get _ => some (wordC 0 0 0 0x02 3) | .edge _ => some (wordC 0 0 0 0x03 3)
  | .gset _ => some (wordC 0 0 0 0x04 3) | .now _ => some (wordC 0 0 0 0x05 3) | .kick _ => some (wordC 0 0 0 0x10 3)
  | .txpush _ => some (wordC 0 1 0 0x01 3) | .rxpop _ => some (wordC 0 1 0 0x02 3) | .ackarm _ => some (wordC 0 1 0 0x03 3)
  | .setstate _ => some (wordC 0 1 0 0x04 3) | .txabort _ => some (wordC 0 1 0 0x05 3) | .upsub _ => some (wordC 0 2 0 0x01 3)
  | .dntailWrite _ r => some (wordC r 2 6 0 2)
  | .mfs _ r n => some (wordS r n 0 1) | .mts _ r n => some (wordS r n 0 2) | .eret _ => some (wordS 0 0 0 3)
  | .wfe _ m r => some (wordS 0 r m.toNat 4) | .dmadb _ r q => some (wordS r q 0 5) | .lpclr _ => some (wordS 0 0 0 6)
  | .syscall _ i => some (0x3F * 2 ^ 26 + i.toNat)
  | _ => none

end Sys2Proof.Machine
end

