-- ==== Sys2Proof/Machine/Flags.lean ====
section
/-! DEFINITION. Results and flags of the Wenkin arithmetic (09_wenkin_programming_model.md, R221 to R225; R235 to R239). A function
answers the result and the status word after it; the caller decides by the S bit whether the status word is written. -/

namespace Sys2Proof.Machine

/-- A bit of a word replaced. -/
def putBit (w : BitVec 32) (i : Nat) (b : Bool) : BitVec 32 := if b then w ||| (1#32 <<< i) else w &&& ~~~(1#32 <<< i)

def flagZ (t : BitVec 32) : Bool := t.getLsbD 0
def flagN (t : BitVec 32) : Bool := t.getLsbD 1
def flagC (t : BitVec 32) : Bool := t.getLsbD 2
def flagOV (t : BitVec 32) : Bool := t.getLsbD 3

/-- Z and N of a result. R221. -/
def setZN (t : BitVec 32) (v : BitVec 32) : BitVec 32 := putBit (putBit t 0 (v == 0#32)) 1 v.msb
def setC (t : BitVec 32) (b : Bool) : BitVec 32 := putBit t 2 b
def setOV (t : BitVec 32) (b : Bool) : BitVec 32 := putBit t 3 b
def setDZ (t : BitVec 32) (b : Bool) : BitVec 32 := putBit t 4 b

/-- A signed value that a 32-bit word cannot hold. -/
def outOf32 (x : Int) : Bool := decide (x < -2 ^ 31) || decide (2 ^ 31 ≤ x)

/-- a + b + c: Z, N, C as carry out of bit 31, OV as signed overflow. R221. -/
def addRes (cin : Bool) (t a b : BitVec 32) : BitVec 32 × BitVec 32 :=
  let n := a.toNat + b.toNat + b2n cin
  let v := BitVec.ofNat 32 n
  (v, setOV (setC (setZN t v) (decide (2 ^ 32 ≤ n))) (outOf32 (a.toInt + b.toInt + b2n cin)))

/-- a - b - c: Z, N, C as borrow, OV as signed overflow. R221. -/
def subRes (cin : Bool) (t a b : BitVec 32) : BitVec 32 × BitVec 32 :=
  let v := a - b - BitVec.ofNat 32 (b2n cin)
  (v, setOV (setC (setZN t v) (decide (a.toNat < b.toNat + b2n cin))) (outOf32 (a.toInt - b.toInt - b2n cin)))

/-- A logical result: Z and N. R221. -/
def logicRes (t v : BitVec 32) : BitVec 32 × BitVec 32 := (v, setZN t v)

/-- Shift left by a whole unsigned amount. R224. -/
def shlRes (t a : BitVec 32) (s : Nat) : BitVec 32 × BitVec 32 :=
  let v := a <<< s
  (v, if s = 0 then setZN t v else setC (setZN t v) (decide (s ≤ 32) && a.getLsbD (32 - s)))

/-- Logical shift right. R224. -/
def shrRes (t a : BitVec 32) (s : Nat) : BitVec 32 × BitVec 32 :=
  let v := a >>> s
  (v, if s = 0 then setZN t v else setC (setZN t v) (a.getLsbD (s - 1)))

/-- Arithmetic shift right. R224. -/
def asrRes (t a : BitVec 32) (s : Nat) : BitVec 32 × BitVec 32 :=
  let v := a.sshiftRight s
  (v, if s = 0 then setZN t v else setC (setZN t v) (if 32 ≤ s then a.msb else a.getLsbD (s - 1)))

/-- Rotates, by s mod 32: C unchanged. R224. -/
def rorRes (t a : BitVec 32) (s : Nat) : BitVec 32 × BitVec 32 := logicRes t (a.rotateRight (s % 32))
def rolRes (t a : BitVec 32) (s : Nat) : BitVec 32 × BitVec 32 := logicRes t (a.rotateLeft (s % 32))

/-- MUL: the low word; Z, N, and OV when the signed product does not fit. R223. -/
def mulRes (t a b : BitVec 32) : BitVec 32 × BitVec 32 :=
  let v := a * b
  (v, setOV (setZN t v) (outOf32 (a.toInt * b.toInt)))

/-- The high words of the signed and unsigned products. R223. -/
def mulhRes (a b : BitVec 32) : BitVec 32 := BitVec.ofInt 32 ((a.toInt * b.toInt) / 2 ^ 32)
def mulhuRes (a b : BitVec 32) : BitVec 32 := BitVec.ofNat 32 (a.toNat * b.toNat / 2 ^ 32)

/-- Quotient, remainder and status of a divide. R222. -/
def divRes (signed : Bool) (t a b : BitVec 32) : BitVec 32 × BitVec 32 × BitVec 32 :=
  if b = 0#32 then
    let q := 0xFFFFFFFF#32
    (q, a, setDZ (setOV (setZN t q) false) true)
  else if signed then
    let q := BitVec.ofInt 32 (a.toInt.tdiv b.toInt)
    (q, BitVec.ofInt 32 (a.toInt.tmod b.toInt), setDZ (setOV (setZN t q) (outOf32 (a.toInt.tdiv b.toInt))) false)
  else
    let q := BitVec.ofNat 32 (a.toNat / b.toNat)
    (q, BitVec.ofNat 32 (a.toNat % b.toNat), setDZ (setOV (setZN t q) false) false)

/-- Leading zero bits of a word. R236. -/
def clz32 (a : BitVec 32) : Nat := if a = 0#32 then 32 else 31 - Nat.log2 a.toNat

/-- Bytes in reverse order; bytes exchanged within each halfword. R236. -/
def bswap32 (a : BitVec 32) : BitVec 32 := BitVec.ofNat 32 (ofBE (toLE 4 a.toNat))
def bswapH (a : BitVec 32) : BitVec 32 := ((a &&& 0x00FF00FF#32) <<< 8) ||| ((a >>> 8) &&& 0x00FF00FF#32)

/-! ### Decimal and packed-digit operations (R225) -/

/-- The value of the packed digits below position `n`, or none when one is not a digit. -/
def bcdVal : Nat → Nat → Option Nat
  | 0, _ => some 0
  | n + 1, x =>
    if 9 < x % 16 then none
    else match bcdVal n (x / 16) with
      | some v => some (x % 16 + 10 * v)
      | none => none

/-- The packed digits of a value. -/
def toBcd : Nat → Nat → Nat
  | 0, _ => 0
  | n + 1, x => x % 10 + 16 * toBcd n (x / 10)

/-- A decimal result: the word, OV, the carry where it is written, and whether an invalid digit was met. -/
structure DecRes where
  v : BitVec 32
  ov : Bool
  c : Option Bool
  invalid : Bool
deriving DecidableEq, Repr

def decInvalid (c : Option Bool) : DecRes := ⟨0#32, true, c, true⟩

/-- Z and OV always; C where it is written. R239. -/
def DecRes.tsw (r : DecRes) (t : BitVec 32) : BitVec 32 :=
  let u := setOV (putBit t 0 (r.v == 0#32)) r.ov
  match r.c with
  | some b => setC u b
  | none => u

def dadd (cin : Bool) (a b : BitVec 32) : DecRes :=
  match bcdVal 8 a.toNat, bcdVal 8 b.toNat with
  | some x, some y =>
    let n := x + y + b2n cin
    ⟨BitVec.ofNat 32 (toBcd 8 (n % 10 ^ 8)), false, some (decide (10 ^ 8 ≤ n)), false⟩
  | _, _ => decInvalid (some false)

def dsub (a b : BitVec 32) : DecRes :=
  match bcdVal 8 a.toNat, bcdVal 8 b.toNat with
  | some x, some y => ⟨BitVec.ofNat 32 (toBcd 8 ((x + 10 ^ 8 - y) % 10 ^ 8)), false, some (decide (x < y)), false⟩
  | _, _ => decInvalid (some false)

def bin2bcd (a : BitVec 32) : DecRes :=
  ⟨BitVec.ofNat 32 (toBcd 8 (a.toNat % 10 ^ 8)), decide (99999999 < a.toNat), some false, false⟩

def bcd2bin (a : BitVec 32) : DecRes :=
  match bcdVal 8 a.toNat with
  | some x => ⟨BitVec.ofNat 32 x, false, none, false⟩
  | none => decInvalid (some false)

/-- Digits 3 to 0 as ASCII, digit 3 in byte 0. Every digit of the operand must be valid. -/
def digasc (a : BitVec 32) : DecRes :=
  match bcdVal 8 a.toNat with
  | some _ =>
    let d (i : Nat) : Nat := 0x30 + bits a.toNat (4 * i + 3) (4 * i)
    ⟨BitVec.ofNat 32 (d 3 + 2 ^ 8 * d 2 + 2 ^ 16 * d 1 + 2 ^ 24 * d 0), false, none, false⟩
  | none => decInvalid (some false)

/-- Bytes 0 to 3, each an ASCII digit, as digits 3 to 0. C is unchanged also when a byte is not one. -/
def ascdig (a : BitVec 32) : DecRes :=
  let b (i : Nat) : Nat := bits a.toNat (8 * i + 7) (8 * i)
  if (List.range 4).all fun i => decide (0x30 ≤ b i) && decide (b i ≤ 0x39) then
    ⟨BitVec.ofNat 32 ((b 0 - 0x30) * 2 ^ 12 + (b 1 - 0x30) * 2 ^ 8 + (b 2 - 0x30) * 2 ^ 4 + (b 3 - 0x30)), false, none, false⟩
  else decInvalid none

/-- The BCC conditions on the status word; 0xF is reserved and never holds here. R242. -/
def condHolds (cond : Nat) (t : BitVec 32) : Bool :=
  let z := flagZ t
  let n := flagN t
  let c := flagC t
  let v := flagOV t
  match cond with
  | 0 => z
  | 1 => !z
  | 2 => c
  | 3 => !c
  | 4 => n
  | 5 => !n
  | 6 => v
  | 7 => !v
  | 8 => !c && !z
  | 9 => c || z
  | 10 => n == v
  | 11 => n != v
  | 12 => !z && n == v
  | 13 => z || n != v
  | 14 => true
  | _ => false

end Sys2Proof.Machine
end

