-- ==== Sys2Proof/Machine/Bramble.lean ====
section
/-! DEFINITION. Bramble (04_bramble.md): the two cuckoo replicas, their lookups, insertions with kick paths, learning,
ageing, table operations and rehash. `w` selects the replica: false east, true west. -/

namespace Sys2Proof.Machine

def State.rep (s : State) (w : Bool) : Replica := if w then s.br.west else s.br.east
def State.setRep (s : State) (w : Bool) (r : Replica) : State :=
  { s with br := if w then { s.br with west := r } else { s.br with east := r } }

/-- The replica serving a port. R85. -/
def westPort (p : Nat) : Bool := decide (p = 2 ∨ p = 3 ∨ p = 5 ∨ p = 7)

/-- The replica serving a cluster's lookup helpers. R85. -/
def westCluster (n : Nat) : Bool := decide (8 ≤ n)

/-- Position of a port among the LearnLimit entries of its replica. R109. -/
def learnLimitIx (p : Nat) : Nat :=
  if p = 0 ∨ p = 2 then 0 else if p = 1 ∨ p = 3 then 1 else if p = 4 ∨ p = 5 then 2 else 3

/-- RehashState values of record 3400. -/
def rhIdle : Nat := 0
def rhRequested : Nat := 1
def rhBuilding : Nat := 2
def rhCopying : Nat := 3
def rhAborted : Nat := 4

def State.rehash (s : State) (w : Bool) : Nat := s.rd (K.brRehashState (b2n w))

/-! ### Slots -/

/-- First stash slot in the slot numbering. -/
def stashBase : Nat := 131072

/-- The width in key bits of a profile. R89. -/
def State.brWidth (s : State) (p : Nat) : Nat :=
  if p = 0 then 60 else if p = 1 then 104 else if p = 2 then 296 else if p = 3 then 51 else if p = 4 then 76
  else if p = 5 then 37 else if p < 8 then 0
  else ((tget [] s.br.profiles p).map (·.2)).foldl (· + ·) 0

/-- A profile whose keys are wide. R89. -/
def State.brWide (s : State) (p : Nat) : Bool := decide (160 < s.brWidth p)

/-- A slot image of 32 bytes as an entry. R87. -/
def slotDecode (bs : List Byte) : BrEntry :=
  let x := ofLE bs
  ⟨decide (bit x 255 = 1), bits x 254 253, bits x 252 251, decide (bit x 250 = 1), bits x 249 246, bits x 245 242,
   decide (bit x 241 = 1), BitVec.ofNat 32 (bits x 223 192), bits x 191 160, bits x 159 0⟩

/-- The 32-byte image of an entry. R87. -/
def slotEncode (e : BrEntry) : List Byte :=
  toLE 32 (b2n e.valid * 2 ^ 255 + e.half * 2 ^ 253 + e.etype * 2 ^ 251 + b2n e.hit * 2 ^ 250 + e.age * 2 ^ 246 +
    e.profile * 2 ^ 242 + b2n e.mirror * 2 ^ 241 + e.data.toNat * 2 ^ 192 + e.hitCount * 2 ^ 160 + e.key)

/-- Where the shadow image of a replica begins. R106. -/
def State.shadowAt (s : State) (w : Bool) : Nat := 256 * s.rd (K.brShadowBaseCell (b2n w))

/-- A slot as lookups see it: of the array, or of the shadow image during COPYING. R107. -/
def State.brSlot (s : State) (w : Bool) (i : Nat) : BrEntry :=
  if s.rehash w = rhCopying then slotDecode (s.loadBytes .cell (s.shadowAt w + 32 * i) 32)
  else tget BrEntry.zero (s.rep w).slots i

/-- A slot written; during COPYING into the shadow image. R93, R108. -/
def State.brPut (s : State) (w : Bool) (i : Nat) (e : BrEntry) : State :=
  if s.rehash w = rhCopying then s.storeBytes .cell (s.shadowAt w + 32 * i) (slotEncode e)
  else s.setRep w { s.rep w with slots := tset BrEntry.zero (s.rep w).slots i e,
                                 bad := (s.rep w).bad.filter (· ≠ i), fix := (s.rep w).fix.filter (· ≠ i) }

/-- The seed pair in force for lookups. R107. -/
def State.brSeeds (s : State) (w : Bool) : Nat × Nat :=
  let r := b2n w
  if s.rehash w = rhCopying then (s.rd (K.brNewSeed0 r), s.rd (K.brNewSeed1 r)) else (s.rd (K.brSeed0 r), s.rd (K.brSeed1 r))

/-- CRC-32C with an initial value, reflected, no final XOR. R86. -/
def crc32cSeed (seed : Nat) (bs : List Byte) : Nat := crc 32 0x1EDC6F41 (bitRev 32 seed) true true 0 bs

/-- The two candidate buckets of a key under a seed pair. R86. -/
def bucketsOf (seeds : Nat × Nat) (p key : Nat) (wide : Bool) : Nat × Nat :=
  let d := BitVec.ofNat 8 p :: toLE (if wide then 40 else 20) key
  let b0 := crc32cSeed seeds.1 d % 32768
  let b1 := crc32cSeed seeds.2 d % 32768
  (b0, if b1 = b0 then b0 ^^^ 1 else b1)

/-- The whole key of the entry whose first slot is `i`. -/
def State.brKey (s : State) (w : Bool) (i : Nat) : Nat :=
  let e := s.brSlot w i
  e.key + (if e.half = 1 then 2 ^ 160 * (s.brSlot w (i + 1)).key else 0)

/-- The slots of a bucket. -/
def bucketSlots (b : Nat) : List Nat := (List.range 4).map (4 * b + ·)

/-- The stash slots. -/
def stashSlots : List Nat := (List.range 64).map (stashBase + ·)

/-- The slots a lookup of a key reads, in order. R90. -/
def State.brReach (s : State) (w : Bool) (p key : Nat) : List Nat :=
  let bb := bucketsOf (s.brSeeds w) p key (s.brWide p)
  bucketSlots bb.1 ++ bucketSlots bb.2 ++ stashSlots

/-- A slot that holds the entry of a key. R90. -/
def State.brMatches (s : State) (w : Bool) (p key i : Nat) : Bool :=
  let e := s.brSlot w i
  e.valid && decide (e.half ≠ 2) && decide (e.profile = p) && decide (s.brKey w i = key)
    && (if s.brWide p then decide (e.half = 1) && (s.brSlot w (i + 1)).valid else decide (e.half = 0))

/-- The slot of a key's entry. -/
def State.brFind (s : State) (w : Bool) (p key : Nat) : Option Nat := (s.brReach w p key).find? (s.brMatches w p key)

/-- A position as the Bramble domain numbers it. R474. -/
def brPosition (w : Bool) (i : Nat) : Nat :=
  b2n w * 2 ^ 18 + (if i < stashBase then i else 2 ^ 17 + (i - stashBase))

/-- A slot cleared, with its partner when the entry is wide. R93, R103. -/
def State.brClear (s : State) (w : Bool) (i : Nat) : State :=
  let e := s.brSlot w i
  let s1 := s.brPut w i BrEntry.zero
  if e.half = 1 then s1.brPut w (i + 1) BrEntry.zero else if e.half = 2 then s1.brPut w (i - 1) BrEntry.zero else s1

/-- The Orchard cell that holds a slot of the shadow image. R106. -/
def State.shadowCell (s : State) (w : Bool) (i : Nat) : Nat := s.rd (K.brShadowBaseCell (b2n w)) + i / 8

/-- The slots of an access that hold an uncorrectable error: of the array, or, during COPYING, in a cell of the shadow image that has
one, which then counts for all its eight slots. R103, R107, R304. -/
def State.brBad (s : State) (w : Bool) (is : List Nat) : List Nat :=
  if s.rehash w = rhCopying then
    ((is.map (s.shadowCell w)).eraseDups.filter (· ∈ s.orch.badData)).flatMap fun c =>
      (List.range 8).map fun k => 8 * (c - s.rd (K.brShadowBaseCell (b2n w))) + k
  else is.filter (· ∈ (s.rep w).bad)

/-- The correctable errors of an access corrected in place and counted. R103. -/
def State.brFix (s : State) (w : Bool) (is : List Nat) : State :=
  if s.rehash w = rhCopying then s
  else
    let l := is.filter (· ∈ (s.rep w).fix)
    (s.setRep w { s.rep w with fix := (s.rep w).fix.filter (· ∉ l) }).corrected (K.ctrBrEccCorrected (b2n w)) l.length

/-- What an access does to the slots it reads that hold errors: correctable ones are corrected, the others cleared and recorded. R103. -/
def State.brEcc (s : State) (w : Bool) (is : List Nat) : State :=
  let l := s.brBad w is
  let s := l.foldl (fun s i =>
    ((s.brClear w i).bump (K.ctrBrEccUncorrectable (b2n w))).almanac 18 0x0404 4 [(1, b2n w), (4, brPosition w i)]) s
  let s := if s.rehash w = rhCopying then
      { s with orch := { s.orch with badData := s.orch.badData.filter fun c => decide (c ∉ l.map (s.shadowCell w)) } } else s
  s.brFix w is

/-! ### Lookup (R90 to R92) -/

/-- The slot number a hit reports. R92. -/
def reportedSlot (i : Nat) : Nat := if i < stashBase then i else 0x1FFFF

/-- HitCount and Hit after a lookup hit. R91. -/
def State.brTouch (s : State) (w : Bool) (i : Nat) : State :=
  let e := s.brSlot w i
  s.brPut w i { e with hitCount := min (e.hitCount + 1) 0xFFFFFFFF, hit := e.hit || decide (e.etype = 2) }

/-- A Classifier lookup: data and reported slot of the hit. R90, R91. -/
def State.brLookup (s : State) (w : Bool) (p key : Nat) : Option (BitVec 32 × Nat) × State :=
  let s := (s.brEcc w (s.brReach w p key)).bump (K.ctrBrLookups (b2n w))
  match s.brFind w p key with
  | some i => (some ((s.brSlot w i).data, reportedSlot i), (s.brTouch w i).bump (K.ctrBrHits (b2n w)))
  | none => (none, s)

/-! ### Insertion (R93 to R95) -/

/-- The lowest free place in a bucket: a way, or a pair of ways for a wide entry. A retired bucket reads as full (R498). -/
def State.brPlace (s : State) (w : Bool) (b : Nat) (wide : Bool) : Option Nat :=
  if b ∈ (s.rep w).retired then none
  else
    let free (i : Nat) : Bool := !(s.brSlot w i).valid
    if wide then [4 * b, 4 * b + 2].find? fun i => free i && free (i + 1) else (bucketSlots b).find? free

/-- The lowest free stash place. R94. -/
def State.brStashPlace (s : State) (w : Bool) (wide : Bool) : Option Nat :=
  let free (i : Nat) : Bool := !(s.brSlot w i).valid
  if wide then ((List.range 32).map (stashBase + 2 * ·)).find? fun i => free i && free (i + 1) else stashSlots.find? free

/-- The other candidate bucket of the entry in slot `i`. -/
def State.brOther (s : State) (w : Bool) (i : Nat) : Nat :=
  let e := s.brSlot w i
  let bb := bucketsOf (s.brSeeds w) e.profile (s.brKey w i) (decide (e.half = 1))
  if i / 4 = bb.1 then bb.2 else bb.1

/-- The entries of a bucket whose move makes room for a narrow or wide entry (log entry 13). R94. -/
def State.brMovable (s : State) (w : Bool) (b : Nat) (wide : Bool) : List Nat :=
  (bucketSlots b).filter fun i =>
    let e := s.brSlot w i
    e.valid && decide (e.half ≠ 2) &&
      (!wide || decide (e.half = 1) || !(s.brSlot w (if i % 2 = 0 then i + 1 else i - 1)).valid)

/-- The entry in a slot moved to the lowest free place of its other bucket, if it has one: new copy first, then the old slot
cleared. R94. -/
def State.brMove (s : State) (w : Bool) (i : Nat) : Option State :=
  let e := s.brSlot w i
  let wide := decide (e.half = 1)
  (s.brPlace w (s.brOther w i) wide).map fun j =>
    let s1 := s.brPut w j e
    let s1 := if wide then s1.brPut w (j + 1) (s.brSlot w (i + 1)) else s1
    s1.brClear w i

/-- The free place that a key has in its candidate buckets. R94. -/
def State.brRoom (s : State) (w : Bool) (bb : Nat × Nat) (wide : Bool) : Option Nat := (s.brPlace w bb.1 wide).or (s.brPlace w bb.2 wide)

/-- The machine after the moves of a path, last move first, and the place they open: a plan is complete when every move finds its
place and the key then has one. R94. -/
def State.brRun (s : State) (w : Bool) (bb : Nat × Nat) (wide : Bool) : List Nat → Option (State × Nat)
  | [] => (s.brRoom w bb wide).map fun i => (s, i)
  | i :: r => (s.brMove w i).bind fun s => s.brRun w bb wide r

/-- Breadth-first search for a kick path that makes room for a key, over paths with their last move first; `seen` holds the buckets
already expanded, with the width of the place sought there. The machine is the one the search leaves, errors it read cleared. R94,
R103. -/
def State.brKick (s : State) (w : Bool) (bb : Nat × Nat) (wide : Bool) :
    Nat → List (List Nat) → List (Nat × Bool) → State × Option (State × Nat)
  | 0, _, _ => (s, none)
  | f + 1, paths, seen =>
    let s := s.brEcc w (paths.flatMap fun p => (p.take 1).flatMap fun i => bucketSlots (s.brOther w i))
    match paths.findSome? (s.brRun w bb wide) with
    | some r => (s, some r)
    | none =>
      let grow := paths.foldl (fun (acc : List (List Nat) × List (Nat × Bool)) p => match p with
        | [] => acc
        | i :: _ =>
          let b := s.brOther w i
          let half := decide ((s.brSlot w i).half = 1)
          if (b, half) ∈ acc.2 then acc
          else (acc.1 ++ (s.brMovable w b half).map (· :: p), (b, half) :: acc.2)) ([], seen)
      if grow.1.isEmpty then (s, none) else s.brKick w bb wide f grow.1 grow.2

/-- An entry put at a place, both halves. -/
def State.brWrite (s : State) (w : Bool) (i : Nat) (e : BrEntry) (key : Nat) : State :=
  if s.brWide e.profile then
    (s.brPut w i { e with valid := true, half := 1, key := key % 2 ^ 160 }).brPut w (i + 1)
      { BrEntry.zero with valid := true, half := 2, key := key / 2 ^ 160 }
  else s.brPut w i { e with valid := true, half := 0, key := key % 2 ^ 160 }

/-- An insertion failure. R95, R104, R108. -/
def State.brFail (s : State) (w : Bool) : State :=
  let r := b2n w
  let s := s.bump (K.ctrBrInsertFail r)
  if s.rehash w = rhIdle then (s.wr (K.brRehashState r) rhRequested).almanac 18 0x0401 3 [(1, r)]
  else if s.rehash w = rhCopying then s.setRep w { s.rep w with failedInCopy := true }
  else s

/-- Insertion of a key's entry: status 0 OK, 1 UPDATED, 4 TABLE_FULL. R94. -/
def State.brInsert (s : State) (w : Bool) (e : BrEntry) (key : Nat) : Nat × State :=
  let p := e.profile
  let wide := s.brWide p
  let s := s.brEcc w (s.brReach w p key)
  match s.brFind w p key with
  | some i =>
    let old := s.brSlot w i
    (1, s.brPut w i { old with etype := e.etype, data := e.data, mirror := e.mirror })
  | none =>
    let bb := bucketsOf (s.brSeeds w) p key wide
    match s.brRoom w bb wide with
    | some i => (0, s.brWrite w i e key)
    | none =>
      let roots := (s.brMovable w bb.1 wide ++ s.brMovable w bb.2 wide).map fun i => [i]
      match s.brKick w bb wide (s.rd (K.brMaxKickDepth (b2n w))) roots [(bb.1, wide), (bb.2, wide)] with
      | (_, some (s, i)) => (0, s.brWrite w i e key)
      | (s, none) => match s.brStashPlace w wide with
        | some i => (0, s.brWrite w i e key)
        | none => (4, s.brFail w)

/-- A table-domain, commit or helper write recorded during BUILDING; the 1,025th aborts the rebuild. R105. -/
def State.brLog (s : State) (w : Bool) (kind : Nat) (e : BrEntry) : State :=
  if s.rehash w = rhBuilding then
    let r := b2n w
    if (s.rep w).changeLog.length < 1024 then
      (s.setRep w { s.rep w with changeLog := (s.rep w).changeLog ++ [(kind, e)] }).wr (K.brChangeLogSeq r)
        (s.rd (K.brChangeLogSeq r) + 1)
    else (s.wr (K.brRehashState r) rhAborted).almanac 18 0x0403 3 [(1, r)]
  else s

/-- A write reaches the replica in the PC cycle in which SWAP is sampled: one at the same model instant may (log entry 51). R108. -/
def State.swapping (s : State) (w : Bool) : Bool := decide ((s.rep w).swapAt = some s.now) && Config.freeBool s.freeCtr

/-- The slots a table-domain or commit write has changed are noted with its instant. R100. -/
def State.noteWrite (s : State) (w : Bool) (is : List Nat) : State :=
  let r := s.rep w
  s.setRep w { r with wrote := (s.now, if r.wrote.1 = s.now then is ++ r.wrote.2 else is) }

/-- INSERT by the Pilot, a commit list or a helper; 6 REHASH_BUSY. R94, R102, R105, R108. -/
def State.brOpInsert (s : State) (w : Bool) (e : BrEntry) (key : Nat) : Nat × State :=
  if s.swapping w then (6, s.tick)
  else
    let r := s.tick.brInsert w e key
    let s := r.2.noteWrite w (r.2.brFind w e.profile key).toList
    (r.1, if r.1 = 4 then s else s.brLog w 0 { e with key := key })

/-- DELETE by key: 2 DELETED, 3 NOT_FOUND, 6 REHASH_BUSY. R102, R108. -/
def State.brOpDelete (s : State) (w : Bool) (p key : Nat) : Nat × State :=
  if s.swapping w then (6, s.tick)
  else
    let s := s.tick.brEcc w (s.brReach w p key)
    match s.brFind w p key with
    | some i => (2, ((s.brClear w i).noteWrite w [i]).brLog w 1 { BrEntry.zero with profile := p, key := key })
    | none => (3, s)

/-! ### Learning (R96 to R98, R101) -/

/-- A notification posted to the Pilot, or dropped and counted. R101. -/
def State.brNotify (s : State) (w : Bool) (n : Notice) : State :=
  if (s.rep w).notices.length < 1024 then s.setRep w { s.rep w with notices := (s.rep w).notices ++ [n] }
  else s.bump (K.ctrBrNotifyOverflow (b2n w))

/-- The learn token bucket refilled to the present instant. R98. -/
def State.brRefill (s : State) (w : Bool) : State :=
  let r := s.rep w
  let cap := s.rd (K.brLearnBurst (b2n w)) * 10 ^ 9
  s.setRep w { r with tokens := min cap (r.tokens + s.rd (K.brLearnRate (b2n w)) * (s.now - r.tokensAt)),
                      tokensAt := s.now }

/-- LEARNED entries of a replica that name a port. R98. -/
def State.brLearnedOn (s : State) (w : Bool) (port : Nat) : Nat :=
  ((s.rep w).slots.filter fun kv => kv.2.valid && decide (kv.2.half ≠ 2) && decide (kv.2.etype = 1)
    && decide (kv.2.data.toNat % 8 = port)).length

/-- ValidCount and LearnedCount of a replica; a wide entry counts once. R109. -/
def State.brValidCount (s : State) (w : Bool) : Nat :=
  ((s.rep w).slots.filter fun kv => kv.2.valid && decide (kv.2.half ≠ 2)).length
def State.brLearnedCount (s : State) (w : Bool) : Nat :=
  ((s.rep w).slots.filter fun kv => kv.2.valid && decide (kv.2.half ≠ 2) && decide (kv.2.etype = 1)).length

/-- A missing key offered to the learn queue under the limits; one that would join it during a rehash is counted only. R98, R105. -/
def State.brOffer (s : State) (w : Bool) (key port : Nat) : State :=
  let r := b2n w
  let limit := s.rd (K.brLearnLimit r (learnLimitIx port))
  if (s.rep w).learnQ.any (fun q => decide (q.1 = key)) then s
  else
    let s := s.brRefill w
    if (s.rep w).tokens < 10 ^ 9 then s.bump (K.ctrBrLearnRateDrop r)
    else if limit ≠ 0 ∧ limit ≤ s.brLearnedOn w port then
      (s.bump (K.ctrBrLearnLimitDrop r)).almanacFirst 18 0x0406 2 port [(1, r), (1, port)]
    else if 64 ≤ (s.rep w).learnQ.length then s.bump (K.ctrBrLearnQueueFull r)
    else if s.rehash w = rhBuilding ∨ s.rehash w = rhCopying then s.bump (K.ctrBrLearnSuspended r)
    else s.setRep w { s.rep w with tokens := (s.rep w).tokens - 10 ^ 9, learnQ := (s.rep w).learnQ ++ [(key, port)] }

/-- The learning lookup of a candidate. R97. -/
def State.brLearn (s : State) (w : Bool) (key port : Nat) : State :=
  let r := b2n w
  let s := s.brEcc w (s.brReach w 0 key)
  match s.brFind w 0 key with
  | none => s.brOffer w key port
  | some i =>
    let e := s.brSlot w i
    if e.etype ≠ 1 then s.bump (K.ctrBrLearnStatic r)
    else if e.data.toNat % 8 = port then s.brPut w i { e with hit := true }
    else
      let d := BitVec.ofNat 32 (e.data.toNat / 8 * 8 + port)
      ((s.brPut w i { e with hit := true, mirror := false, data := d }).bump (K.ctrBrLearnMove r)).brNotify w ⟨1, key, port⟩

/-! ### Images of the Bramble domain (R87, R102) -/

/-- An image as an entry and its key, or nothing when the operation is refused with BAD_ENTRY. R102. -/
def State.brImage (s : State) (bs : List Byte) : Option (BrEntry × Nat) :=
  let x := ofLE (bs.take 32)
  let y := ofLE (bs.drop 32)
  let e := slotDecode (bs.take 32)
  let wide := s.brWide e.profile
  let key := e.key + (if wide then 2 ^ 160 * bits y 159 0 else 0)
  if e.profile = 6 ∨ e.profile = 7 ∨ e.etype = 3 ∨ bits x 240 224 ≠ 0 then none
  else if wide && !(decide (e.half = 1) && decide (bs.length = 64) && decide (bits y 254 253 = 2) && decide (bits y 253 160 % 2 ^ 93 = 0)) then none
  else if !wide && !(decide (e.half = 0) && decide (bs.length = 32)) then none
  else if 2 ^ s.brWidth e.profile ≤ key then none
  else some (e, key)

/-- The image of the entry in a slot, both halves of a wide one. -/
def State.brEntryBytes (s : State) (w : Bool) (i : Nat) : List Byte :=
  slotEncode (s.brSlot w i) ++ (if (s.brSlot w i).half = 1 then slotEncode (s.brSlot w (i + 1)) else [])

/-- The OpStatus and result bytes of an operation from the replicas' statuses (0xFF: not targeted). R102. -/
def State.brAnswer (s : State) (e w : Nat) (body : List Byte) : State :=
  let bad (x : Nat) : Bool := decide (x ≠ 0xFF ∧ x ≠ 0 ∧ x ≠ 1 ∧ x ≠ 2)
  let op := if bad e then e else if bad w then w else if e ≠ 0xFF then e else w
  { s with opStatus := op, reply := [BitVec.ofNat 8 e, BitVec.ofNat 8 w, 0#8, 0#8] ++ body }

/-- An operation carried out on the targeted replicas, east first. R102. -/
def State.brBoth (s : State) (target : Nat) (f : State → Bool → Nat × List Byte × State) : State :=
  if target = 0 ∨ 3 < target then { s with opStatus := 5, reply := [] }
  else
    let e := if bit target 0 = 1 then f s false else (0xFF, [], s)
    let w := if bit target 1 = 1 then f e.2.2 true else (0xFF, [], e.2.2)
    w.2.2.brAnswer e.1 w.1 (e.2.1 ++ w.2.1)

/-! ### The commands -/

/-- LEARN_INSERT: the insertion engine takes the oldest queued key. R98, R100. -/
def execLearnInsert (w : Bool) (s : State) : Host.Outcome State Fault Refusal :=
  match (s.rep w).learnQ with
  | [] => .next s
  | (key, port) :: rest =>
    if s.rehash w = rhBuilding ∨ s.rehash w = rhCopying then .next s
    else
      let s := (s.setRep w { s.rep w with learnQ := rest }).brEcc w (s.brReach w 0 key)
      match s.brFind w 0 key with
      | some i => .next (s.brPut w i { s.brSlot w i with hit := true })
      | none =>
        let r := s.brInsert w { BrEntry.zero with etype := 1, hit := true, data := BitVec.ofNat 32 port } key
        .next (if r.1 = 4 then r.2 else (r.2.bump (K.ctrBrLearnInserted (b2n w))).brNotify w ⟨0, key, port⟩)

/-- The sweep meets a slot in the PC cycle of a table-domain or commit write to it: one at the same model instant may be (log entry
51). R100. -/
def State.sweepMeets (s : State) (w : Bool) (i : Nat) : Bool :=
  decide ((s.rep w).wrote.1 = s.now) && decide (i ∈ (s.rep w).wrote.2) && Config.freeBool s.freeCtr

/-- AGE_SWEEP_VISIT: the sweep visits one slot. R99, R100, R103, R105. -/
def execAgeSweepVisit (w : Bool) (slot : Fin 131136) (s : State) : Host.Outcome State Fault Refusal :=
  if s.rehash w = rhBuilding ∨ s.rehash w = rhCopying then .next s
  else if s.sweepMeets w slot.val then .next s.tick
  else
    let s := s.tick
    let i := slot.val
    let s := s.brEcc w [i]
    let e := s.brSlot w i
    let aged := e.valid && decide (e.half ≠ 2) && ((decide (e.etype = 1) && !e.mirror) || decide (e.etype = 2))
    if !aged then .next s
    else if e.hit then .next (s.brPut w i { e with hit := false, age := 0 })
    else if e.age + 1 < s.rd (K.brAgeLimit (b2n w)) then .next (s.brPut w i { e with age := e.age + 1 })
    else
      let key := s.brKey w i
      let s1 := (s.brClear w i).bump (K.ctrBrAgedOut (b2n w))
      .next (if e.etype = 1 then s1.brNotify w ⟨2, key, e.data.toNat % 8⟩ else s1)

/-- BRAMBLE_FIND through the table domain. R102. -/
def execBrambleFind (target : BitVec 8) (image : List Byte) (s : State) : Host.Outcome State Fault Refusal :=
  match s.brImage image with
  | none => .next { s with opStatus := 5, reply := [] }
  | some (e, key) => .next (s.brBoth target.toNat fun s w =>
      let s := s.brEcc w (s.brReach w e.profile key)
      match s.brFind w e.profile key with
      | some i => (0, toBE 4 (brPosition w i) ++ s.brEntryBytes w i, s)
      | none => (3, [], s))

/-- An accepted change of a persistent domain counts StagedWrites. R467, R473. -/
def State.brStaged (s : State) : State := if s.opStatus ≤ 2 then s.bump K.cmtStagedWrites else s

/-- BRAMBLE_INSERT through the table domain. R94, R102. -/
def execBrambleInsert (target : BitVec 8) (image : List Byte) (s : State) : Host.Outcome State Fault Refusal :=
  match s.brImage image with
  | none => .next { s with opStatus := 5, reply := [] }
  | some (e, key) => .next (s.brBoth target.toNat fun s w =>
      let r := s.brOpInsert w e key
      match r.2.brFind w e.profile key with
      | some i => (r.1, toBE 4 (brPosition w i), r.2)
      | none => (r.1, [], r.2)).brStaged

/-- BRAMBLE_DELETE through the table domain. R102. -/
def execBrambleDelete (target : BitVec 8) (image : List Byte) (s : State) : Host.Outcome State Fault Refusal :=
  match s.brImage image with
  | none => .next { s with opStatus := 5, reply := [] }
  | some (e, key) => .next (s.brBoth target.toNat fun s w =>
      let r := s.brOpDelete w e.profile key
      (r.1, [], r.2)).brStaged

/-- The shadow image lies in one claimed range of the Pilot region. R106, R315. -/
def State.shadowClaimed (s : State) (w : Bool) : Bool :=
  let b := s.rd (K.brShadowBaseCell (b2n w))
  s.orch.claims.any fun c => decide (c.1 ≤ b) && decide (b + 16392 ≤ c.1 + c.2)

/-- REHASH_START. An image outside the claimed ranges is refused (log entry 52). R105, R106, R315. -/
def State.rehashStart (s : State) (w : Bool) : State :=
  let r := b2n w
  if s.rehash w = rhBuilding ∨ s.rehash w = rhCopying then s.aborted Abort.busy
  else if !s.shadowClaimed w then s.aborted Abort.inconsistent
  else (((s.setRep w { s.rep w with changeLog := [] }).wr (K.brChangeLogSeq r) 0).wr (K.brRehashState r) rhBuilding).aborted
    Abort.ok

def execRehashStart (w : Bool) (s : State) : Host.Outcome State Fault Refusal := .next (s.rehashStart w)

/-- REHASH_SWAP: refused when changes are not in the image; else lookups switch to the shadow image. R107, R109. -/
def State.rehashSwap (s : State) (w : Bool) : State :=
  let r := b2n w
  if s.rehash w ≠ rhBuilding then s.aborted Abort.busy
  else if s.rd (K.brSwapLogSeq r) < s.rd (K.brChangeLogSeq r) then s.aborted Config.rehashStale
  else if !s.shadowClaimed w then s.aborted Abort.inconsistent
  else ((s.setRep w { s.rep w with failedInCopy := false, swapAt := some s.now }).wr (K.brRehashState r) rhCopying).aborted Abort.ok

def execRehashSwap (w : Bool) (s : State) : Host.Outcome State Fault Refusal := .next (s.rehashSwap w)

/-- REHASH_CANCEL, accepted in BUILDING. R105, R108. -/
def State.rehashCancel (s : State) (w : Bool) : State :=
  if s.rehash w = rhBuilding then (s.wr (K.brRehashState (b2n w)) rhAborted).aborted Abort.ok else s.aborted Abort.busy

def execRehashCancel (w : Bool) (s : State) : Host.Outcome State Fault Refusal := .next (s.rehashCancel w)

/-- The slots of the shadow image that memory lists a byte of. -/
def State.shadowSlots (s : State) (w : Bool) : List Nat :=
  let lo := memKey .cell (s.shadowAt w)
  ((s.mem.filter fun c => decide (lo ≤ c.1) && decide (c.1 < lo + 32 * 131136)).map fun c => (c.1 - lo) / 32).eraseDups

/-- A shadow slot in neither candidate bucket, or malformed, is not copied. R107. -/
def State.shadowGood (s : State) (w : Bool) (i : Nat) : Bool :=
  let e := s.brSlot w i
  let first := if e.half = 2 then i - 1 else i
  let f := s.brSlot w first
  let wide := decide (f.half = 1)
  let bb := bucketsOf (s.brSeeds w) f.profile (s.brKey w first) wide
  decide (e.half ≠ 3) && decide (f.etype ≠ 3) && decide (f.profile ≠ 6) && decide (f.profile ≠ 7) && f.valid
    && decide (wide = s.brWide f.profile) && (!wide || (decide (first % 2 = 0) && decide ((s.brSlot w (first + 1)).half = 2)))
    && (if e.half = 2 then wide else true)
    && (decide (stashBase ≤ first) || decide (first / 4 = bb.1) || decide (first / 4 = bb.2))

/-- REHASH_COPY_DONE: the array takes the image, the seeds the new values. R107, R108. -/
def execRehashCopyDone (w : Bool) (s : State) : Host.Outcome State Fault Refusal :=
  if s.rehash w ≠ rhCopying then .next s
  else
    let r := b2n w
    let s := s.brEcc w (s.shadowSlots w)
    let valid := (s.shadowSlots w).filter fun i => (s.brSlot w i).valid
    let good := valid.filter (s.shadowGood w)
    let slots := good.foldl (fun t i => tset BrEntry.zero t i (s.brSlot w i)) []
    let rejects := valid.length - good.length
    let again := (s.rep w).failedInCopy
    let s1 := s.setRep w { s.rep w with slots := slots, bad := [], fix := [], changeLog := [], failedInCopy := false }
    let s1 := (s1.wr (K.brSeed0 r) (s.rd (K.brNewSeed0 r))).wr (K.brSeed1 r) (s.rd (K.brNewSeed1 r))
    let s1 := s1.bump (K.ctrBrShadowReject r) rejects
    let first := (valid.find? fun i => !(s.shadowGood w i)).getD 0
    let s1 := if 0 < rejects then s1.almanac 18 0x0405 4 [(1, r), (4, brPosition w first)] else s1
    let s1 := (s1.wr (K.brRehashState r) rhIdle).bump (K.ctrBrRehashCount r)
    let s1 := s1.almanac 18 0x0402 1 [(1, r), (4, s1.brValidCount w)]
    .next (if again then (s1.wr (K.brRehashState r) rhRequested).almanac 18 0x0401 3 [(1, r)] else s1)

/-- BRAMBLE_PROFILE_WRITE: the ranges of a programmable profile. R89, R471. -/
def execBrambleProfileWrite (p : Fin 8) (ranges : List (Nat × Nat)) (s : State) : Host.Outcome State Fault Refusal :=
  let ok := decide (ranges.length ≤ 4) && ranges.all (fun r => decide (1 ≤ r.2) && decide (r.2 ≤ 160) && decide (r.1 + r.2 ≤ 480))
    && decide ((ranges.map (·.2)).foldl (· + ·) 0 ≤ 320)
  .next (if ok then (({ s with br := { s.br with profiles := tset [] s.br.profiles (8 + p.val) ranges } } : State).bump
      K.cmtStagedWrites).status 0
    else s.status opRefused)

end Sys2Proof.Machine
end

