-- ==== Sys2Proof/Machine/Crypto.lean ====
section
/-! DEFINITION. The standard algorithms the chapters name and do not restate: AES with GCM (FIPS 197, SP 800-38D) for the
MACsec engines (R47), the helpers (R262) and the sealed regions (R392); Keccak, SHAKE, SHA-3, cSHAKE and KMAC256 (FIPS 202,
SP 800-185) for Binnacle, UDA and the helpers. PRESUMED from those standards (log entry 10). -/

namespace Sys2Proof.Machine

/-! ### AES -/

/-- The AES S-box, entry i in bits 8i + 7 to 8i. FIPS 197. -/
def sboxTable : Nat := 0x16bb54b00f2d99416842e6bf0d89a18cdf2855cee9871e9b948ed9691198f8e19e1dc186b95735610ef6034866b53e708a8bbd4b1f74dde8c6b4a61c2e2578ba08ae7a65eaf4566ca94ed58d6d37c8e779e4959162acd3c25c2406490a3a32e0db0b5ede14b8ee4688902a22dc4f816073195d643d7ea7c41744975fec130ccdd2f3ff1021dab6bcf5389d928f40a351a89f3c507f02f94585334d43fbaaefd0cf584c4a39becb6a5bb1fc20ed00d153842fe329b3d63b52a05a6e1b1a2c830975b227ebe28012079a059618c323c7041531d871f1e5a534ccf73f362693fdb7c072a49cafa2d4adf04759fa7dc982ca76abd7fe2b670130c56f6bf27b777c63

/-- S-box substitution of one byte. -/
def sbox (x : Nat) : Nat := (sboxTable >>> (8 * x)) % 256

/-- Multiplication by x in the AES field. -/
def xtime (x : Nat) : Nat := if x < 128 then 2 * x else (2 * x) % 256 ^^^ 0x1B

/-- A word of the key schedule rotated by one byte. -/
def rotWord : List Nat → List Nat
  | a :: r => r ++ [a]
  | [] => []

/-- Bytewise exclusive or of two lists. -/
def xorList (a b : List Nat) : List Nat := List.zipWith (fun x y => x ^^^ y) a b

/-- The key schedule: `n` more words after the words already made (latest first), with the word counter and round constant. -/
def aesExpand (nk : Nat) : Nat → Nat → Nat → List (List Nat) → List (List Nat)
  | 0, _, _, ws => ws
  | n + 1, i, rcon, ws =>
    let prev := ws.getD 0 []
    let back := ws.getD (nk - 1) []
    if i % nk = 0 then
      let t := xorList ((rotWord prev).map sbox) [rcon, 0, 0, 0]
      aesExpand nk n (i + 1) (xtime rcon) (xorList back t :: ws)
    else if nk = 8 ∧ i % nk = 4 then
      aesExpand nk n (i + 1) rcon (xorList back (prev.map sbox) :: ws)
    else
      aesExpand nk n (i + 1) rcon (xorList back prev :: ws)

/-- A list cut into groups of `k`, at most `fuel` of them. -/
def chunks (k : Nat) : Nat → List α → List (List α)
  | 0, _ => []
  | f + 1, l => match l with
    | [] => []
    | _ :: _ => l.take k :: chunks k f (l.drop k)

/-- The round keys (16 bytes each) of a 16- or 32-byte key. -/
def aesKeys (key : List Byte) : List (List Nat) :=
  let nk := key.length / 4
  let w0 := chunks 4 nk (key.map (·.toNat))
  let total := 4 * (nk + 7)
  let ws := (aesExpand nk (total - nk) nk 1 w0.reverse).reverse
  (chunks 4 (nk + 7) ws).map List.flatten

/-- ShiftRows on a block in column order. -/
def shiftRows (s : List Nat) : List Nat :=
  (List.range 16).map fun i => s.getD ((i % 4) + 4 * ((i / 4 + i % 4) % 4)) 0

/-- MixColumns of one column. -/
def mixColumn : List Nat → List Nat
  | [a, b, c, d] =>
    [xtime a ^^^ (xtime b ^^^ b) ^^^ c ^^^ d, a ^^^ xtime b ^^^ (xtime c ^^^ c) ^^^ d,
     a ^^^ b ^^^ xtime c ^^^ (xtime d ^^^ d), (xtime a ^^^ a) ^^^ b ^^^ c ^^^ xtime d]
  | l => l

/-- The rounds after the first key addition. -/
def aesRounds : List (List Nat) → List Nat → List Nat
  | [], s => s
  | [k], s => xorList (shiftRows (s.map sbox)) k
  | k :: k2 :: ks, s =>
    aesRounds (k2 :: ks) (xorList ((chunks 4 4 (shiftRows (s.map sbox))).map mixColumn).flatten k)

/-- AES encryption of one 16-byte block under round keys. -/
def aesBlock (ks : List (List Nat)) (b : List Nat) : List Nat :=
  match ks with
  | [] => b
  | k :: r => aesRounds r (xorList b k)

/-! ### GCM -/

/-- One step of the product in GF(2^128) of SP 800-38D. -/
def gfSteps (x : Nat) : Nat → Nat → Nat → Nat
  | 0, z, _ => z
  | n + 1, z, v =>
    let z' := if bit x n = 1 then z ^^^ v else z
    gfSteps x n z' (if v % 2 = 1 then (v / 2) ^^^ (0xE1 * 2 ^ 120) else v / 2)

/-- The product in GF(2^128). -/
def gfMul (x y : Nat) : Nat := gfSteps x 128 0 y

/-- A byte list as 16-byte blocks, the last padded with zeros. -/
def blocks16 (bs : List Byte) : List (List Byte) :=
  (chunks 16 (cdiv bs.length 16) bs).map fun b => b ++ List.replicate (16 - b.length) 0#8

/-- GHASH of the padded additional data and ciphertext with their lengths. -/
def ghash (h : Nat) (aad ct : List Byte) : Nat :=
  let ys := (blocks16 aad ++ blocks16 ct).map ofBE ++ [(8 * aad.length) * 2 ^ 64 + 8 * ct.length]
  ys.foldl (fun a b => gfMul (a ^^^ b) h) 0

/-- The keystream of `n` counter blocks from a counter. -/
def ctrStream (ks : List (List Nat)) (iv : List Byte) : Nat → Nat → List Nat
  | 0, _ => []
  | n + 1, c => aesBlock ks ((iv ++ toBE 4 c).map (·.toNat)) ++ ctrStream ks iv n (c + 1)

/-- Counter-mode encryption (and decryption) from counter value 2. -/
def gcmCrypt (ks : List (List Nat)) (iv text : List Byte) : List Byte :=
  List.zipWith (fun (b : Byte) k => b ^^^ BitVec.ofNat 8 k) text (ctrStream ks iv (cdiv text.length 16) 2)

/-- The 16-byte GCM tag of additional data and ciphertext under a 12-byte IV. -/
def gcmTag (ks : List (List Nat)) (iv aad ct : List Byte) : List Byte :=
  let h := (aesBlock ks (List.replicate 16 0)).foldl (fun a b => a * 256 + b) 0
  let m := (aesBlock ks ((iv ++ toBE 4 1).map (·.toNat))).foldl (fun a b => a * 256 + b) 0
  toBE 16 (ghash h aad ct ^^^ m)

/-- GCM authenticated encryption: ciphertext and tag. -/
def gcmSeal (key iv aad pt : List Byte) : List Byte × List Byte :=
  let ks := aesKeys key
  let ct := gcmCrypt ks iv pt
  (ct, gcmTag ks iv aad ct)

/-- GCM authenticated decryption: the plaintext, when the tag is right. -/
def gcmOpen (key iv aad ct tag : List Byte) : Option (List Byte) :=
  let ks := aesKeys key
  if gcmTag ks iv aad ct = tag then some (gcmCrypt ks iv ct) else none

/-! ### Keccak -/

/-- Rotation of a 64-bit lane. -/
def rot64 (x n : Nat) : Nat := ((x <<< (n % 64)) % 2 ^ 64) ||| (x >>> (64 - n % 64))

/-- The walk that sets ρ's offsets, from lane (1, 0): step t gives its lane, numbered x + 5y, the offset (t + 1)(t + 2)/2. FIPS 202,
3.2.2. -/
def rhoWalk : Nat → Nat → Nat × Nat → List (Nat × Nat)
  | 0, _, _ => []
  | n + 1, t, (x, y) => (x + 5 * y, (t + 1) * (t + 2) / 2 % 64) :: rhoWalk n (t + 1) (y, (2 * x + 3 * y) % 5)

/-- The offset of every lane; lane 0 does not turn. -/
def rhoOffsets : List Nat :=
  let w := rhoWalk 24 0 (1, 0)
  (List.range 25).map fun i => ((w.find? fun p => p.1 = i).map Prod.snd).getD 0

/-- `n` bits of the linear feedback register that spells the round constants. FIPS 202, 3.2.5. -/
def iotaBits : Nat → Nat → List Nat
  | 0, _ => []
  | n + 1, r => r % 2 :: iotaBits n (if r < 128 then 2 * r else (2 * r) ^^^ 0x171)

/-- The constant a round spends: its seven bits at places 2^j - 1. -/
def iotaWord (round7 : List Nat) : Nat := (round7.zipIdx.map fun e => e.1 * 2 ^ (2 ^ e.2 - 1)).foldl (· + ·) 0

/-- ι's constants, in the order of the rounds. -/
def iotaWords : List Nat := (chunks 7 24 (iotaBits 168 1)).map iotaWord

/-- The parity of a column of the state. -/
def columnParity (a : List Nat) (x : Nat) : Nat := (List.range 5).foldl (fun p y => p ^^^ a.getD (x % 5 + 5 * y) 0) 0

/-- θ, ρ and π: the lanes as χ meets them; lane (x, y) comes from lane (x + 3y, x). -/
def spread (a : List Nat) : List Nat :=
  (List.range 25).map fun i =>
    let x := (i % 5 + 3 * (i / 5)) % 5
    let from_ := x + 5 * (i % 5)
    rot64 (a.getD from_ 0 ^^^ columnParity a (x + 4) ^^^ rot64 (columnParity a (x + 1)) 1) (rhoOffsets.getD from_ 0)

/-- χ on one row of five lanes. -/
def chiRow (r : List Nat) : List Nat :=
  (List.range 5).map fun x => r.getD x 0 ^^^ (r.getD ((x + 2) % 5) 0 &&& (2 ^ 64 - 1 - r.getD ((x + 1) % 5) 0))

/-- One round on 25 lanes, lane x + 5y, with its constant. -/
def keccakRound (a : List Nat) (k : Nat) : List Nat :=
  match (chunks 5 5 (spread a)).flatMap chiRow with
  | [] => []
  | l :: rest => (l ^^^ k) :: rest

/-- Keccak-f[1600]. -/
def keccakF (a : List Nat) : List Nat := iotaWords.foldl keccakRound a

/-- The lanes of a rate block, zero beyond it. -/
def rateLanes (b : List Byte) : List Nat := (List.range 25).map fun i => leAt b (8 * i) 8

/-- Squeeze: `n` more blocks of `rate` bytes. -/
def squeeze (rate : Nat) : Nat → List Nat → List Byte
  | 0, _ => []
  | n + 1, a => (a.flatMap (toLE 8)).take rate ++ squeeze rate n (keccakF a)

/-- The sponge: rate in bytes, domain suffix byte, output length. -/
def sponge (rate suffix : Nat) (msg : List Byte) (outLen : Nat) : List Byte :=
  let padLen := rate - (msg.length + 1) % rate
  let m := if (msg.length + 1) % rate = 0 then msg ++ [BitVec.ofNat 8 (suffix + 0x80)]
    else msg ++ [BitVec.ofNat 8 suffix] ++ List.replicate (padLen - 1) 0#8 ++ [0x80#8]
  let st := (chunks rate (m.length / rate) m).foldl
    (fun a b => keccakF (List.zipWith (fun x y => x ^^^ y) a (rateLanes b))) (List.replicate 25 0)
  (squeeze rate (cdiv outLen rate) st).take outLen

def shake128 (m : List Byte) (n : Nat) : List Byte := sponge 168 0x1F m n
def shake256 (m : List Byte) (n : Nat) : List Byte := sponge 136 0x1F m n
def sha3_256 (m : List Byte) : List Byte := sponge 136 0x06 m 32
def sha3_512 (m : List Byte) : List Byte := sponge 72 0x06 m 64

/-- The fewest bytes of a number, at least one. -/
def byteLen (x : Nat) : Nat := if x < 256 then 1 else if x < 65536 then 2 else if x < 2 ^ 24 then 3 else 4

def leftEncode (x : Nat) : List Byte := BitVec.ofNat 8 (byteLen x) :: toBE (byteLen x) x
def rightEncode (x : Nat) : List Byte := toBE (byteLen x) x ++ [BitVec.ofNat 8 (byteLen x)]
def encodeString (s : List Byte) : List Byte := leftEncode (8 * s.length) ++ s
def bytepad (x : List Byte) (w : Nat) : List Byte :=
  let z := leftEncode w ++ x
  z ++ List.replicate ((w - z.length % w) % w) 0#8

/-- KMAC256 with key, data, output length in bytes and customisation string. SP 800-185. -/
def kmac256 (key x : List Byte) (outLen : Nat) (s : List Byte) : List Byte :=
  let name : List Byte := [0x4B#8, 0x4D#8, 0x41#8, 0x43#8]
  let newX := bytepad (encodeString key) 136 ++ x ++ rightEncode (8 * outLen)
  sponge 136 0x04 (bytepad (encodeString name ++ encodeString s) 136 ++ newX) outLen

/-- The bytes of an ASCII string. -/
def ascii (s : String) : List Byte := s.toList.map fun c => BitVec.ofNat 8 c.toNat

end Sys2Proof.Machine
end

