-- ==== Sys2Proof/Machine/Orchard.lean ====
section
/-! DEFINITION. The Orchard (13_orchard.md): cells, chains, named owners, pools and thresholds, quarantine, recovery, the
Pilot region and spill. -/

namespace Sys2Proof.Machine

/-! ### Handles and link entries (R302, R303) -/

/-- The end-of-chain handle. -/
def noCell : Nat := 0xFFFFFF

/-- Release and free statuses of R307. -/
def stFreed : Nat := 0
def stLeft : Nat := 1
def stDoubleFree : Nat := 2
def stNotLast : Nat := 3
def stNotOwner : Nat := 4
def stQuarantined : Nat := 5
def stBadHandle : Nat := 6
def stNoCell : Nat := 7
def stOverlap : Nat := 8
def stOk : Nat := 9

/-- First pool cell. -/
def poolBase : Nat := 0x3800

/-- First cell of the Pilot region, in force. -/
def State.pilotBase (s : State) : Nat := 196608 - s.rd K.orchPilotRegionCells

/-- A pool cell on chip. -/
def State.isPoolCell (s : State) (h : Nat) : Bool := decide (poolBase ≤ h) && decide (h < s.pilotBase)

/-- A configured spill cell. -/
def State.isSpillCell (s : State) (h : Nat) : Bool :=
  decide (0x200000 ≤ h) && decide (h < 0x200000 + s.rd K.orchSpillCells)

/-- A handle that names a cell that can hold a buffer. R302. -/
def State.isBufferCell (s : State) (h : Nat) : Bool := s.isPoolCell h || s.isSpillCell h

def State.cell (s : State) (h : Nat) : Cell := tget Cell.zero s.orch.cells h

/-- A link entry as a 64-bit word. R303. -/
def Cell.linkWord (c : Cell) : Nat :=
  b2n c.allocated * 2 ^ 63 + b2n c.head * 2 ^ 62 + b2n c.quarantined * 2 ^ 61 + c.pool * 2 ^ 56 + c.owners.toNat * 2 ^ 40
    + c.count * 2 ^ 24 + c.next

/-- A link entry written; that of a spill cell lies in DRAM as well. R303. -/
def State.setCell (s : State) (h : Nat) (c : Cell) : State :=
  let stored := s.storeBytes .dram (s.rd K.orchSpillBase + 8 * (h - 0x200000)) (toLE 8 c.linkWord)
  { s with
    orch := { s.orch with cells := tset Cell.zero s.orch.cells h c }
    mem := if h < 0x200000 then s.mem else stored.mem }

/-- Where byte 0 of a cell's data lies: on chip, or in the spill region after its link entries. R303. -/
def State.cellKey (s : State) (h : Nat) : Space × Nat :=
  if h < 0x200000 then (.cell, 256 * h)
  else (.dram, s.rd K.orchSpillBase + 8 * s.rd K.orchSpillCells + 256 * (h - 0x200000))

def State.cellBytes (s : State) (h n : Nat) : List Byte := let k := s.cellKey h; s.loadBytes k.1 k.2 n
def State.putCell (s : State) (h off : Nat) (bs : List Byte) : State :=
  let k := s.cellKey h; s.storeBytes k.1 (k.2 + off) bs

/-- The cells of a chain from a cell, at most `fuel`; the chain is cut at a bad link entry. R303, R304. -/
def State.chainFrom (s : State) : Nat → Nat → List Nat
  | 0, _ => []
  | f + 1, h => if h = noCell then [] else h :: (if h ∈ s.orch.badLink then [] else s.chainFrom f (s.cell h).next)

/-- The cells of the buffer whose head is `h`: 37 at most. -/
def State.chain (s : State) (h : Nat) : List Nat := s.chainFrom 37 h

/-- Bytes of a frame from its cells, from an offset. R59, R303. -/
def State.frameBytes (s : State) (h len : Nat) : List Byte :=
  ((s.chain h).flatMap fun c => s.cellBytes c 256).take len

/-! ### Pools (R309 to R311) -/

/-- Cells reserved for a pool. -/
def State.reservedOf (s : State) (p : Nat) : Nat := if s.on (K.poolReserved p) then s.rd (K.poolReservedCells p) else 0

/-- Cells of the shared area. R309. -/
def State.sharedSize (s : State) : Nat :=
  s.rd K.orchPoolCells - ((List.range 32).map s.reservedOf).foldl (· + ·) 0 - s.orch.retired.length

/-- Shared cells in use: what each pool holds beyond its reserve. R310. -/
def State.sharedUsed (s : State) : Nat :=
  ((List.range 32).map fun p => s.rd (K.poolOccupancy p) - s.reservedOf p).foldl (· + ·) 0

/-- Free cells of the shared area (4200:07). -/
def State.sharedFree (s : State) : Nat := s.sharedSize - s.sharedUsed

/-- A cell is available to pool p. R310. -/
def State.cellAvailable (s : State) (p : Nat) : Bool :=
  decide (s.rd (K.poolOccupancy p) < s.reservedOf p) || decide (0 < s.sharedFree)

/-- The first free pool cell at or cyclically after a starting point, searching at most `fuel` cells. -/
def State.findFree (s : State) : Nat → Nat → Option Nat
  | 0, _ => none
  | f + 1, h =>
    let h' := if s.isPoolCell h then h else poolBase
    if (s.cell h').allocated || decide (h' ∈ s.orch.retired) then s.findFree f (h' + 1) else some h'

/-- A pool's thresholds evaluated on its Occupancy; a reserved pool never asserts back-pressure. R311. -/
def State.thresholds (s : State) (p : Nat) : State :=
  let occ := s.rd (K.poolOccupancy p)
  let hyst := s.rd (K.poolHysteresis p)
  let warn := s.rd (K.poolWarnThreshold p)
  let pause := s.rd (K.poolPauseThreshold p)
  let s := if decide (warn ≤ occ) && decide (p ∉ s.orch.warned) then
      ((({ s with orch := { s.orch with warned := p :: s.orch.warned } } : State).bump (K.ctrPoolWarnCrossings p)).almanac
        19 0x0D01 2 [(1, p), (4, occ)])
    else if occ + hyst ≤ warn then { s with orch := { s.orch with warned := s.orch.warned.filter (· ≠ p) } }
    else s
  let s := if s.on (K.poolReserved p) then s.wr (K.poolBackPressure p) 0
    else if decide (pause ≤ occ) && !s.on (K.poolBackPressure p) then
      ((s.wr (K.poolBackPressure p) 1).bump (K.ctrPoolBackPressureStarts p)).almanacFirst 19 0x0D02 3 p [(1, p)]
    else if occ + hyst ≤ pause then s.wr (K.poolBackPressure p) 0
    else s
  if s.rd (K.poolOccupancyPeak p) < occ then s.wr (K.poolOccupancyPeak p) occ else s

/-- A cell allocated for pool p, whichever free cell the Orchard picks (log entry 9). R310. -/
def State.allocCell (s : State) (p : Nat) (c : Cell) : Option (Nat × State) :=
  if s.cellAvailable p then
    let size := s.pilotBase - poolBase
    match s.findFree (s.orch.cells.length + s.orch.retired.length + 2) (poolBase + Config.cellChoice s.freeCtr % size) with
    | none => none
    | some h =>
      let s := s.tick.setCell h { c with allocated := true, pool := p }
      let walk := if s.on K.orchRecoverState then h :: s.orch.sinceWalk else s.orch.sinceWalk
      let s := { s with orch := { s.orch with
        sinceWalk := walk, badData := s.orch.badData.filter (· ≠ h), badLink := s.orch.badLink.filter (· ≠ h)
        fixData := s.orch.fixData.filter (· ≠ h), fixLink := s.orch.fixLink.filter (· ≠ h) } }
      let s := ((s.wr (K.poolOccupancy p) (s.rd (K.poolOccupancy p) + 1)).bump (K.ctrPoolCellsAllocated p)).bump
        K.ctrOrchAllocations
      some (h, s.thresholds p)
  else none

/-- One cell returned to its pool: its state bit clear, its pool field kept. R307, R310. -/
def State.returnCell (s : State) (p h : Nat) : State :=
  let s := s.setCell h { Cell.zero with pool := (s.cell h).pool }
  if h < 0x200000 then (s.drop (K.poolOccupancy p)).thresholds p else s.drop (K.poolSpillOccupancy p)

/-- Every cell of a buffer that its chain reaches returned to the pool it came from, and Frees counted. R307, R319. -/
def State.freeCells (s : State) (h : Nat) : State :=
  let p := (s.cell h).pool
  let l := s.chain h
  let s := l.foldl (fun s c => s.returnCell p c) s
  let s := { s with orch := { s.orch with
    begun := s.orch.begun.filter (· ≠ h), spillReads := s.orch.spillReads.filter fun x => decide (x.1 ∉ l),
    readBack := s.orch.readBack.filter fun x => decide (x.1 ∉ l), order := s.orch.order.filter (· ≠ h) } }
  s.bump K.ctrOrchFrees

/-- The correctable errors of cells' data that is read: corrected, written back and counted. R304. -/
def State.fixCells (s : State) (l : List Nat) : State :=
  let m := s.orch.fixData.filter (· ∈ l)
  ({ s with orch := { s.orch with fixData := s.orch.fixData.filter (· ∉ l) } } : State).corrected K.ctrOrchCellEccCorrected m.length

/-- The correctable errors of the link entries of cells: corrected, written back and counted. R304. -/
def State.fixLinks (s : State) (l : List Nat) : State :=
  let m := s.orch.fixLink.filter (· ∈ l)
  ({ s with orch := { s.orch with fixLink := s.orch.fixLink.filter (· ∉ l) } } : State).corrected K.ctrOrchCellEccCorrected m.length

/-! ### Quarantine and named owners (R305 to R308, R312) -/

/-- A handle entered in the quarantine list and counted. R312. -/
def State.listQuarantine (s : State) (h owner st : Nat) : State :=
  let s := (s.bump K.ctrOrchQuarantined).wr K.orchQuarantineCount (s.rd K.orchQuarantineCount + 1)
  let s := if s.orch.quarantineList.length < 256 then
      { s with orch := { s.orch with quarantineList := s.orch.quarantineList ++ [h] } }
    else s.bump K.ctrOrchQuarantineUnlisted
  s.almanac 19 0x0D04 4 [(4, h), (1, owner), (1, st)]

/-- A free cell named by a double free becomes a quarantined head. R312. -/
def State.quarantineFree (s : State) (h owner : Nat) : State :=
  let p := (s.cell h).pool
  let s := s.setCell h ⟨true, true, true, p, 0#16, 1, noCell⟩
  let s := if h < 0x200000 then (s.wr (K.poolOccupancy p) (s.rd (K.poolOccupancy p) + 1)).thresholds p
    else s.wr (K.poolSpillOccupancy p) (s.rd (K.poolSpillOccupancy p) + 1)
  (s.bump K.ctrOrchDoubleFree).listQuarantine h owner stDoubleFree

/-- An allocated buffer quarantined as it stands. R312. -/
def State.quarantineBuffer (s : State) (h owner st : Nat) : State :=
  (s.setCell h { s.cell h with quarantined := true }).listQuarantine h owner st

/-- The first cell of a chain with an uncorrectable link entry. R304. -/
def State.badLinkOf (s : State) (h : Nat) : Option Nat := (s.chain h).find? (· ∈ s.orch.badLink)

/-- A reader, for an owner, follows the links of a buffer: correctable errors are corrected; the first time an uncorrectable one is met it
is recorded and the buffer, whose chain ends there, is quarantined. R304, R312. -/
def State.readLinks (s : State) (h owner : Nat) : State :=
  let s := s.fixLinks (s.chain h)
  match s.badLinkOf h with
  | some b =>
    if (s.cell h).quarantined then s
    else ((s.bump K.ctrOrchLinkEccError).almanac 19 0x0D06 5 [(4, b)]).quarantineBuffer h owner stQuarantined
  | none => s

/-- The Pilot reads one link entry: one in error is recorded. R304. -/
def State.readLink (s : State) (h : Nat) : Bool × State :=
  if h ∈ s.orch.badLink then (false, (s.bump K.ctrOrchLinkEccError).almanac 19 0x0D06 5 [(4, h)]) else (true, s.fixLinks [h])

/-- A buffer no owner holds any more: freed, or quarantined for a link entry that cannot be read. R304, R307. -/
def State.freeChain (s : State) (h owner : Nat) : State :=
  match s.badLinkOf h with
  | some _ => s.readLinks h owner
  | none => (s.fixLinks (s.chain h)).freeCells h

/-- RELEASE(h, o) or FREE(h, o): the outcomes of R307 in their order, and the status. -/
def State.giveUp (s : State) (isFree : Bool) (h owner : Nat) : Nat × State :=
  let c := s.cell h
  let has := c.owners.getLsbD owner
  let left := c.owners &&& ~~~(1#16 <<< owner)
  if !s.isBufferCell h then (stBadHandle, s)
  else if !c.allocated then (stDoubleFree, s.quarantineFree h owner)
  else if !c.head then (stBadHandle, s)
  else if c.quarantined then
    (stQuarantined, if !isFree && has then s.setCell h { c with owners := left } else s)
  else if !has then (stNotOwner, (s.bump K.ctrOrchNotOwner).almanac 19 0x0D04 4 [(4, h), (1, owner), (1, stNotOwner)])
  else if left ≠ 0#16 then
    if isFree then (stNotLast, (s.bump K.ctrOrchNotLast).quarantineBuffer h owner stNotLast)
    else (stLeft, (s.setCell h { c with owners := left }).bump K.ctrOrchLeaves)
  else (if (s.badLinkOf h).isSome then stQuarantined else stFreed, s.freeChain h owner)

/-- A hardware owner's RELEASE, whose status no one reads. R305, R306. -/
def State.release (s : State) (h owner : Nat) : State := (s.giveUp false h owner).2

/-- The owner mask of a buffer replaced. R305. -/
def State.setOwners (s : State) (h : Nat) (o : BitVec 16) : State := s.setCell h { s.cell h with owners := o }

/-- The owner bits of R305. -/
def ownOru : Nat := 8
def ownPilot : Nat := 9
def ownDma : Nat := 10
def ownIngress : Nat := 11

/-! ### Frames written by a Parser (R59, R310) -/

/-- Further cells of a frame written and linked, each allocated when its first byte arrives. `false`: no cell. -/
def State.moreCells (s : State) (p head last : Nat) : Nat → List Byte → Bool × State
  | 0, _ => (true, s)
  | f + 1, bs =>
    match bs with
    | [] => (true, s)
    | _ :: _ =>
      match s.allocCell p Cell.zero with
      | none => (false, s)
      | some (h, s) =>
        let s := s.setCell last { s.cell last with next := h }
        let s := s.setCell head { s.cell head with count := (s.cell head).count + 1 }
        (s.putCell h 0 (bs.take 256)).moreCells p head h f (bs.drop 256)

/-- A frame's bytes written into cells of pool p: the head cell, or none with the drop counted. R59, R310. -/
def State.writeFrame (s : State) (p : Nat) (bs : List Byte) : Option Nat × State :=
  if decide (s.rd (K.poolDropThreshold p) ≤ s.rd (K.poolOccupancy p)) then
    (none, (s.bump (K.ctrPoolDropThresholdDrops p)).almanacFirst 19 0x0D03 3 p [(1, p)])
  else match s.allocCell p { Cell.zero with head := true, owners := 1#16 <<< ownIngress, count := 1 } with
    | none => (none, (s.bump (K.ctrPoolNoCellDrops p)).almanacFirst 19 0x0D03 3 p [(1, p)])
    | some (h, s) =>
      let s := (s.putCell h 0 (bs.take 256)).bump (K.ctrPoolFramesAdmitted p)
      match s.moreCells p h h 37 (bs.drop 256) with
      | (true, s) => (some h, s)
      | (false, s) =>
        (none, ((s.freeChain h ownIngress).bump (K.ctrPoolTruncatedDrops p)).almanacFirst 19 0x0D03 3 p [(1, p)])

/-- A reader meets an uncorrectable error in a cell's data. R304, R319, R320. -/
def State.cellEcc (s : State) (h : Nat) : State := (s.bump K.ctrOrchCellEccUncorrectable).almanac 19 0x0D05 4 [(4, h)]

/-- The window cell linked after a buffer's last cell. R162, R303, R310. -/
def State.addWindowCell (s : State) (h : Nat) (bs : List Byte) : Option (Nat × State) :=
  let p := (s.cell h).pool
  match s.allocCell p Cell.zero with
  | none => none
  | some (w, s) =>
    let last := (s.chain h).getLastD h
    let s := s.setCell last { s.cell last with next := w }
    let s := s.setCell h { s.cell h with count := (s.cell h).count + 1 }
    some (w, s.putCell w 0 bs)

/-! ### Recovery (R313, R314) -/

/-- RECLAIM of one quarantined buffer. R313. -/
def State.reclaimOne (s : State) (h : Nat) : Nat × State :=
  let c := s.cell h
  if s.isBufferCell h && c.allocated && c.head && c.quarantined then
    let s := { s with orch := { s.orch with quarantineList := s.orch.quarantineList.filter (· ≠ h) } }
    (stFreed, ((s.freeCells h).bump K.ctrOrchReclaimed).drop K.orchQuarantineCount)
  else (stBadHandle, s)

/-- Every quarantined head. -/
def State.quarantinedHeads (s : State) : List Nat :=
  (s.orch.cells.filter fun kc => kc.2.head && kc.2.quarantined).map (·.1)

/-- Cells every chain reaches. R314. -/
def State.reachable (s : State) : List Nat :=
  ((s.orch.cells.filter fun kc => kc.2.allocated && kc.2.head).map fun kc => s.chain kc.1).flatten

/-! ### The commands -/

/-- RELEASE with the status returned. R307. -/
def State.orchRelease (s : State) (owner h : Nat) : State :=
  let r := s.giveUp false h owner
  r.2.status r.1

/-- ORCHARD_RELEASE: a named owner's RELEASE sampled in OB. R305 to R307. -/
def execOrchardRelease (owner : Fin 12) (h : BitVec 24) (s : State) : Host.Outcome State Fault Refusal :=
  .next (s.orchRelease owner.val h.toNat)

/-- The exception queue's descriptor of a buffer the Pilot has given up leaves the queue (log entry 12). R81, R305. -/
def State.leaveExceptionQ (s : State) (h : Nat) : State :=
  { s with pc := { s.pc with exceptionQ := s.pc.exceptionQ.filter fun d => d.firstCell.toNat ≠ h } }

/-- FREE with the status returned. R307, R308. -/
def State.orchFree (s : State) (dma : Bool) (h : Nat) : State :=
  let r := s.giveUp true h (if dma then ownDma else ownPilot)
  (r.2.when (!dma && decide (r.1 = stFreed)) (·.leaveExceptionQ h)).status r.1

/-- ORCHARD_FREE: the Pilot's or the DMA Engine's FREE. R307, R308. -/
def execOrchardFree (dma : Bool) (h : BitVec 24) (s : State) : Host.Outcome State Fault Refusal := .next (s.orchFree dma h.toNat)

/-- RECLAIM with the status returned. R313. -/
def State.orchReclaim (s : State) (h : Nat) : State :=
  let r := s.reclaimOne h
  r.2.status r.1

/-- RECLAIM. R313. -/
def execReclaim (h : BitVec 24) (s : State) : Host.Outcome State Fault Refusal := .next (s.orchReclaim h.toNat)

/-- RECLAIM ALL, refused while RECOVER runs. R313, R314. -/
def execReclaimAll (s : State) : Host.Outcome State Fault Refusal :=
  .next (if s.on K.orchRecoverState then s.aborted Abort.busy
    else (s.quarantinedHeads.foldl (fun s h => (s.reclaimOne h).2) s).aborted Abort.ok)

/-- RECOVER: the walk begins, or is refused while one runs. R314. -/
def execRecover (s : State) : Host.Outcome State Fault Refusal :=
  .next (if s.on K.orchRecoverState then s.aborted Abort.busy
    else (({ s with orch := { s.orch with sinceWalk := [] } } : State).wr K.orchRecoverState 1).aborted Abort.ok)

/-- RECOVER_DONE: allocated cells no chain reaches go back to the pool in their link entry. R314. -/
def execRecoverDone (s : State) : Host.Outcome State Fault Refusal :=
  if s.on K.orchRecoverState then
    let keep := s.reachable ++ s.orch.sinceWalk
    let lost := (s.orch.cells.filter fun kc => kc.2.allocated && decide (kc.1 ∉ keep)).map (·.1)
    let s := lost.foldl (fun s h => s.returnCell (s.cell h).pool h) s
    let s := { s with orch := { s.orch with sinceWalk := [], badLink := s.orch.badLink.filter (· ∉ lost) } }
    .next ((((s.bump K.ctrOrchRecoveredCells lost.length).wr K.orchRecoverState 0)).almanac 19 0x0D07 2 [(4, lost.length)])
  else .next s

/-- A range of the Pilot region claimed. R315. -/
def State.claim (s : State) (b n : Nat) : State :=
  if b < s.pilotBase ∨ 196608 < b + n then s.status stBadHandle
  else if s.orch.claims.any fun c => decide (c.1 < b + n) && decide (b < c.1 + c.2) then s.status stOverlap
  else ({ s with orch := { s.orch with claims := s.orch.claims ++ [(b, n)] } } : State).status stOk

/-- CLAIM of a range of the Pilot region. R315. -/
def execClaim (base : BitVec 24) (count : BitVec 32) (s : State) : Host.Outcome State Fault Refusal :=
  .next (s.claim base.toNat count.toNat)

/-- A claimed range given back. R315. -/
def State.unclaim (s : State) (b n : Nat) : State :=
  if (b, n) ∈ s.orch.claims then ({ s with orch := { s.orch with claims := s.orch.claims.filter (· ≠ (b, n)) } } : State).status stOk
  else s.status stBadHandle

/-- UNCLAIM of exactly a claimed range. R315. -/
def execUnclaim (base : BitVec 24) (count : BitVec 32) (s : State) : Host.Outcome State Fault Refusal :=
  .next (s.unclaim base.toNat count.toNat)

/-- A cell lies in a claimed range. R315. -/
def State.claimed (s : State) (h : Nat) : Bool := s.orch.claims.any fun c => decide (c.1 ≤ h) && decide (h < c.1 + c.2)

/-- PILOT_REGION_WRITE: one claimed cell written through the domain. R315. -/
def execPilotRegionWrite (h : BitVec 24) (image : List Byte) (s : State) : Host.Outcome State Fault Refusal :=
  .next (if s.claimed h.toNat ∧ image.length = 256 then (s.putCell h.toNat 0 image).status 0 else s.status opRefused)

/-! ### Spill (R316, R317) -/

/-- The first free spill cell at or after handle h, round the spill region. -/
def State.findSpill (s : State) : Nat → Nat → Option Nat
  | 0, _ => none
  | f + 1, h =>
    let h' := if s.isSpillCell h then h else 0x200000
    if !s.isSpillCell h' then none else if (s.cell h').allocated then s.findSpill f (h' + 1) else some h'

/-- A free spill cell, whichever the Orchard picks (log entry 9). R316. -/
def State.freeSpill (s : State) : Option Nat :=
  s.findSpill (s.orch.cells.length + 2) (0x200000 + Config.cellChoice s.freeCtr % max 1 (s.rd K.orchSpillCells))

/-- Free spill cells (4200:08). -/
def State.spillFree (s : State) : Nat :=
  s.rd K.orchSpillCells - ((List.range 32).map fun p => s.rd (K.poolSpillOccupancy p)).foldl (· + ·) 0

/-- A buffer eligible for migration. R316. -/
def State.eligibleSpill (s : State) (h : Nat) : Bool :=
  let c := s.cell h
  decide (s.rd K.dramDramState = 2) && c.allocated && c.head && !c.quarantined && s.on (K.poolSpillEnable c.pool) && decide (c.owners ≠ 0#16)
    && decide (c.owners &&& 0xFF00#16 = 0#16) && decide (h ∉ s.orch.begun)
    && decide (s.rd (K.poolSpillThreshold c.pool) ≤ s.rd (K.poolOccupancy c.pool))
    && decide (s.rd (K.poolSpillOccupancy c.pool) < s.rd (K.poolSpillLimit c.pool))

/-- The cell of a buffer that would migrate next: the first on chip that is neither the head nor the last (window) cell. R316. -/
def State.nextSpill (s : State) (h : Nat) : Option Nat := (((s.chain h).drop 1).dropLast).find? (· < 0x200000)

/-- The buffer that migrates: the first in handover order that is eligible and has a cell to migrate. R316. -/
def State.spillHead (s : State) : Option Nat := s.orch.order.find? fun h => s.eligibleSpill h && (s.nextSpill h).isSome

/-- The marks of a cell's errors go with its copy, and those the copy's cell had are gone. R304, R316. -/
def State.moveMarks (s : State) (c n : Nat) : State :=
  let moved (l : List Nat) : List Nat := if c ∈ l then n :: l.filter (· ≠ n) else l.filter (· ≠ n)
  { s with orch := { s.orch with badData := moved s.orch.badData, badLink := s.orch.badLink.filter (· ≠ n)
                                 fixData := s.orch.fixData.filter (· ≠ n), fixLink := s.orch.fixLink.filter (· ≠ n) } }

/-- Port p has come to a copy of buffer h: it is one of the two oldest of its queue, or its LAUNCH release has arrived. R347. -/
def State.wantsCopy (s : State) (p h : Nat) : Bool :=
  let x := tget TmPort.zero s.tm.ports p
  (x.classQ ++ x.streamQ).any (fun kq => (kq.2.take 2).any fun c => c.raw.isNone && decide (c.handle = h))
    || x.launchSet.any fun c => c.released && c.raw.isNone && decide (c.handle = h)

/-- The spilled cells of a buffer asked for by a port that has not asked for them. R317, R347. -/
def State.askSpill (s : State) (p h : Nat) : State :=
  let l := ((s.chain h).filter (0x200000 ≤ ·)).map fun c => (c, p)
  { s with orch := { s.orch with
    spillReads := s.orch.spillReads ++ l.filter fun x => decide (x ∉ s.orch.spillReads) && decide (x ∉ s.orch.readBack) } }

/-- Every port that has come to a copy of a buffer asks for its spilled cells. R347. -/
def State.askAll (s : State) (h : Nat) : State :=
  (List.range 8).foldl (fun s p => s.when (s.wantsCopy p h) (·.askSpill p h)) s

/-- SPILL_MIGRATE: one cell of the buffer that migrates copied to a spill cell and its link switched. R316. -/
def execSpillMigrate (h : BitVec 24) (s : State) : Host.Outcome State Fault Refusal :=
  let ch := s.chain h.toNat
  match s.nextSpill h.toNat, s.freeSpill with
  | some c, some n =>
    if s.spillHead = some h.toNat then
      let s := (s.tick.fixCells [c]).moveMarks c n
      let p := (s.cell h.toNat).pool
      let prev := ((ch.zip (ch.drop 1)).find? fun x => x.2 = c).map (·.1) |>.getD h.toNat
      let s1 := s.putCell n 0 (s.cellBytes c 256)
      let s1 := s1.setCell n { s1.cell c with allocated := true }
      let s1 := s1.setCell prev { s1.cell prev with next := n }
      let s1 := s1.returnCell p c
      .next (((s1.wr (K.poolSpillOccupancy p) (s1.rd (K.poolSpillOccupancy p) + 1)).bump K.ctrOrchMigratedCells).askAll h.toNat)
    else .next s
  | _, _ => .next s

/-- SPILL_READ_DONE: the spilled cells of a buffer that ports have asked for are delivered to the egress path. R317, R347. -/
def execSpillReadDone (h : BitVec 24) (s : State) : Host.Outcome State Fault Refusal :=
  let l := s.chain h.toNat
  let got := s.orch.spillReads.filter fun x => decide (x.1 ∈ l)
  .next (({ s with orch := { s.orch with spillReads := s.orch.spillReads.filter fun x => decide (x.1 ∉ l)
                                         readBack := s.orch.readBack ++ got } } : State).bump K.ctrOrchSpillReads got.length)

end Sys2Proof.Machine
end

