-- ==== Sys2Proof/Machine/Threads.lean ====
section
/-! DEFINITION. Threads and cores (08_wenkin_core.md, 09_wenkin_programming_model.md): numbering, registers, reply registers,
event pending bits, and the retirement of an instruction. Packet thread T(c.k) is 8c + k, barrel thread B(p.k) is
512 + 16p + k, Pilot core i is 576 + i. -/

namespace Sys2Proof.Machine

/-! ### Numbering -/

def isPacketThread (t : Nat) : Bool := decide (t < 512)
def isBarrelThread (t : Nat) : Bool := decide (512 ≤ t) && decide (t < 576)
def isPilotThread (t : Nat) : Bool := decide (576 ≤ t)

/-- The key of the resources a thread shares with its core's other threads. R176, R352. -/
def coreOf (t : Nat) : Nat := if t < 512 then t / 8 else if t < 576 then 64 + (t - 512) / 16 else 68 + (t - 576)

/-- The thread's number within its core or processor. -/
def lane (t : Nat) : Nat := if t < 512 then t % 8 else if t < 576 then t % 16 else 0

/-- The cluster of a packet thread. -/
def clusterOf (t : Nat) : Nat := t / 32

/-- The Almanac origin of what a thread does: its cluster, BI or PL. R475. -/
def originOf (t : Nat) : Nat := if t < 512 then 1 + clusterOf t else if t < 576 then 22 else 23

/-- The highest code address a thread can execute. R219, R356. -/
def codeTop (t : Nat) : Nat := if isBarrelThread t then 0xFFFC else 0x1FFFC

/-- The data memory a thread's low addresses reach, and its bytes. R208, R357. -/
def ramBase (t : Nat) : Space × Nat :=
  if t < 512 then (.coreData, 65536 * (t / 8)) else if t < 576 then (.barrelData, 32768 * ((t - 512) / 16)) else (.pilot, 0)
def ramTop (t : Nat) : Nat := if t < 512 then 0xF800 else if t < 576 then 0x8000 else 0x400000

/-- A thread's crossings with DX: its cluster's, BI's (16) or PL's (17). R17. -/
def crossOf (t : Nat) : Nat := if t < 512 then clusterOf t else if t < 576 then 16 else 17

/-! ### Accessors -/

def State.thread (s : State) (t : Nat) : Thread := tget Thread.zero s.cores.threads t
def State.setThread (s : State) (t : Nat) (x : Thread) : State :=
  { s with cores := { s.cores with threads := tset Thread.zero s.cores.threads t x } }
def State.core (s : State) (c : Nat) : Core := tget Core.zero s.cores.cores c
def State.setCore (s : State) (c : Nat) (x : Core) : State :=
  { s with cores := { s.cores with cores := tset Core.zero s.cores.cores c x } }

/-- A counter of record 6140 or 6180 raised for a packet thread's core. R201, R229. -/
def State.bumpCore (s : State) (t : Nat) (k : Nat → Nat) : State := if isPacketThread t then s.bump (k (t / 8)) else s

/-- General register r: w0 reads zero. R203. -/
def Thread.reg (x : Thread) (r : Nat) : Word := if r = 0 then 0#32 else tget 0#32 x.regs r

/-- General register r written: a write of w0 is discarded. R203. -/
def Thread.setReg (x : Thread) (r : Nat) (v : Word) : Thread :=
  if r = 0 then x else { x with regs := tset 0#32 x.regs r v }

/-- The special-register set in force. R204. -/
def Thread.sregs (x : Thread) : RegSet := if x.second then x.set1 else x.set0
def Thread.setSregs (x : Thread) (r : RegSet) : Thread := if x.second then { x with set1 := r } else { x with set0 := r }
def Thread.bankSet (x : Thread) (second : Bool) : RegSet := if second then x.set1 else x.set0
def Thread.setBank (x : Thread) (second : Bool) (r : RegSet) : Thread :=
  if second then { x with set1 := r } else { x with set0 := r }

/-- Reply register m of a set. R206. -/
def RegSet.rp (r : RegSet) (m : Nat) : Rp :=
  if m = 0 then r.rp0 else if m = 1 then r.rp1 else if m = 2 then r.rp2 else r.rp3
def RegSet.setRp (r : RegSet) (m : Nat) (x : Rp) : RegSet :=
  if m = 0 then { r with rp0 := x } else if m = 1 then { r with rp1 := x } else if m = 2 then { r with rp2 := x }
  else { r with rp3 := x }

def State.rp (s : State) (t : Nat) (second : Bool) (m : Nat) : Rp := ((s.thread t).bankSet second).rp m
def State.setRp (s : State) (t : Nat) (second : Bool) (m : Nat) (x : Rp) : State :=
  let th := s.thread t
  s.setThread t (th.setBank second ((th.bankSet second).setRp m x))

/-- TSW bits. R204. -/
def Thread.exl (x : Thread) : Bool := x.tsw.getLsbD 23
def Thread.trapSt (x : Thread) : Bool := x.tsw.getLsbD 22
def Thread.trapDz (x : Thread) : Bool := x.tsw.getLsbD 21

/-- The class of a level: 0 Scheduled, 1 Safety, 2 Control, 3 Bulk. R124. -/
def State.classOf (s : State) (level : Nat) : Nat := s.rd (K.dispLevelClass level)

/-- The pair a core belongs to is in lockstep. R195. -/
def State.lockstep (s : State) (c : Nat) : Bool := decide (bit (s.rd K.coreLockstepMask) (c / 2) = 1)

/-- The core that holds a core's records: the lower one of a lockstep pair. R195, R200. -/
def State.lower (s : State) (c : Nat) : Nat := if s.lockstep c then c - c % 2 else c

/-- The present microsecond strobe and watchdog strobe. R141, R198. -/
def State.usStrobe (s : State) : Nat := s.now / 1000
def State.wdStrobe (s : State) : Nat := s.now / 100

/-- The code bank new items of a cluster start in. R226. -/
def State.activeBank (s : State) (n : Nat) : Nat := s.rd (K.bankActiveBank n)

/-! ### Retirement (R184, R244) -/

/-- A thread after the instruction at its PC has retired with `next` as its next address: the innermost loop's body end acts
as a back edge or closes the loop. The flag says that an uncaptured back edge was taken. R194, R217, R244. -/
def Thread.retire (x : Thread) (next : Nat) : Thread × Bool :=
  if x.exl then ({ x with pc := next }, false)
  else match x.loops with
    | [] => ({ x with pc := next }, false)
    | c :: r =>
      if x.pc = c.last then
        if 1 < c.remaining then
          ({ x with pc := c.start, loops := { c with remaining := c.remaining - 1 } :: r }, !c.captured)
        else ({ x with pc := next, loops := r }, false)
      else ({ x with pc := next }, false)

/-- Loop contexts after a transfer to an address: a branch that leaves a body frees its loop-buffer entry. R194. -/
def leaveBodies (pc : Nat) (l : List LoopCtx) : List LoopCtx :=
  l.map fun c => if c.start ≤ pc ∧ pc ≤ c.last then c else { c with captured := false }

/-- The instruction at the PC of thread t retires and the thread stays READY. -/
def State.retire (s : State) (t next : Nat) : State :=
  let old := s.thread t
  let x := old.retire next
  let s := (s.setThread t { x.1 with st := .ready }).traceRetire t
  let s := if x.2 then s.bumpCore t K.ctrCoreLoopUncapturedEdges else s
  if x.1.loops.length = old.loops.length ∧ x.1.loops ≠ old.loops then s.traceFlow t old.pc x.1.pc flLoop else s

/-- Loop-buffer entries of a core in use. R194. -/
def State.loopEntries (s : State) (t : Nat) : Nat :=
  (((List.range 8).map fun k => ((s.thread (8 * (t / 8) + k)).loops.filter (·.captured)).length)).foldl (· + ·) 0

/-- Contexts without their loop-buffer entries. R194. -/
def uncaptured (l : List LoopCtx) : List LoopCtx := l.map fun c => { c with captured := false }

/-! ### Event pending bits and replies (R186 to R189, R206) -/

/-- A WAITING thread goes on: its WFE retires, and the sources no register read consumes are consumed. R189. -/
def State.endWfe (s : State) (t : Nat) (consume : BitVec 7) : State :=
  let x := s.thread t
  (s.setThread t { x with ev := x.ev &&& ~~~(consume &&& 0x70#7) }).retire t (x.pc + 4)

/-- Event pending bits set for the register set of a work item; a WAITING thread that masks one goes on. R189, R260. -/
def State.pend (s : State) (t : Nat) (second : Bool) (bits : BitVec 7) : State :=
  let x := s.thread t
  if x.second = second then
    let s := s.setThread t { x with ev := x.ev ||| bits }
    match x.st with
    | .waiting mask _ _ => if mask &&& (x.ev ||| bits) ≠ 0#7 then s.endWfe t mask else s
    | _ => s
  else match x.saved with
    | some v => if second then s else s.setThread t { x with saved := some { v with ev := v.ev ||| bits } }
    | none => s

/-- The status half of a reply. R206. -/
def replyStatus (source status wait : Nat) : BitVec 32 := BitVec.ofNat 32 (source * 2 ^ 28 + status * 256 + wait)

/-! ### The crossings with DX (R17 to R19) -/

/-- What island c has sent to DX, oldest first, with the threads it comes from. R18. -/
def State.toDx (s : State) (c : Nat) : List (Nat × ToDx) := tget [] s.cores.toDx c
def State.setToDx (s : State) (c : Nat) (l : List (Nat × ToDx)) : State :=
  { s with cores := { s.cores with toDx := tset [] s.cores.toDx c l } }

/-- What DX has sent to island c. R18. -/
def State.fromDx (s : State) (c : Nat) : List (Nat × FromDx) := tget [] s.cores.fromDx c
def State.setFromDx (s : State) (c : Nat) (l : List (Nat × FromDx)) : State :=
  { s with cores := { s.cores with fromDx := tset [] s.cores.fromDx c l } }

/-- What a thread has sent to DX and DX has not sampled, oldest first. -/
def State.sent (s : State) (t : Nat) : List ToDx := ((s.toDx (crossOf t)).filter fun e => decide (e.1 = t)).map (·.2)

/-- An end, a post or a fault report leaves for DX, where a command samples it. -/
def State.post_ (s : State) (t : Nat) (m : ToDx) : State := s.setToDx (crossOf t) (s.toDx (crossOf t) ++ [(t, m)])

/-- Wake-ups at the head of a crossing are sampled; other events wait for their commands. R18, R292. -/
def State.wakeUps (s : State) (c : Nat) : List (Nat × FromDx) → State
  | (t, .signal second) :: r => (s.pend t second 0x20#7).wakeUps c r
  | l => s.setFromDx c l

/-- DX sends an event to a thread. R18. -/
def State.sendFromDx (s : State) (t : Nat) (m : FromDx) : State :=
  s.wakeUps (crossOf t) (s.fromDx (crossOf t) ++ [(t, m)])

/-- The event can be sampled: nothing stands ahead of it in its crossing. R18. -/
def State.arrives (s : State) (t : Nat) (m : FromDx) : Bool :=
  decide ((s.fromDx (crossOf t)).head? = some (t, m)) || decide ((t, m) ∉ s.fromDx (crossOf t))

/-- An event leaves its crossing: it is sampled, or it belongs to a request that was cancelled. R18, R165. -/
def State.takeFromDx (s : State) (t : Nat) (m : FromDx) : State :=
  s.wakeUps (crossOf t) ((s.fromDx (crossOf t)).erase (t, m))

/-- The requests a thread has in its crossing are cancelled. R165. -/
def State.cancelSent (s : State) (t : Nat) : State :=
  s.setToDx (crossOf t) ((s.toDx (crossOf t)).filter fun e => decide (e.1 ≠ t) || (match e.2 with
    | .post _ _ _ _ _ => true
    | .finish _ _ _ => true
    | .fault _ _ => true
    | _ => false))

/-- A reply sent to reply register m of a set of thread t. R206, R274. -/
def State.reply_ (s : State) (t : Nat) (second : Bool) (m source status wait : Nat) (data : Word) (words : List Word := [])
    (buf : Nat := 0) : State :=
  (s.setRp t second m (.flying ⟨replyStatus source status wait, data⟩ words buf)).sendFromDx t (.reply second m)

/-- WaitStatus values. R207. -/
def wsArrived : Nat := 0
def wsTimeout : Nat := 1
def wsStalled : Nat := 2

/-- A free value below the length of a list picks one of its elements. Log entry 5. -/
def State.pick (s : State) (l : List Nat) : Option (Nat × State) :=
  match l[Config.freeValue s.freeCtr % l.length]? with
  | some x => some (x, s.tick)
  | none => none

end Sys2Proof.Machine
end

