-- ==== Sys2Proof/Machine/Rendezvous.lean ====
section
/-! DEFINITION. The Rendezvous Unit (12_rendezvous.md, R272 to R301): locks, semaphores, atomic memory, channels and event bits,
their waiter queues, time-outs and the quiescence detector. -/

namespace Sys2Proof.Machine

/-! ### Statuses (R275) -/

def rvOk : Nat := 0
def rvAbandoned : Nat := 1
def rvBusy : Nat := 2
def rvNotHolder : Nat := 3
def rvHeldBySelf : Nat := 4
def rvNoRight : Nat := 5
def rvBadId : Nat := 6
def rvBadOperand : Nat := 7
def rvSemSaturated : Nat := 8
def rvChFull : Nat := 9
def rvEccError : Nat := 10
def rvSubFull : Nat := 11

/-- A requester's item: its thread, register set and reply register. -/
structure Rq where
  tid : Nat
  second : Bool
  rp : Nat
deriving DecidableEq, Repr

/-- A reply of the Rendezvous Unit. R275. -/
def State.rdvReply (s : State) (q : Rq) (status : Nat) (data : Word := 0#32) (words : List Word := []) (buf : Nat := 0) :
    State := s.reply_ q.tid q.second q.rp 1 status wsArrived data words buf

/-- The item a register set serves. R204. -/
def Thread.itemOf (x : Thread) (second : Bool) : Option Item := if x.second = second then x.item else x.saved.map (·.item)

/-- The priority of a requester's waits: the Level of a packet thread's item, else 7. R278. -/
def State.waitPrio (s : State) (q : Rq) : Nat :=
  if isPacketThread q.tid then match (s.thread q.tid).itemOf q.second with
    | some i => i.level
    | none => 0
  else 7

/-- A waiter joins behind equal or higher priority and ahead of lower priority. R278. -/
def joinByPrio (w : Waiter) (l : List Waiter) : List Waiter :=
  l.takeWhile (fun v => decide (w.prio ≤ v.prio)) ++ w :: l.dropWhile (fun v => decide (w.prio ≤ v.prio))

/-- A wait without its time-out. -/
def Rp.disarm : Rp → Rp
  | .out w _ a => .out w 0 a
  | r => r
def RegSet.disarm (r : RegSet) : RegSet :=
  { r with rp0 := r.rp0.disarm, rp1 := r.rp1.disarm, rp2 := r.rp2.disarm, rp3 := r.rp3.disarm }
def TState.disarm : TState → TState
  | .waiting mask _ a => .waiting mask 0 a
  | st => st

/-- A thread has one time-out timer: a wait that takes it leaves the thread's other waits without (log entry 50). R141. -/
def State.takeTimer (s : State) (t : Nat) : State :=
  let x := s.thread t
  s.setThread t { x with
    set0 := x.set0.disarm, set1 := x.set1.disarm, st := x.st.disarm, saved := x.saved.map fun v => { v with st := v.st.disarm } }

/-- The requester's register becomes a wait, with its time-out. R141, R274. -/
def State.startWait (s : State) (q : Rq) (w : WaitOn) (n : Nat) : State :=
  (s.when (decide (n ≠ 0)) (·.takeTimer q.tid)).setRp q.tid q.second q.rp (.out w n s.usStrobe)

/-- The requester of a waiter. -/
def Waiter.rq (w : Waiter) : Rq := ⟨w.tid, w.second, w.rp⟩

/-! ### Locks (R276 to R280) -/

def State.lock (s : State) (l : Nat) : Lock := tget Lock.zero s.rdv.locks l
def State.setLock (s : State) (l : Nat) (x : Lock) : State :=
  { s with rdv := { s.rdv with locks := tset Lock.zero s.rdv.locks l x } }

/-- Group g is admitted to a requester. R277. -/
def State.lockRight (s : State) (t g : Nat) : Bool :=
  isPilotThread t || decide (bit (s.rd (K.lockrLockRights (if t < 512 then s.lower (t / 8) else coreOf t))) g = 1)

/-- A lock granted to a requester: ABANDONED while the flag is set. R278, R280. -/
def State.grantLock (s : State) (l : Nat) (q : Rq) : State :=
  let x := s.lock l
  let s := (s.setLock l { x with holder := some (.requester q.tid q.second) }).bump K.ctrRdvLockGrants
  if x.abandoned then (s.bump K.ctrRdvAbandonedGrants).rdvReply q rvAbandoned else s.rdvReply q rvOk

/-- A lock let go: it goes to the head waiter, or becomes FREE. R278. -/
def State.freeLock (s : State) (l : Nat) : State :=
  let x := s.lock l
  match x.waiters with
  | [] => s.setLock l { x with holder := none }
  | w :: r => (s.setLock l { x with waiters := r }).grantLock l w.rq

/-- A lock freed and marked abandoned; `who` names its former holder. R280. -/
def State.abandonLock (s : State) (l who : Nat) : State :=
  let s := s.setLock l { s.lock l with abandoned := true }
  ((s.bump K.ctrRdvAbandonments).almanac 17 0x0C02 4 [(2, l), (4, who)]).freeLock l

/-- The locks a holder has. -/
def State.locksOf (s : State) (h : Holder) : List Nat := (s.rdv.locks.filter fun kl => kl.2.holder = some h).map (·.1)

/-- LOCK and TRYLOCK. R276 to R278. -/
def State.rdvLock (s : State) (q : Rq) (l : Nat) (try_ : Bool) (n : Nat) : State :=
  if 4096 ≤ l then s.rdvReply q rvBadId
  else if !s.lockRight q.tid (l / 256) then (s.bump K.ctrRdvNoRight).rdvReply q rvNoRight
  else
    let x := s.lock l
    match x.holder with
    | none => s.grantLock l q
    | some h =>
      if h = .requester q.tid true ∨ h = .requester q.tid false then (s.bump K.ctrRdvHeldBySelf).rdvReply q rvHeldBySelf
      else if try_ then (s.bump K.ctrRdvTryLockBusy).rdvReply q rvBusy
      else
        let w : Waiter := ⟨q.tid, q.second, q.rp, s.waitPrio q, [], 0⟩
        ((s.setLock l { x with waiters := joinByPrio w x.waiters }).bump K.ctrRdvLockQueued).startWait q (.lock l) n

/-- A requester holds a lock. R276. -/
def State.holds (s : State) (t l : Nat) : Bool :=
  decide ((s.lock l).holder = some (.requester t true)) || decide ((s.lock l).holder = some (.requester t false))

/-- UNLOCK. R279. -/
def State.rdvUnlock (s : State) (q : Rq) (l : Nat) : State :=
  if 4096 ≤ l then s.rdvReply q rvBadId
  else if !s.lockRight q.tid (l / 256) then (s.bump K.ctrRdvNoRight).rdvReply q rvNoRight
  else if s.holds q.tid l then (s.freeLock l).rdvReply q rvOk
  else (s.bump K.ctrRdvNotHolder).rdvReply q rvNotHolder

/-- CLRABND. R280. -/
def State.rdvClrAbnd (s : State) (q : Rq) (l : Nat) : State :=
  if 4096 ≤ l then s.rdvReply q rvBadId
  else if !s.lockRight q.tid (l / 256) then (s.bump K.ctrRdvNoRight).rdvReply q rvNoRight
  else if s.holds q.tid l then (s.setLock l { s.lock l with abandoned := false }).rdvReply q rvOk
  else (s.bump K.ctrRdvNotHolder).rdvReply q rvNotHolder

/-! ### Semaphores (R281, R282) -/

def semCfgDefault : BitVec 32 := 0xFFFF0000#32
def chanCfgDefault : BitVec 32 := 0x80#32
def eventCfgDefault : BitVec 32 := 4#32

def State.sem (s : State) (n : Nat) : Sem := tget Sem.zero s.rdv.sems n
def State.setSem (s : State) (n : Nat) (x : Sem) : State :=
  { s with rdv := { s.rdv with sems := tset Sem.zero s.rdv.sems n x } }

/-- MaxCount in force. R299. -/
def State.semMax (s : State) (n : Nat) : Nat := bits (tget semCfgDefault s.rdv.live.sems n).toNat 31 16

/-- SEMWAIT. R281. -/
def State.rdvSemWait (s : State) (q : Rq) (n time : Nat) : State :=
  if 1024 ≤ n then s.rdvReply q rvBadId
  else
    let x := s.sem n
    if 0 < x.count then
      ((s.setSem n { x with count := x.count - 1 }).bump K.ctrRdvSemTakes).rdvReply q rvOk (BitVec.ofNat 32 (x.count - 1))
    else
      let w : Waiter := ⟨q.tid, q.second, q.rp, s.waitPrio q, [], 0⟩
      ((s.setSem n { x with waiters := joinByPrio w x.waiters }).bump K.ctrRdvSemQueued).startWait q (.sem n) time

/-- Waiters at the head completed, one unit each. -/
def State.feedSem (s : State) (n : Nat) : Nat → List Waiter → Nat × State
  | 0, ws => (0, s.setSem n { s.sem n with waiters := ws })
  | k, [] => (k, s.setSem n { s.sem n with waiters := [] })
  | k + 1, w :: ws => ((s.rdvReply w.rq rvOk).bump K.ctrRdvSemTakes).feedSem n k ws

/-- A count added to a semaphore; true: it saturated. R282. -/
def State.semAdd (s : State) (n k : Nat) : Bool × State :=
  let r := s.feedSem n k (s.sem n).waiters
  let x := r.2.sem n
  let c := x.count + r.1
  if s.semMax n < c then (true, (r.2.setSem n { x with count := s.semMax n }).bump K.ctrRdvSemSaturated)
  else (false, r.2.setSem n { x with count := c })

/-- SEMSIG. R275, R282. -/
def State.rdvSemSig (s : State) (q : Rq) (n k : Nat) : State :=
  if 1024 ≤ n then s.rdvReply q rvBadId
  else if k = 0 then s.rdvReply q rvBadOperand
  else
    let r := s.semAdd n k
    r.2.rdvReply q (if r.1 then rvSemSaturated else rvOk) (BitVec.ofNat 32 (r.2.sem n).count)

/-! ### Atomic memory (R283 to R286) -/

/-- An uncorrectable error met on an atomic-memory doubleword. R286. -/
def State.atomicError (s : State) (w : Nat) : State :=
  let s := s.bump K.ctrRdvAtomicEccErrors
  if w ∈ s.rdv.toldAtomic then s
  else ({ s with rdv := { s.rdv with toldAtomic := w :: s.rdv.toldAtomic } } : State).almanac 17 0x0C03 4 [(4, w)]

/-- A doubleword replaced, clearing any error. R285, R286. -/
def State.putAtomic (s : State) (w : Nat) (v : BitVec 64) : State :=
  let s := { s with rdv := { s.rdv with badAtomic := s.rdv.badAtomic.filter (· ≠ w), fixAtomic := s.rdv.fixAtomic.filter (· ≠ w),
                                        toldAtomic := s.rdv.toldAtomic.filter (· ≠ w) } }
  s.storeBytes .atomic (8 * w) (toLE 8 v.toNat)

/-- A correctable error of a doubleword that is read is corrected in place and counted. R286. -/
def State.correctAtomic (s : State) (w : Nat) : State :=
  if w ∈ s.rdv.fixAtomic then
    ({ s with rdv := { s.rdv with fixAtomic := s.rdv.fixAtomic.filter (· ≠ w) } } : State).corrected K.ctrRdvAtomicEccCorrected 1
  else s

/-- The value of a doubleword. -/
def State.atomicWord (s : State) (w : Nat) : BitVec 64 := BitVec.ofNat 64 (ofLE (s.loadBytes .atomic (8 * w) 8))

/-- AFADD, ACAS and ASWP on a 32-bit word: the value stored is a function of the old one. R283, R286. -/
def State.rdvAtomic (s : State) (q : Rq) (addr : Nat) (f : Word → Option Word) : State :=
  let off := addr % 65536
  let s := s.bump K.ctrRdvAtomicOps
  if off / 8 ∈ s.rdv.badAtomic then (s.atomicError (off / 8)).rdvReply q rvEccError
  else
    let s := s.correctAtomic (off / 8)
    let old := BitVec.ofNat 32 (ofLE (s.loadBytes .atomic off 4))
    let s := match f old with
      | some v => s.storeBytes .atomic off (toLE 4 v.toNat)
      | none => s
    s.rdvReply q rvOk old

/-- A thread's store to atomic memory. R284, R286. -/
def State.atomicStore (s : State) (t off : Nat) (data : List Byte) : State :=
  let w := off / 8
  if data.length = 8 then s.putAtomic w (BitVec.ofNat 64 (ofLE data))
  else if w ∈ s.rdv.badAtomic then
    ((s.atomicError w).bump K.ctrRdvAtomicStoreDiscards).almanac 17 0x0C05 4 [(4, w), (2, t)]
  else (s.correctAtomic w).storeBytes .atomic off data

/-- A thread's load of atomic memory: its bytes, and the doubleword in error it met. R284, R286. -/
def State.atomicLoad (s : State) (off n : Nat) : List Byte × Option Nat × State :=
  let w := off / 8
  if w ∈ s.rdv.badAtomic then (s.loadBytes .atomic off n, some w, s.atomicError w)
  else (s.loadBytes .atomic off n, none, s.correctAtomic w)

/-- A commit action on an atomic word: true when it failed with ECC_ERROR. R155, R286. -/
def State.atomicCommit (s : State) (w : Nat) (f : BitVec 64 → BitVec 64) : Bool × State :=
  let s := s.bump K.ctrRdvAtomicOps
  if w ∈ s.rdv.badAtomic then (true, s.atomicError w)
  else (false, (s.correctAtomic w).putAtomic w (f (s.atomicWord w)))

/-! ### Channels (R287 to R290, R293, R294) -/

def State.rdvChan (s : State) (c : Nat) : Chan := tget Chan.zero s.rdv.chans c
def State.setRdvChan (s : State) (c : Nat) (x : Chan) : State :=
  { s with rdv := { s.rdv with chans := tset Chan.zero s.rdv.chans c x } }

def State.chanDepth (s : State) (c : Nat) : Nat := bits (tget chanCfgDefault s.rdv.live.chans c).toNat 6 0
def State.chanOpen (s : State) (c : Nat) : Bool := (tget chanCfgDefault s.rdv.live.chans c).getLsbD 7
def State.eventOpen (s : State) (e : Nat) : Bool := (tget eventCfgDefault s.rdv.live.events e).getLsbD 2
def State.autoClear (s : State) (e : Nat) : Bool := (tget eventCfgDefault s.rdv.live.events e).getLsbD 1

/-- A requester is a member of channel group g. R293. -/
def State.member (s : State) (g t : Nat) : Bool := (tget 0#576 s.rdv.live.groups g).getLsbD t

/-- A message that becomes visible: delivered, queued, or neither. R289. -/
def State.placeMsg (s : State) (c : Nat) (words : List Word) : Option State :=
  let x := s.rdvChan c
  match x.receivers with
  | w :: r => some ((((s.setRdvChan c { x with receivers := r }).bump K.ctrRdvChSent).bump K.ctrRdvChReceived).rdvReply w.rq rvOk
      (BitVec.ofNat 32 words.length) words w.buf)
  | [] =>
    if x.msgs.length < s.chanDepth c then some ((s.setRdvChan c { x with msgs := x.msgs ++ [words] }).bump K.ctrRdvChSent)
    else none

/-- CHSEND. R289, R294. -/
def State.rdvSend (s : State) (q : Rq) (c : Nat) (words : List Word) (time : Nat) : State :=
  if 1024 ≤ c then s.rdvReply q rvBadId
  else if !s.chanOpen c && !s.member (c / 64) q.tid then (s.bump K.ctrRdvNoRight).rdvReply q rvNoRight
  else match s.placeMsg c words with
    | some s => s.rdvReply q rvOk
    | none =>
      let x := s.rdvChan c
      let w : Waiter := ⟨q.tid, q.second, q.rp, s.waitPrio q, words, 0⟩
      ((s.setRdvChan c { x with senders := joinByPrio w x.senders }).bump K.ctrRdvChSenderQueued).startWait q (.send c) time

/-- CHRECV into a buffer. R290, R294. -/
def State.rdvRecv (s : State) (q : Rq) (c buf time : Nat) : State :=
  if 1024 ≤ c then s.rdvReply q rvBadId
  else if !s.chanOpen c && !s.member (c / 64) q.tid then (s.bump K.ctrRdvNoRight).rdvReply q rvNoRight
  else
    let x := s.rdvChan c
    match x.msgs, x.senders with
    | m :: ms, [] =>
      ((s.setRdvChan c { x with msgs := ms }).bump K.ctrRdvChReceived).rdvReply q rvOk (BitVec.ofNat 32 m.length) m buf
    | m :: ms, w :: ws =>
      let s := (((s.setRdvChan c { x with msgs := ms ++ [w.words], senders := ws }).bump K.ctrRdvChReceived).bump
        K.ctrRdvChSent).rdvReply w.rq rvOk
      s.rdvReply q rvOk (BitVec.ofNat 32 m.length) m buf
    | [], w :: ws =>
      let s := (((s.setRdvChan c { x with senders := ws }).bump K.ctrRdvChReceived).bump K.ctrRdvChSent).rdvReply w.rq rvOk
      s.rdvReply q rvOk (BitVec.ofNat 32 w.words.length) w.words buf
    | [], [] =>
      let w : Waiter := ⟨q.tid, q.second, q.rp, s.waitPrio q, [], buf⟩
      (s.setRdvChan c { x with receivers := joinByPrio w x.receivers }).startWait q (.recv c) time

/-! ### Event bits (R291, R292) -/

def State.evbit (s : State) (e : Nat) : EvBit := tget EvBit.zero s.rdv.events e
def State.setEvbit (s : State) (e : Nat) (x : EvBit) : State :=
  { s with rdv := { s.rdv with events := tset EvBit.zero s.rdv.events e x } }

/-- Subscribers of an event bit are sent a wake-up, which sets WFE pending bit 5. R292. -/
def State.signalSubs (s : State) (e : Nat) : State :=
  (s.rdv.subs.filter fun kl => e ∈ kl.2).foldl (fun s kl => s.sendFromDx (kl.1 / 2) (.signal (decide (kl.1 % 2 = 1)))) s

/-- An event bit is set. R291, R292. -/
def State.evSet (s : State) (e : Nat) : State :=
  let x := s.evbit e
  let s := s.bump K.ctrRdvEvSets
  let s :=
    if s.autoClear e then match x.waiters with
      | w :: r => (s.setEvbit e ⟨false, r⟩).rdvReply w.rq rvOk
      | [] => s.setEvbit e ⟨true, []⟩
    else x.waiters.foldl (fun s w => s.rdvReply w.rq rvOk) (s.setEvbit e ⟨true, []⟩)
  s.signalSubs e

/-- The checks every event-bit request passes first; EVUNSUB is not among those of R294. R275, R294. -/
def State.eventRefusal (s : State) (q : Rq) (e : Nat) (closedToo : Bool) : Option State :=
  if 1024 ≤ e then some (s.rdvReply q rvBadId)
  else if closedToo && !s.eventOpen e && !s.member (e / 64) q.tid then some ((s.bump K.ctrRdvNoRight).rdvReply q rvNoRight)
  else none

def State.rdvEvSet (s : State) (q : Rq) (e : Nat) : State :=
  (s.eventRefusal q e true).getD ((s.evSet e).rdvReply q rvOk)
def State.rdvEvClr (s : State) (q : Rq) (e : Nat) : State :=
  (s.eventRefusal q e true).getD ((s.setEvbit e { s.evbit e with value := false }).rdvReply q rvOk)

/-- EVWAIT. R291. -/
def State.rdvEvWait (s : State) (q : Rq) (e time : Nat) : State :=
  (s.eventRefusal q e true).getD (
    let x := s.evbit e
    if x.value then (s.setEvbit e { x with value := !s.autoClear e }).rdvReply q rvOk
    else
      let w : Waiter := ⟨q.tid, q.second, q.rp, s.waitPrio q, [], 0⟩
      (s.setEvbit e { x with waiters := joinByPrio w x.waiters }).startWait q (.event e) time)

/-- The event bits an item has subscribed. R292. -/
def State.subsOf (s : State) (t : Nat) (second : Bool) : List Nat := tget [] s.rdv.subs (2 * t + b2n second)
def State.setSubs (s : State) (t : Nat) (second : Bool) (l : List Nat) : State :=
  { s with rdv := { s.rdv with subs := tset [] s.rdv.subs (2 * t + b2n second) l } }

def State.rdvEvSub (s : State) (q : Rq) (e : Nat) : State :=
  (s.eventRefusal q e true).getD (
    let l := s.subsOf q.tid q.second
    let all := l ++ (s.subsOf q.tid !q.second).filter (· ∉ l)
    if e ∈ l then s.rdvReply q rvOk
    else if 8 ≤ all.length ∧ e ∉ all then s.rdvReply q rvSubFull
    else (s.setSubs q.tid q.second (l ++ [e])).rdvReply q rvOk)
def State.rdvEvUnsub (s : State) (q : Rq) (e : Nat) : State :=
  (s.eventRefusal q e false).getD
    ((s.setSubs q.tid q.second ((s.subsOf q.tid q.second).filter (· ≠ e))).rdvReply q rvOk)

/-! ### Waits that end otherwise (R142, R199) -/

/-- A waiter of one reply register taken from a queue. -/
def without (q : Rq) (l : List Waiter) : List Waiter := l.filter fun w => w.rq ≠ q

/-- A wait leaves its object's queue and consumes nothing. R142, R296. -/
def State.leaveQueue (s : State) (q : Rq) (w : WaitOn) : State :=
  match w with
  | .lock l => s.setLock l { s.lock l with waiters := without q (s.lock l).waiters }
  | .sem n => s.setSem n { s.sem n with waiters := without q (s.sem n).waiters }
  | .send c => s.setRdvChan c { s.rdvChan c with senders := without q (s.rdvChan c).senders }
  | .recv c => s.setRdvChan c { s.rdvChan c with receivers := without q (s.rdvChan c).receivers }
  | .event e => s.setEvbit e { s.evbit e with waiters := without q (s.evbit e).waiters }
  | .post => s
  | .dma _ => s
  | .request => s

/-- One reply register's request cancelled. R165, R199. -/
def State.cancelRp (s : State) (t : Nat) (second : Bool) (m : Nat) : State :=
  let s := match s.rp t second m with
    | .out w _ _ => s.leaveQueue ⟨t, second, m⟩ w
    | .flying _ _ _ => s.takeFromDx t (.reply second m)
    | _ => s
  s.setRp t second m .empty

/-- Every request of a register set cancelled and its reply registers emptied. -/
def State.cancelSet (s : State) (t : Nat) (second : Bool) : State :=
  (List.range 4).foldl (fun s m => s.cancelRp t second m) s

/-- The locks a thread's items hold are abandoned. R280. -/
def State.abandonAll (s : State) (t : Nat) : State :=
  (s.locksOf (.requester t false) ++ s.locksOf (.requester t true)).foldl (fun s l => s.abandonLock l t) s

/-- WAIT_TIMEOUT: the time-out of a wait fires at its (N + 1)th microsecond strobe; `m` names a reply register, or none the
wait of a WFE. R141, R142. -/
def execWaitTimeout (t : Fin 580) (second : Bool) (m : Option (Fin 2)) (s : State) : Host.Outcome State Fault Refusal :=
  let count (s : State) : State :=
    (s.bump K.ctrDispWaitTimeouts).when (isPacketThread t.val) (·.bump (K.ctrDcoreWaitTimeouts (t.val / 8)))
  match m with
  | some m => match s.rp t.val second m.val with
    | .out w n a =>
      if n ≠ 0 ∧ a + n + 1 ≤ s.usStrobe then
        .next (count ((s.leaveQueue ⟨t.val, second, m.val⟩ w).reply_ t.val second m.val 1 0 wsTimeout 0#32))
      else .next s
    | _ => .next s
  | none => match (s.thread t.val).st with
    | .waiting _ n a =>
      if n ≠ 0 ∧ a + n + 1 ≤ s.usStrobe ∧ second = (s.thread t.val).second then .next (count (s.endWfe t.val 0#7))
      else .next s
    | _ => .next s

/-! ### Quiescence (R293 to R296) -/

/-- A wait is dead for group g. R295. -/
def State.deadWait (s : State) (g : Nat) (w : WaitOn) : Bool :=
  match w with
  | .send c => decide (c / 64 = g) && !s.chanOpen c
  | .recv c => decide (c / 64 = g) && !s.chanOpen c
  | .event e => decide (e / 64 = g) && !s.eventOpen e
  | _ => false

/-- Reply register m of a set has a dead wait outstanding. -/
def State.deadRp (s : State) (g t : Nat) (second : Bool) (m : Nat) : Bool :=
  match s.rp t second m with
  | .out w _ _ => s.deadWait g w
  | _ => false

/-- A member is dead-blocked. R295. -/
def State.deadBlocked (s : State) (g t : Nat) : Bool :=
  let x := s.thread t
  x.item.isSome && (match x.st with
    | .blocked (.reply m) => s.deadRp g t x.second m
    | .blocked (.busy m) => s.deadRp g t x.second m
    | .waiting mask _ _ =>
      !mask.getLsbD 4 && !mask.getLsbD 6
        && (List.range 4).all (fun m => !mask.getLsbD m || s.deadRp g t x.second m)
        && (!mask.getLsbD 5 || (s.subsOf t x.second).all (fun e => decide (e / 64 = g) && !s.eventOpen e))
    | _ => false)

/-- The members of a group. R293. -/
def State.members (s : State) (g : Nat) : List Nat := (List.range 576).filter (s.member g)

/-- A posted action targets an object of group g. R155, R295. -/
def targetsGroup (g : Nat) (a : BitVec 128) : Bool :=
  let op := bits a.toNat 127 120
  (decide (op = 3) || decide (op = 6)) && decide (bits a.toNat 105 96 / 64 = g)

/-- PendingCommits of a group. R295. -/
def State.pendingCommits (s : State) (g : Nat) : Nat :=
  (s.oru.journal.map fun kj => (kj.2.actions.filter (targetsGroup g)).length).foldl (· + ·) 0

/-- The group is quiescent. R295. -/
def State.quiescent (s : State) (g : Nat) : Bool :=
  s.on K.rdvQuiescenceEnable && !(s.members g).isEmpty && (s.members g).all (s.deadBlocked g)
    && decide (s.pendingCommits g = 0)

/-- A member has a dead wait that a STALLED wake completes. R296. -/
def State.woken (s : State) (g t : Nat) : Bool :=
  s.deadRp g t false 0 || s.deadRp g t false 1 || s.deadRp g t true 0 || s.deadRp g t true 1

/-- Every dead wait of a member completes STALLED. R296. -/
def State.stallMember (s : State) (g t : Nat) : State :=
  [(false, 0), (false, 1), (true, 0), (true, 1)].foldl (fun s bm =>
    match s.rp t bm.1 bm.2 with
    | .out w _ _ => if s.deadWait g w then (s.leaveQueue ⟨t, bm.1, bm.2⟩ w).reply_ t bm.1 bm.2 1 0 wsStalled 0#32 else s
    | _ => s) s

/-- QUIESCENCE_WAKE: the detector acts after 1,024 consecutive quiescent cycles of a group. R296. -/
def execQuiescenceWake (g : Fin 16) (s : State) : Host.Outcome State Fault Refusal :=
  if s.quiescent g.val then
    let ms := s.members g.val
    let n := (ms.filter (s.woken g.val)).length
    let s := ms.foldl (fun s t => s.stallMember g.val t) s
    .next (((s.bump K.ctrRdvStalls).bump K.ctrRdvStalledWakes n).almanac 17 0x0C01 5 [(1, g.val), (2, n)])
  else .next s

/-! ### Configuration (R285, R299) -/

/-- RENDEZVOUS_CONFIG_WRITE: a configuration word or a group bitmap, in force at the next reset. R299, R471. -/
def execRendezvousConfigWrite (w : RdvConfigImage) (s : State) : Host.Outcome State Fault Refusal :=
  let r := s.rdv
  let put (c : RdvCfg) : State := (({ s with rdv := { r with cfg := c } } : State).bump K.cmtStagedWrites).status 0
  .next (match w with
    | .sem n v =>
      if bits v.toNat 31 16 = 0 ∨ bits v.toNat 31 16 < bits v.toNat 15 0 then s.status opRefused
      else put { r.cfg with sems := tset semCfgDefault r.cfg.sems n.val v }
    | .chan n v =>
      if bits v.toNat 31 8 ≠ 0 ∨ 64 < bits v.toNat 6 0 then s.status opRefused
      else put { r.cfg with chans := tset chanCfgDefault r.cfg.chans n.val v }
    | .event n v =>
      if bits v.toNat 31 3 ≠ 0 then s.status opRefused
      else put { r.cfg with events := tset eventCfgDefault r.cfg.events n.val v }
    | .group g v => put { r.cfg with groups := tset 0#576 r.cfg.groups g.val v })

/-- ATOMIC_MEMORY_WRITE: the Pilot replaces a doubleword. R285. -/
def execAtomicMemoryWrite (w : Fin 8192) (v : BitVec 64) (s : State) : Host.Outcome State Fault Refusal :=
  .next ((s.putAtomic w.val v).status 0)

end Sys2Proof.Machine
end

