-- ==== Sys2Proof/Machine/Journal.lean ====
section
/-! DEFINITION. The journal (07_ordering_replay.md, R149 to R153, R162): entries, head tickets, the queue of releasable packets,
FAILED entries and the window cell. -/

namespace Sys2Proof.Machine

def State.jentry (s : State) (j : Nat) : JEntry := tget JEntry.zero s.oru.journal j
def State.setJentry (s : State) (j : Nat) (e : JEntry) : State :=
  { s with oru := { s.oru with journal := tset JEntry.zero s.oru.journal j e } }

/-- JournalInUse and JournalPeak follow the entries in use. R173. -/
def State.journalGauge (s : State) : State :=
  let n := s.oru.journal.length
  (s.wr K.oruJournalInUse n).when (decide (s.rd K.oruJournalPeak < n)) (·.wr K.oruJournalPeak n)

/-- The first free journal entry cyclically after an index, searching `fuel` entries. -/
def State.findJournal (s : State) : Nat → Nat → Option Nat
  | 0, _ => none
  | f + 1, j => if s.jentry (j % 4096) = JEntry.zero then some (j % 4096) else s.findJournal f (j + 1)

/-- HeadTicket of a domain. R149. -/
def State.headTicket (s : State) (d : Nat) : Nat := tget 0 s.oru.head d

/-- A packet joins the releasable queue when it is ENDED or FAILED, its ticket is its domain's HeadTicket and its window cell is
not being written. R156, R162. -/
def State.noteReady (s : State) (j : Nat) : State :=
  let e := s.jentry j
  if (e.st = .ended ∨ e.st = .failed) ∧ !e.copying ∧ e.desc.ticket.toNat = s.headTicket e.desc.orderDomain.toNat
      ∧ j ∉ s.oru.ready then
    { s with oru := { s.oru with ready := s.oru.ready ++ [j] } }
  else s

/-- The locks a journal entry holds are abandoned. R280. -/
def State.abandonJournal (s : State) (j : Nat) : State :=
  (s.locksOf (.journal j)).foldl (fun s l => s.abandonLock l (0x8000 + j)) s

/-- A packet becomes FAILED, with an empty commit list. R153. -/
def State.failEntry (s : State) (j : Nat) : State :=
  ((s.setJentry j { s.jentry j with st := .failed, copying := false, noCell := false, actions := [], payload := [] }).abandonJournal
    j).noteReady j

/-- The window cell of an ending packet is written from the thread's window, or the packet becomes FAILED for want of a cell; its locks
are settled first, when its end is sampled. R159, R162. -/
def State.finishWindow (s : State) (t j : Nat) : State :=
  let e := s.jentry j
  match s.addWindowCell e.desc.firstCell.toNat (s.thread t).window with
  | some (w, s) => (s.setJentry j { e with windowCell := w, copying := false }).noteReady j
  | none =>
    let s := (s.bump K.ctrOruWindowCellFail).bump (K.ctrPoolWindowCellFails (s.cell e.desc.firstCell.toNat).pool)
    if e.st = .ended then s.failEntry j else s.setJentry j { e with copying := false, noCell := true }

end Sys2Proof.Machine
end

