-- ==== Sys2Proof/Machine/HelperOps.lean ====
section
/-! DEFINITION. What a helper operation does to memory (11_helpers.md, R253, R254, R262, R264): the helper registers, address
operands, source reads with the errors they meet, destination writes, and an executing operation that is stopped. An operation
reads its source and writes its destination at the instant it completes (log entry 33). -/

namespace Sys2Proof.Machine

/-- Statuses. R258. -/
def hsOk : Nat := 0
def hsMiss : Nat := 1
def hsAuthFail : Nat := 2
def hsNoKey : Nat := 3
def hsBadOperand : Nat := 4
def hsOutOfRange : Nat := 5
def hsEcc : Nat := 6
def hsTable : Nat := 7

/-- The key of helper register cN.x in a bank. R253. -/
def hkey (bank n x : Nat) : Nat := 256 * bank + 64 * n + x

/-- A helper register. R253. -/
def Thread.hreg (x : Thread) (k : Nat) : Word := tget 0#32 x.hregs k

/-- A helper register written; it holds no error any more. R253. -/
def Thread.setHreg (x : Thread) (k : Nat) (v : Word) : Thread :=
  { x with hregs := tset 0#32 x.hregs k v, hbad := x.hbad.filter (· ≠ k), hfix := x.hfix.filter (· ≠ k) }

/-- A latched operand. -/
def HOp.reg (o : HOp) (x : Nat) : Nat := (tget 0#32 o.regs x).toNat

/-- Latched registers x to x + n - 1 as a byte string, packed little-endian. R262. -/
def HOp.bytes (o : HOp) (x n : Nat) : List Byte := (List.range n).flatMap fun i => toLE 4 (o.reg (x + i))

/-- The descriptor of the packet an operation's item holds. R254, R260. -/
def State.opDesc (s : State) (o : HOp) : Option Desc :=
  let x := s.thread o.tid
  let i := if o.bank = 0 then (match x.saved with
    | some v => some v.item
    | none => x.item) else x.item
  match i with
  | some i => if i.kind = .packet ∨ i.kind = .replay then x.desc else none
  | none => none

/-- Bytes of a window size. R75. -/
def State.opWindow (s : State) (o : HOp) : Nat := match s.opDesc o with
  | some _ => (s.thread o.tid).window.length
  | none => 0

/-- What a space holds. R254. -/
def State.opLimit (s : State) (o : HOp) (space : Nat) : Nat :=
  if space = 0 then 0xF800 else if space = 1 then s.opWindow o else if space = 2 then 0x40000
  else match s.opDesc o with
    | some d => d.frameLength.toNat
    | none => 0

/-- The space and the offset of an address operand. -/
def addrSpace (a : Nat) : Nat := bits a 31 29
def addrOff (a : Nat) : Nat := a % 2 ^ 18

/-- The status of an address operand of `n` bytes: a reserved space or bit, or a packet destination, comes before the range. R254. -/
def State.addrStatus (s : State) (o : HOp) (a n : Nat) (dst : Bool) : Nat :=
  if 3 < addrSpace a ∨ bits a 28 18 ≠ 0 ∨ (dst = true ∧ addrSpace a = 3) then hsBadOperand
  else if n ≠ 0 ∧ s.opLimit o (addrSpace a) < addrOff a + n then hsOutOfRange
  else hsOk

/-- The first status that is not OK. -/
def firstBad (l : List Nat) : Nat := (l.find? (· ≠ hsOk)).getD hsOk

/-- Bytes stored on chip; the words they replace whole hold no error any more. R177. -/
def State.storeClean (s : State) (sp : Space) (off : Nat) (bs : List Byte) : State :=
  let k := memKey sp off
  let left (l : List Nat) : List Nat := l.filter fun w => !(decide (k ≤ w) && decide (w + 4 ≤ k + bs.length))
  { s.storeBytes sp off bs with cores := { s.cores with bad := left s.cores.bad, fix := left s.cores.fix } }

/-- The cores whose data RAMs hold the data of a core: itself, and in a lockstep pair both, with identical contents. R195. -/
def State.ramCopies (s : State) (c : Nat) : List Nat := if s.lockstep c then [c - c % 2, c - c % 2 + 1] else [c]

/-- Bytes stored in the data RAM of a core, in both RAMs of a lockstep pair. R195. -/
def State.storeCore (s : State) (c a : Nat) (bs : List Byte) : State :=
  (s.ramCopies c).foldl (fun s c => s.storeClean .coreData (65536 * c + a) bs) s

/-- Bytes stored in a thread's data RAM. R195, R208, R357. -/
def State.storeRam (s : State) (t a : Nat) (bs : List Byte) : State :=
  if t < 512 then s.storeCore (t / 8) a bs else s.storeClean (ramBase t).1 ((ramBase t).2 + a) bs

/-- The word of bytes `off` to `off + n - 1` of a header window that holds an uncorrectable error. R177. -/
def Thread.windowBad (x : Thread) (off n : Nat) : Option Nat := x.wbad.find? fun w => decide (4 * w < off + n) && decide (off < 4 * w + 4)

/-- The same of a store, which meets an error only in a word that it replaces in part. R177. -/
def Thread.windowMerge (x : Thread) (off n : Nat) (whole : Bool) : Option Nat :=
  x.wbad.find? fun w => decide (4 * w < off + n) && decide (off < 4 * w + 4)
    && !(whole && decide (off ≤ 4 * w) && decide (4 * w + 4 ≤ off + n))

/-- Bytes put into a header window; the words they replace whole hold no error any more. R177, R191. -/
def Thread.windowPut (x : Thread) (off : Nat) (bs : List Byte) : Thread :=
  let left (l : List Nat) : List Nat := l.filter fun w => !(decide (off ≤ 4 * w) && decide (4 * w + 4 ≤ off + bs.length))
  { x with window := patch x.window off bs, wbad := left x.wbad, wfix := left x.wfix }

/-- A cell whose data cannot be read: in error, or lost behind a bad link entry. R304. -/
def State.cellUnread (s : State) (c : Nat) : Bool := decide (c = noCell) || decide (c ∈ s.orch.badData)

/-- Where a source span first meets an uncorrectable error, counted from its start. An empty span meets none. R177, R258, R304. -/
def State.srcError (s : State) (o : HOp) (a n : Nat) : Option Nat :=
  let off := addrOff a
  if n = 0 then none else
  let word (k : Nat) : Option Nat :=
    (s.cores.bad.filter fun w => decide (w < k + n) && decide (k < w + 4)).foldl (fun m w => match m with
      | none => some (w - k)
      | some v => some (min v (w - k))) none
  if addrSpace a = 0 then (s.ramCopies (o.tid / 8)).findSome? fun c => word (memKey .coreData (65536 * c + off))
  else if addrSpace a = 1 then ((s.thread o.tid).windowBad off n).map fun w => 4 * w - off
  else if addrSpace a = 2 then word (memKey .shared (262144 * clusterOf o.tid + off))
  else if addrSpace a = 3 then match s.opDesc o with
    | some d => (List.range n).find? fun i => s.cellUnread ((s.chain d.firstCell.toNat).getD ((off + i) / 256) noCell)
    | none => none
  else none

/-- `n` bytes of a source. R254. -/
def State.srcBytes (s : State) (o : HOp) (a n : Nat) : List Byte :=
  let off := addrOff a
  if addrSpace a = 0 then s.loadBytes .coreData (65536 * (o.tid / 8) + off) n
  else if addrSpace a = 1 then slice (s.thread o.tid).window off n
  else if addrSpace a = 2 then s.loadBytes .shared (262144 * clusterOf o.tid + off) n
  else match s.opDesc o with
    | some d => slice (s.frameBytes d.firstCell.toNat d.frameLength.toNat) off n
    | none => []

/-- Bytes written to a destination. R254. -/
def State.dstWrite (s : State) (o : HOp) (a : Nat) (bs : List Byte) : State :=
  let off := addrOff a
  if addrSpace a = 0 then s.storeRam o.tid off bs
  else if addrSpace a = 1 then
    s.setThread o.tid ((s.thread o.tid).windowPut off bs)
  else s.storeClean .shared (262144 * clusterOf o.tid + off) bs

/-- The cluster key slot an operation names. R264. -/
def State.keySlot (s : State) (n slot : Nat) : KeySlot := tget KeySlot.zero s.cores.keys (16 * n + slot)

/-- An operation that writes a destination: GCM_ENC or GCM_DEC. -/
def HOp.gcm (o : HOp) : Bool := decide (o.helper = 0) && (decide (o.fn = 1) || decide (o.fn = 2))

/-- The statuses of a GCM operation's operands. R254, R262. -/
def State.gcmOperands (s : State) (o : HOp) : Nat :=
  firstBad [if 9216 < o.reg 2 ∨ 512 < o.reg 4 ∨ 15 < o.reg 5 ∨ (o.fn = 3 ∧ o.reg 2 ≠ 0) then hsBadOperand else hsOk,
    s.addrStatus o (o.reg 3) (o.reg 4) false,
    if o.fn = 3 then hsOk else s.addrStatus o (o.reg 0) (o.reg 2) false,
    if o.fn = 3 then hsOk else s.addrStatus o (o.reg 1) (o.reg 2) true]

/-- The destination bytes of a GCM operation over the first `n` input bytes. -/
def State.gcmText (s : State) (o : HOp) (n : Nat) : List Byte :=
  gcmCrypt (aesKeys o.key) (o.bytes 6 3) (s.srcBytes o (o.reg 0) n)

/-- An executing operation stops before its end: how many whole blocks it has written the manual leaves open. R259, R264. -/
def State.stopOp (s : State) (o : HOp) : State :=
  if o.started && o.gcm && decide (o.key ≠ []) && decide (s.gcmOperands o = hsOk) then
    let n := 16 * s.free (o.reg 2 / 16 + 1)
    let n := match s.srcError o (o.reg 0) (o.reg 2) with
      | some k => min n k
      | none => n
    (s.dstWrite o (o.reg 1) (s.gcmText o n)).tick
  else s

end Sys2Proof.Machine
end

