-- ==== Sys2Proof/Machine/Exceptions.lean ====
section
/-! DEFINITION. What ends or interrupts a thread's instruction stream (08, 09, 11, 15): thread reset (R199, R358), vectored
exceptions (R216 to R220), uncorrectable errors (R177), the end and resumption of work items (R133, R180), watchdogs,
lockstep mismatches and the arrival of replies. -/

namespace Sys2Proof.Machine

/-! ### Exception codes and causes (R216, R219) -/

def excAccess : Nat := 0x01
def excIllegal : Nat := 0x02
def excMisaligned : Nat := 0x03
def excDivide : Nat := 0x04
def excEcc : Nat := 0x05
def excWatchdog : Nat := 0x06
def excLockstep : Nat := 0x07
def excSyscall : Nat := 0x08
def excStalled : Nat := 0x09

def causeUnmapped : Nat := 0
def causeRights : Nat := 1
def causeReadOnly : Nat := 2
def causeWindow : Nat := 3
def causeCode : Nat := 4
def causeDictRefused : Nat := 5
def causeBitRegion : Nat := 6
def causeReservedBits : Nat := 7
def causeSize : Nat := 8
def causeFetch : Nat := 9

/-! ### Divider, helpers, loops let go -/

/-- The divider of a core frees: the HELD threads that wait for it become READY. R193. -/
def State.freeDivider (s : State) (c : Nat) : State :=
  let s := s.setCore c { s.core c with div := none }
  let f (t : Nat) (x : Thread) : Thread := if coreOf t = c ∧ x.st = .held .divider then { x with st := .ready } else x
  { s with cores := { s.cores with threads := tmap Thread.zero f s.cores.threads } }

/-- A divide of thread t is abandoned. R193. -/
def State.abandonDivide (s : State) (t : Nat) : State :=
  match (s.core (coreOf t)).div with
  | some d => if d.tid = t then (s.freeDivider (coreOf t)).bumpCore t K.ctrCoreDivideAbandoned else s
  | none => s

/-- The accepted helper operations of a thread's bank are cancelled: one that executes stops where it is. R259, R260. -/
def State.cancelOps (s : State) (t bank : Nat) : State :=
  let n := clusterOf t
  let l := tget [] s.cores.ops n
  let mine := l.filter fun o => decide (o.tid = t) && decide (o.bank = bank)
  let s := mine.foldl State.stopOp s
  let s := { s with cores := { s.cores with
    ops := tset [] s.cores.ops n (l.filter fun o => !(decide (o.tid = t) && decide (o.bank = bank))),
    clientQ := s.cores.clientQ.filter (· ≠ (t, bank)) } }
  let x := s.thread t
  let s := s.setThread t { x with hpend := x.hpend.filter fun k => decide (k / 256 ≠ bank) }
  if mine.isEmpty then s else s.bump (K.ctrHlpCancelled n) mine.length

/-- A core or its cluster is out of service. R502. -/
def State.coreOut (s : State) (c : Nat) : Bool :=
  decide (bit (s.rd K.sndOutOfServiceCores) c = 1) || decide (bit (s.rd K.sndOutOfServiceClusters) (c / 4) = 1)

/-! ### Work items (R180, R205) -/

/-- WITEM of an item on a thread. R205. -/
def State.witem (s : State) (t : Nat) (i : Item) : BitVec 32 :=
  let kind := match i.kind with
    | .packet => 0 | .replay => 1 | .timed => 2 | .posted => 3
  let replays := if kind < 2 then (tget JEntry.zero s.oru.journal i.journal).replayCount else 0
  BitVec.ofNat 32 ((if kind = 2 then i.list else 0) * 2 ^ 29 + s.classOf i.level * 2 ^ 26 + i.level * 2 ^ 23 + kind * 2 ^ 20
    + b2n (s.lockstep (t / 8)) * 2 ^ 18 + replays * 2 ^ 16 + t / 8 * 8 + t % 8)

/-- An item carries a packet. R126. -/
def Item.isPacket (i : Item) : Bool := decide (i.kind = .packet) || decide (i.kind = .replay)

/-- A TIMED item. -/
def Item.isTimed (i : Item) : Bool := decide (i.kind = .timed)

/-- The state of a thread at the first instruction of an item, in the set and bank in force; a packet's window is still to be
copied. Requests and helper operations left by the item before are cancelled (log entry 24). R180, R203, R253. -/
def State.startItem (s : State) (t : Nat) (g : Grant) : State :=
  let sec := (s.thread t).second
  let s := (s.cancelSet t sec).cancelOps t (b2n sec)
  let x := s.thread t
  let i := g.item
  let set : RegSet := { RegSet.zero with witem := s.witem t i, wtag := if i.isPacket then 0#32 else i.tag }
  let d := if i.isPacket then (s.jentry i.journal).desc else Desc.zero
  let s := s.traceItem t (bits set.witem.toNat 22 20) i.level d.ticket.toNat d.orderDomain.toNat
    (s.rd (K.thrEntryPoint (t / 8) (t % 8)))
  s.setThread t { (x.setSregs set) with
    regs := [], pc := s.rd (K.thrEntryPoint (t / 8) (t % 8)), tsw := 0#32, ev := 0#7, loops := [], item := some i,
    window := [], desc := none, st := if i.isPacket then .starting else .ready,
    wdFrom := g.strobe, wdLimit := g.limit, codeBank := s.activeBank (clusterOf t), seq := g.seq,
    hregs := x.hregs.filter fun kv => decide (kv.1 / 256 ≠ b2n sec),
    hbad := x.hbad.filter fun k => decide (k / 256 ≠ b2n sec), hfix := x.hfix.filter fun k => decide (k / 256 ≠ b2n sec),
    wbad := [], wfix := [] }

/-- A thread becomes IDLE, or stays out of service with its core. R179, R199. -/
def State.idleThread (s : State) (t : Nat) : State :=
  let x := s.thread t
  s.setThread t { x with item := none, loops := [], window := [], wbad := [], wfix := [], desc := none, st := if s.coreOut (t / 8) then .out else .idle }

/-! ### Thread reset (R199, R358) -/

/-- The packet a thread holds, in its current item or its saved context: the journal entry. R199. -/
def Thread.packet (x : Thread) : Option Nat :=
  match x.item with
  | some i => if i.isPacket then some i.journal else
    match x.saved with
    | some v => if v.item.isPacket then some v.item.journal else none
    | none => none
  | none => none

/-- A TIMED item ended by a fault. R135. -/
def State.timedFault (s : State) (t : Nat) (i : Item) : State :=
  if i.isTimed then (s.bump K.ctrDispTimedFault).almanac 17 0x0603 4 [(1, i.list), (4, i.tag.toNat), (2, t)] else s

/-- An end instruction of the thread is on its way to DX: the locks of that item are the journal's to settle. R159. -/
def State.ended (s : State) (t : Nat) : Bool := (s.sent t).any fun m => match m with
  | .finish _ _ _ => true
  | _ => false

/-- Instructions of a packet thread that are squashed: the `own` one that is rewound, and the younger ones in the pipeline, whose number
is timing, a free value below 4 (log entry 32). R185, R190, R192, R199, R201. -/
def State.squash (s : State) (t : Nat) (own : Bool) : State :=
  if isPacketThread t then
    let n := s.free 4
    (s.tick.bump (K.ctrCoreIssueCycles (t / 8)) n).bump (K.ctrCoreSquashedIssues (t / 8)) (n + b2n own)
  else s

/-- A packet's fault report leaves for DX. R163. -/
def State.reportPacket (s : State) (t code : Nat) : Option Nat → State
  | some j => s.post_ t (.fault j code)
  | none => s

/-- A thread's load from atomic memory is given up with its reply. -/
def State.cancelLoad (s : State) (t : Nat) : State := s.takeFromDx t .loaded

/-- A packet thread is reset with an exception code. R135, R163, R199, R280. -/
def State.resetPacketThread (s : State) (t code : Nat) : State :=
  let x := s.thread t
  let s := match x.st, x.packet with
    | .ending, some j => s.finishWindow t j
    | _, _ => s
  let s := ((s.when (decide (x.st = .ready)) (·.squash t false)).abandonDivide t).when x.item.isSome (·.traceEnd t 5 code)
  let s := (((s.cancelSent t).cancelLoad t).cancelSet t false).cancelSet t true
  let s := if s.ended t then s else s.abandonAll t
  let s := ((s.cancelOps t 0).cancelOps t 1).bump (K.ctrCoreThreadResets (t / 8))
  let s := ((s.setSubs t false []).setSubs t true []).reportFault 1 t
  let s := match x.item with
    | some i => s.timedFault t i
    | none => s
  ((s.setThread t { s.thread t with ev := 0#7, loops := [], saved := none, second := false }).reportPacket t code x.packet).idleThread t

/-- The assist units a barrel thread owns. R363. -/
def State.unitsOf (s : State) (t : Nat) : List Nat :=
  (List.range 16).filter fun u => decide (u / 4 = (t - 512) / 16) && decide (s.rd (K.unitOwnerThread u) = t % 16)

/-- A barrel thread's mode: 0 OFF, 1 STRICT, 2 ELASTIC. R353. -/
def State.barrelMode (s : State) (t : Nat) : Nat := s.rd (K.biopMode ((t - 512) / 16) (t % 16))

/-- A barrel thread starts at its EntryPoint unless it is OFF or its processor is HALTED. R353, R358. -/
def State.startBarrel (s : State) (t : Nat) : State :=
  let p := (t - 512) / 16
  let on := decide (s.barrelMode t ≠ 0) && decide (s.rd (K.biopRunState p) = 0)
  s.setThread t { Thread.zero with
    pc := s.rd (K.biopEntryPoint p (t % 16)), st := if on then .ready else .out, kickAt := s.usStrobe }

/-- A barrel thread's message that has begun to cross and is still in part is discarded. R288. -/
def State.dropPartial_ (s : State) (t : Nat) : State :=
  (s.sent t).foldl (fun s m => match m with
    | .request _ _ (.chSend c _ _ (some _)) =>
      if c < 1024 ∧ (s.chanOpen c ∨ s.member (c / 64) t) then (s.bump K.ctrRdvChPartialDiscards).almanac 17 0x0C04 3 [(2, c), (2, t)]
      else s
    | _ => s) s

/-- A barrel thread's state is cleared, its pin operations are cancelled and its assist units stop. R358. -/
def State.clearBarrel (s : State) (t : Nat) : State :=
  let s := (((s.abandonDivide t).dropPartial_ t).cancelSent t).cancelLoad t
  let s := (((s.cancelSet t false).cancelSet t true).abandonAll t).setSubs t false []
  { s with bio := { s.bio with
      pins := tmap Pin.zero (fun _ p => { p with sets := p.sets.filter fun e => decide (e.2.2 ≠ t) }) s.bio.pins
      units := (s.unitsOf t).foldl (fun us u => tmod Assist.zero us u fun a => { a with stopped := true }) s.bio.units
      waits := s.bio.waits.filter fun w => w.1 / 4 ≠ t - 512 } }

/-- A barrel thread is reset with an exception code. R358. -/
def State.resetBarrelThread (s : State) (t code : Nat) : State :=
  let s := (s.clearBarrel t).bump (K.ctrBiopThreadResets ((t - 512) / 16))
  ((s.almanac 22 0x0F01 4 [(1, t - 512), (1, code)]).reportFault 1 t).startBarrel t

/-- A Pilot core stops with its requests cancelled; its pair's watchdog or lockstep compare restarts it (log entry 25). -/
def State.stopPilot (s : State) (t : Nat) : State :=
  let s := (((((s.cancelSent t).cancelLoad t).cancelSet t false).abandonAll t).setSubs t false [])
  s.setThread t { Thread.zero with st := .out }

/-- A thread is reset with an exception code. -/
def State.resetThread (s : State) (t code : Nat) : State :=
  if isPacketThread t then s.resetPacketThread t code
  else if isBarrelThread t then s.resetBarrelThread t code
  else s.stopPilot t

/-! ### Vectored exceptions (R216 to R219) -/

/-- ECODE. R219. -/
def ecodeWord (code cause : Nat) : BitVec 32 := BitVec.ofNat 32 (cause * 256 + code)

/-- The kind of the item a thread holds, for records. -/
def Thread.kindNo (x : Thread) : Nat :=
  match x.item with
  | some i => match i.kind with
    | .packet => 0 | .replay => 1 | .timed => 2 | .posted => 3
  | none => 0

/-- A vectored exception is raised: the handler is entered when TVEC is nonzero and EXL is 0; else the thread is reset. Taking
an exception frees the loop-buffer entries. R194, R216 to R219. -/
def State.raise (s : State) (t code cause : Nat) (eaddr : BitVec 32) (epc : Nat) : State :=
  let x := s.thread t
  if x.sregs.tvec ≠ 0#32 ∧ !x.exl then
    let set := { x.sregs with epc := BitVec.ofNat 32 epc, ecode := ecodeWord code cause, eaddr := eaddr }
    (((s.squash t false).traceFlow t epc x.sregs.tvec.toNat flException).setThread t { (x.setSregs set) with
      retired := 0, tsw := x.tsw ||| 0x00800000#32, pc := x.sregs.tvec.toNat, loops := uncaptured x.loops, st := .ready }).bumpCore t
        K.ctrExcVectoredExceptions
  else
    let s := s.bumpCore t K.ctrExcUnhandledExceptions
    (s.almanac (originOf t) 0x0901 4 [(2, t), (1, code), (4, epc), (1, x.kindNo)]).resetThread t code

/-- ECC_UNCORRECTABLE on a thread: memory (by its MemoryId of R495) and word address. R177, R358. -/
def State.eccFault (s : State) (t memory word : Nat) : State :=
  if isPacketThread t then
    (((s.bump (K.ctrCoreEccUncorrectable (t / 8))).almanac (originOf t) 0x0803 4 [(1, memory), (4, word), (2, t)])).resetThread
      t excEcc
  else if isBarrelThread t then
    (((s.bump (K.ctrBiopEccUncorrectable ((t - 512) / 16))).almanac 22 0x0F02 4 [(1, (t - 512) / 16), (4, word)])).resetThread
      t excEcc
  else s.resetThread t excEcc

/-- A span of memory meets a word in error: its first such key. R177. -/
def State.badIn (s : State) (key n : Nat) : Option Nat :=
  s.cores.bad.find? fun w => decide (w < key + n) && decide (key < w + 4)

/-- Correctable errors that a reader found on thread t's behalf in words of a memory, each given by its word address: counted, and
the first in a cluster in a 1 s interval recorded. R177, R202, R373. -/
def State.countFixed (s : State) (t memory : Nat) : List Nat → State
  | [] => s
  | w :: l =>
    if isPacketThread t then
      (s.corrected (K.ctrCoreEccCorrected (t / 8)) (l.length + 1)).almanacFirst (originOf t) 0x0804 2 (clusterOf t) [(1, memory), (4, w)]
    else if isBarrelThread t then s.corrected (K.ctrBiopEccCorrected ((t - 512) / 16)) (l.length + 1)
    else s

/-- The correctable errors of a span that is read are corrected in the data, written back and counted; `at_` gives a key's word
address. R177. -/
def State.correct (s : State) (t memory key n : Nat) (at_ : Nat → Nat) : State :=
  let l := s.cores.fix.filter fun w => decide (w < key + n) && decide (key < w + 4)
  ({ s with cores := { s.cores with fix := s.cores.fix.filter fun w => decide (w ∉ l) } } : State).countFixed t memory (l.map at_)

/-! ### Resumption after a pre-empting item (R133, R204) -/

/-- Reply register m of a thread's first set holds a STALLED reply. R207, R220. -/
def State.stalledRp (s : State) (t m : Nat) : Bool :=
  match s.rp t false m with
  | .full r => decide (bits r.status.toNat 7 0 = wsStalled)
  | _ => false

/-- The Bulk work resumes from its save slot; replies and events that came meanwhile are seen now. R133, R189, R198, R220. -/
def State.resume_ (s : State) (t : Nat) : State :=
  let x := s.thread t
  match x.saved with
  | none => s.idleThread t
  | some v =>
    let s := s.setThread t { x with
      regs := v.regs, pc := v.pc, tsw := v.tsw, loops := v.loops, item := some v.item, st := v.st, saved := none,
      second := false, ev := v.ev, wdFrom := s.wdStrobe - v.wdSpent, wdLimit := v.wdLimit, codeBank := v.codeBank, seq := v.seq }
    match v.st with
    | .blocked (.reply m) => match s.rp t false m with
      | .full _ =>
        if s.stalledRp t m ∧ (s.thread t).trapSt then s.raise t excStalled 0 0#32 v.pc
        else s.setThread t { s.thread t with st := .ready }
      | _ => s
    | .waiting mask _ _ =>
      if mask &&& v.ev = 0#7 then s
      else if (s.thread t).trapSt ∧ (List.range 4).any fun m => (mask &&& v.ev).getLsbD m && s.stalledRp t m then
        s.raise t excStalled 0 0#32 v.pc
      else s.endWfe t mask
    | .blocked (.helper n x) =>
      if hkey 0 n x ∈ (s.thread t).hpend then s else s.setThread t { s.thread t with st := .ready }
    | _ => s

/-! ### The commands -/

/-- REPLY_ARRIVAL: a reply is sampled in the cluster. Message words reach the receive buffer first. R187 to R189, R206, R220,
R247. -/
def execReplyArrival (t : Fin 580) (second : Bool) (m : Fin 4) (s : State) : Host.Outcome State Fault Refusal :=
  match s.rp t.val second m.val, s.arrives t.val (.reply second m.val) with
  | .flying r words buf, true =>
    let s := s.takeFromDx t.val (.reply second m.val)
    let s := s.storeRam t.val buf (words.flatMap fun w => toLE 4 w.toNat)
    let s := s.setRp t.val second m.val (.full r)
    let x := s.thread t.val
    let bitsOf : BitVec 7 := (1#7 <<< m.val) ||| (if m.val = 2 then 0x10#7 else 0#7)
    let trap := decide (bits r.status.toNat 7 0 = wsStalled) && x.trapSt && decide (x.second = second)
    .next (match x.st with
      | .blocked (.reply n) =>
        if n = m.val ∧ x.second = second then
          let s := s.pend t.val second bitsOf
          if trap then s.raise t.val excStalled 0 0#32 x.pc else s.setThread t.val { s.thread t.val with st := .ready }
        else s.pend t.val second bitsOf
      | .waiting mask _ _ =>
        if trap && mask.getLsbD m.val then
          (s.setThread t.val { x with ev := x.ev ||| bitsOf }).raise t.val excStalled 0 0#32 x.pc
        else s.pend t.val second bitsOf
      | _ => s.pend t.val second bitsOf)
  | _, _ => .next s

/-- THREAD_WATCHDOG_EXPIRY: the (N + 1)th strobe of an item whose end instruction has not retired. R198. -/
def execThreadWatchdogExpiry (t : Fin 512) (s : State) : Host.Outcome State Fault Refusal :=
  let x := s.thread t.val
  if x.item.isSome ∧ x.st ≠ .ending ∧ x.wdFrom + x.wdLimit + 1 ≤ s.wdStrobe then
    let s := s.bump (K.ctrCoreWatchdogExpiries (t.val / 8))
    .next ((s.almanac (originOf t.val) 0x0801 4 [(2, t.val), (1, x.kindNo)]).resetThread t.val excWatchdog)
  else .next s

/-- A grant that has not reached its thread is given up with the thread's core: its packet is reported, a TIMED item counted. R135,
R163. -/
def State.dropGrant (s : State) (t code : Nat) (g : Option Grant) (m : FromDx) : State :=
  match g with
  | none => s
  | some g =>
    let s := (s.takeFromDx t m).timedFault t g.item
    s.reportPacket t code (if g.item.isPacket then some g.item.journal else none)

/-- The threads of a core that leaves service: each that holds an item is reset, its packet reported with the code, and all stand out
of service. R129, R163. -/
def State.threadsOut (s : State) (c code : Nat) : State :=
  (List.range 8).foldl (fun (s : State) k =>
    let t := 8 * c + k
    let s := s.when (s.thread t).item.isSome (·.resetPacketThread t code)
    let x := s.thread t
    let s := (s.dropGrant t code x.work .work).dropGrant t code x.preempt .preempt
    s.setThread t { s.thread t with work := none, preempt := none, st := .out }) s

/-- A unit leaves service; the instant of its first such event is kept, and a second within 3,600 s bars its return. Core c, or
cluster 64 + n. R502. -/
def State.outEvent (s : State) (u : Nat) : State :=
  match tget 0 s.snd.firstOut u with
  | 0 => { s with snd := { s.snd with firstOut := tset 0 s.snd.firstOut u (s.now + 1) } }
  | n + 1 =>
    if s.now ≤ n + 3600 * 10 ^ 9 then { s with snd := { s.snd with barred := u :: s.snd.barred.filter (· ≠ u) } } else s

/-- A core's bit set in OutOfServiceCores. -/
def State.markCoreOut (s : State) (c : Nat) : State :=
  s.wr K.sndOutOfServiceCores (s.rd K.sndOutOfServiceCores ||| 2 ^ c)

/-- A core's data RAM cleared, errors with it. R196. -/
def State.clearCoreRam (s : State) (c : Nat) : State :=
  let k := memKey .coreData (65536 * c)
  { s with mem := s.mem.filter fun x => !(decide (k ≤ x.1) && decide (x.1 < k + 65536)),
           cores := { s.cores with
             bad := s.cores.bad.filter fun w => !(decide (k ≤ w) && decide (w < k + 65536))
             fix := s.cores.fix.filter fun w => !(decide (k ≤ w) && decide (w < k + 65536)) } }

/-- A unit out of service is offered for return unless it is barred. R502. -/
def State.offerCore (s : State) (c : Nat) : State :=
  let l := s.snd.offer.filter (· ≠ c)
  { s with snd := { s.snd with offer := if s.snd.barred.contains c then l else l ++ [c] } }

/-- LOCKSTEP_MISMATCH of pair q (cores 2q and 2q + 1): all eight threads are reset and the pair leaves service. R196, R504. -/
def execLockstepMismatch (q : Fin 32) (s : State) : Host.Outcome State Fault Refusal :=
  let c := 2 * q.val
  if s.lockstep c ∧ !s.coreOut c then
    let s := (s.bump (K.ctrCoreLockstepMismatches c)).almanac (1 + c / 4) 0x0802 5 [(1, q.val)]
    let s := ((s.markCoreOut c).markCoreOut (c + 1)).outEvent c
    let s := ((List.range 8).foldl (fun s k => s.resetThread (8 * c + k) excLockstep) s).threadsOut c excLockstep
    .next ((((s.setCore c { s.core c with sb := [] }).clearCoreRam c).clearCoreRam (c + 1)).reportFault 2 c |>.offerCore c)
  else .next s

end Sys2Proof.Machine
end

