-- ==== Sys2Proof/Machine/Parser.lean ====
section
/-! DEFINITION. The parse graph (03_parse_classify.md, R60 to R64, R546): a frame's headers from its bytes, the status the
parse ends with, and the fields the descriptor takes from it. -/

namespace Sys2Proof.Machine

/-- Parse statuses of R63. -/
def psOk : Nat := 0
def psUnknownNext : Nat := 1
def psTooDeep : Nat := 2
def psTruncated : Nat := 3
def psBeyondReach : Nat := 4
def psBadLength : Nat := 5
def psBadChecksum : Nat := 6
def psMalformed : Nat := 7

/-- A parse so far. -/
structure ParseAcc where
  status : Nat
  headers : List (Nat × Nat × Nat)   -- node, offset, length; latest first
  flags : Nat
  tags : Nat
  l3 : Nat
  l4 : Nat
  payload : Nat
  etherType : Nat
  pcp : Nat
  dei : Bool
  vid : Nat
  acf : Nat                          -- stream data bytes left (node 0x0E)
deriving DecidableEq, Repr

/-- What a header's own bytes say of it. -/
structure HdrInfo where
  lenByte : Option Nat     -- last byte holding the version or length field, from the header's start
  malformed : Bool
  below : Bool             -- length field below the header's minimum
  len : Nat
  beyond : Bool            -- IP length beyond FrameLength, or ACF message past its stream data
  badSum : Bool
  ends : Bool              -- terminal, or the fragment rule of R61
  key : Nat                -- next key
deriving DecidableEq, Repr

/-- A field of `w` bits from bit `off` of wire order, zeros beyond the end of the bytes. -/
def wireBits (bs : List Byte) (off w : Nat) : Nat :=
  let n := cdiv (off % 8 + w) 8
  (beAt bs (off / 8) n >>> (8 * n - off % 8 - w)) % 2 ^ w

/-- The UDP port of IEEE 1722 encapsulation (log entry 15). -/
def avtpPort : Nat := 17220

/-- The length of the IEEE 1722 common header of a subtype: 12 bytes for the control subtypes, whose top bit is 1, and NTSCF among
them; 24 for the stream subtypes (log entry 15, PRESUMED). R61. -/
def avtpHeader (sub : Nat) : Nat := if 0x80 ≤ sub then 12 else 24

/-- What the header at `off` of node `node` says. Its version and length fields, which step 2 of R546 asks for, are the model's choice where
the spec names none (log entry 46, PRESUMED): for IP also the total and payload lengths; none for UDP, SOME/IP, DoIP and PTP; of AVTP
the subtype. Node 0x07 entered from a programmable node is a fragment header when byte 0 of the header before is 44 (log entry 60, DESIGN
CHOICE); a programmable node that is not defined is a header of length 0, MALFORMED (log entry 61, DESIGN CHOICE). R61, R62, R546. -/
def State.hdrInfo (s : State) (b : List Byte) (node off : Nat) (a : ParseAcc) : HdrInfo :=
  let u (i n : Nat) : Nat := beAt b (off + i) n
  let plain (len key : Nat) (ends : Bool) : HdrInfo := ⟨none, false, false, len, false, false, ends, key⟩
  if node = 0x01 then plain 14 (u 12 2) false
  else if node = 0x02 then plain 4 (u 2 2) false
  else if node = 0x03 then plain 6 (u 4 2) false
  else if node = 0x04 then
    let tci := u 0 1
    let len := if bit tci 5 = 1 then 16 else 8
    ⟨some 0, false, false, len, false, false, decide (bit tci 3 = 1), u (len - 2) 2⟩
  else if node = 0x05 then
    let ihl := u 0 1 % 16
    let frag := u 6 2
    ⟨some 3, decide (u 0 1 / 16 ≠ 4), decide (ihl < 5 ∨ u 2 2 < 4 * ihl), 4 * ihl, decide (b.length < off + u 2 2),
     s.on K.prsIpv4ChecksumCheck && decide (inetChecksum (slice b off (4 * ihl)) ≠ 0), decide (frag % 0x2000 ≠ 0), u 9 1⟩
  else if node = 0x06 then
    ⟨some 5, decide (u 0 1 / 16 ≠ 6), false, 40, decide (b.length < off + 40 + u 4 2), false, false, u 6 1⟩
  else if node = 0x07 then
    let prev := match a.headers with
      | (n, o, _) :: _ => if n = 0x06 then beAt b (o + 6) 1 else beAt b o 1
      | [] => 0
    if prev = 44 then ⟨none, false, false, 8, false, false, decide (u 2 2 / 8 ≠ 0), u 0 1⟩
    else ⟨some 1, false, false, (u 1 1 + 1) * 8, false, false, false, u 0 1⟩
  else if node = 0x08 then plain 8 (u 2 2) false
  else if node = 0x09 then
    let d := u 12 1 / 16
    ⟨some 12, false, decide (d < 5), 4 * d, false, false, false, u 2 2⟩
  else if node = 0x0A then plain 16 (u 0 4) false
  else if node = 0x0B then ⟨some 7, false, false, 12 + u 4 4, false, false, true, 0⟩
  else if node = 0x0C then plain 8 0 true
  else if node = 0x0D then
    let e := match a.headers with
      | (0x08, _, _) :: _ => 4
      | _ => 0
    let sub := u e 1
    let len := avtpHeader sub
    ⟨some e, false, false, e + len, false, false, false, sub⟩
  else if node = 0x0E then
    let len := 4 * (u 0 2 % 512)
    ⟨some 1, decide (len = 0), false, len, decide (a.acf < len), false, false, 0⟩
  else if node = 0x0F then plain 34 0 true
  else
    let n := tget ProgNode.zero s.pc.nodes node
    let key := wireBits (b.drop off) n.keyBit n.keyWidth
    match n.fixedLen with
    | some l => ⟨none, false, false, l, false, false, n.terminal, key⟩
    | none =>
      let l := wireBits (b.drop off) n.lenBit n.lenWidth * n.lenScale + n.lenAdd
      ⟨some ((n.lenBit + n.lenWidth - 1) / 8), decide (l = 0), false, l, false, false, n.terminal, key⟩

/-- The native transitions by EtherType, in ascending order of the node they lead to. R61. -/
def etherNext (et tags : Nat) : Option Nat :=
  if (et = 0x8100 ∨ et = 0x88A8) ∧ tags < 2 then some 0x02
  else if et = 0xF1C1 then some 0x03 else if et = 0x88E5 then some 0x04 else if et = 0x0800 then some 0x05
  else if et = 0x86DD then some 0x06 else if et = 0x22F0 then some 0x0D else if et = 0x88F7 then some 0x0F else none

/-- A port is one of SomeIpPort0–15; 0 is unused. -/
def State.someIpPort (s : State) (p : Nat) : Bool :=
  decide (p ≠ 0) && (List.range 16).any fun i => decide (s.rd (K.prsSomeIpPort i) = p)

/-- The node the next key leads to: native transitions first, then the added ones in index order. R61. -/
def State.nextNode (s : State) (node key tags : Nat) : Option Nat :=
  let native : Option Nat :=
    if node ≤ 0x04 then etherNext key tags
    else if node = 0x05 then (if key = 17 then some 0x08 else if key = 6 then some 0x09 else none)
    else if node = 0x06 ∨ node = 0x07 then
      (if key = 0 ∨ key = 43 ∨ key = 44 ∨ key = 60 then some 0x07 else if key = 17 then some 0x08
       else if key = 6 then some 0x09 else none)
    else if node = 0x08 then
      (if s.someIpPort key then some 0x0A else if key = s.rd K.prsDoIpPort then some 0x0C
       else if key = avtpPort then some 0x0D else if key = 319 ∨ key = 320 then some 0x0F else none)
    else if node = 0x09 then
      (if s.someIpPort key then some 0x0A else if key = s.rd K.prsDoIpPort then some 0x0C else none)
    else if node = 0x0A then (if key = 0xFFFF8100 then some 0x0B else none)
    else if node = 0x0D then (if key = 0x82 ∨ key = 0x05 then some 0x0E else none)
    else none
  native.or ((s.pc.transitions.find? fun t => t.2.used && decide (t.2.fromNode = node)
    && decide ((BitVec.ofNat 32 key) &&& t.2.mask = t.2.value &&& t.2.mask)).map (·.2.toNode))

/-- The first failure of a header, in the order of R546. -/
def hdrFailure (b : List Byte) (off depth : Nat) (i : HdrInfo) : Option Nat :=
  let lenAt := i.lenByte.map (off + ·)
  if 32 ≤ depth then some psTooDeep
  else if lenAt.any (fun x => decide (b.length ≤ x)) then some psTruncated
  else if lenAt.any (fun x => decide (512 ≤ x)) then some psBeyondReach
  else if i.malformed then some psMalformed
  else if i.below then some psBadLength
  else if b.length < off + i.len then some psTruncated
  else if 512 < off + i.len then some psBeyondReach
  else if i.beyond then some psBadLength
  else if i.badSum then some psBadChecksum
  else none

/-- ACF message types that carry CAN: CAN and CAN brief of IEEE 1722 (log entry 15). -/
def acfCan (type : Nat) : Bool := decide (type = 1 ∨ type = 2)

/-- An accepted header entered in the parse: offsets, ProtoFlags (R74) and tag fields. -/
def acceptHdr (b : List Byte) (node off : Nat) (i : HdrInfo) (a : ParseAcc) : ParseAcc :=
  let u (j n : Nat) : Nat := beAt b (off + j) n
  let fl (n : Nat) (f : Nat) : Nat := f ||| 2 ^ n
  let a := { a with headers := (node, off, i.len) :: a.headers, payload := off + i.len }
  if node = 0x01 then { a with etherType := i.key }
  else if node = 0x02 then
    let t := u 0 2
    if a.tags = 0 then { a with tags := 1, flags := fl 0 a.flags, etherType := i.key, pcp := t / 8192,
                                dei := decide (bit t 12 = 1), vid := t % 4096 }
    else { a with tags := 2, flags := fl 1 a.flags, etherType := i.key }
  else if node = 0x03 then { a with flags := fl 2 a.flags, etherType := i.key }
  else if node = 0x04 then { a with flags := fl 3 a.flags, etherType := if i.ends then 0x88E5 else i.key }
  else if node = 0x05 then
    let f := if u 6 2 % 0x4000 ≠ 0 then fl 7 (fl 4 a.flags) else fl 4 a.flags
    { a with flags := f, l3 := if a.l3 = 0 then off else a.l3 }
  else if node = 0x06 then { a with flags := fl 5 a.flags, l3 := if a.l3 = 0 then off else a.l3 }
  else if node = 0x07 then
    { a with flags := if i.lenByte = none then fl 7 (fl 6 a.flags) else fl 6 a.flags }
  else if node = 0x08 then { a with flags := fl 8 a.flags, l4 := if a.l4 = 0 then off else a.l4 }
  else if node = 0x09 then { a with flags := fl 9 a.flags, l4 := if a.l4 = 0 then off else a.l4 }
  else if node = 0x0A then { a with flags := fl 10 a.flags }
  else if node = 0x0B then { a with flags := fl 11 a.flags }
  else if node = 0x0C then { a with flags := fl 12 a.flags }
  else if node = 0x0D then
    let e := i.len - avtpHeader i.key
    { a with flags := fl 13 a.flags,
             acf := if i.key = 0x82 then u (e + 1) 2 % 2048 else if i.key = 0x05 then u (e + 20) 2 else 0 }
  else if node = 0x0E then
    { a with flags := if acfCan (u 0 1 / 2) then fl 14 a.flags else a.flags, acf := a.acf - i.len }
  else if node = 0x0F then { a with flags := fl 15 a.flags }
  else a

/-- The walk of the parse graph from a node. R60, R61. -/
def State.parseFrom (s : State) (b : List Byte) : Nat → Nat → Nat → ParseAcc → ParseAcc
  | 0, _, _, a => { a with status := psTooDeep }
  | f + 1, node, off, a =>
    let i := s.hdrInfo b node off a
    match hdrFailure b off a.headers.length i with
    | some st => { a with status := st }
    | none =>
      let a := acceptHdr b node off i a
      if i.ends then { a with status := psOk }
      else if node = 0x0D ∧ (i.key = 0x82 ∨ i.key = 0x05) ∧ a.acf = 0 then { a with status := psOk }
      else if node = 0x0E then
        (if a.acf = 0 then { a with status := psOk } else s.parseFrom b f 0x0E (off + i.len) a)
      else match s.nextNode node i.key a.tags with
        | none => { a with status := psUnknownNext }
        | some n => s.parseFrom b f n (off + i.len) a

/-- The parse of a frame received on a port. R61. -/
def State.parse (s : State) (port : Nat) (b : List Byte) : ParseAcc :=
  s.parseFrom b 33 0x01 0 ⟨psOk, [], 0, 0, 0, 0, 0, 0, s.rd (K.prsDefaultPcp port), false, 0, 0⟩

/-- The ingress priority: the outer tag's PCP, or the port's DefaultPcp. R59. -/
def State.ingressPriority (s : State) (port : Nat) (b : List Byte) : Nat :=
  let et := beAt b 12 2
  if et = 0x8100 ∨ et = 0x88A8 then beAt b 14 2 / 8192 else s.rd (K.prsDefaultPcp port)

end Sys2Proof.Machine
end

