-- ==== Sys2Proof/Machine/ParseClassify.lean ====
section
/-! DEFINITION. Parser, Classifier and Pattern Engine (03_parse_classify.md): writing and parsing a frame, the search key,
the rule search, Bramble keys, scans, the exception policer and the table writes of the chapter. -/

namespace Sys2Proof.Machine

/-! ### The descriptor as stored (R74) -/

def Desc.toNat (d : Desc) : Nat :=
  d.ingressTs.toNat * 2 ^ 320 + d.ruleAction.toNat * 2 ^ 288 + d.brambleData.toNat * 2 ^ 256 + b2n d.brambleHit * 2 ^ 255
    + b2n d.brambleWest * 2 ^ 254 + d.brambleSlot.toNat * 2 ^ 237 + b2n d.patternHit * 2 ^ 236 + d.patternId.toNat * 2 ^ 224
    + b2n d.ruleHit * 2 ^ 223 + d.ruleIndex.toNat * 2 ^ 210 + d.scanState.toNat * 2 ^ 208 + d.protoFlags.toNat * 2 ^ 192
    + d.l3.toNat * 2 ^ 182 + d.l4.toNat * 2 ^ 172 + d.payload.toNat * 2 ^ 162 + d.ticket.toNat * 2 ^ 144
    + d.orderDomain.toNat * 2 ^ 134 + d.level.toNat * 2 ^ 131 + d.windowSize.toNat * 2 ^ 129 + d.firstCell.toNat * 2 ^ 104
    + d.cellCount.toNat * 2 ^ 98 + d.tsDomain.toNat * 2 ^ 96 + d.frameLength.toNat * 2 ^ 82 + d.ingressPort.toNat * 2 ^ 79
    + d.headerCount.toNat * 2 ^ 73 + d.parseStatus.toNat * 2 ^ 69 + d.egressSecY.toNat * 2 ^ 56 + d.ingressSecY.toNat * 2 ^ 48
    + d.macsecOutcome.toNat * 2 ^ 45 + d.flowClass.toNat * 2 ^ 37 + d.outerPcp.toNat * 2 ^ 29 + b2n d.outerDei * 2 ^ 28
    + d.outerVid.toNat * 2 ^ 16 + d.etherType.toNat

/-- The 48 bytes of a descriptor, little-endian. R7, R74. -/
def Desc.bytes (d : Desc) : List Byte := toLE 48 d.toNat

/-- A descriptor from its 48 bytes. -/
def Desc.ofBytes (bs : List Byte) : Desc :=
  let x := ofLE (bs.take 48)
  let f (w hi lo : Nat) : BitVec w := BitVec.ofNat w (bits x hi lo)
  let o (i : Nat) : Bool := decide (bit x i = 1)
  ⟨f 64 383 320, f 32 319 288, f 32 287 256, o 255, o 254, f 17 253 237, o 236, f 12 235 224, o 223, f 13 222 210,
   f 2 209 208, f 16 207 192, f 10 191 182, f 10 181 172, f 10 171 162, f 16 159 144, f 10 143 134, f 3 133 131, f 2 130 129,
   f 24 127 104, f 6 103 98, f 2 97 96, f 14 95 82, f 3 81 79, f 6 78 73, f 4 72 69, f 8 63 56, f 8 55 48, f 3 47 45,
   f 8 44 37, f 3 31 29, o 28, f 12 27 16, f 16 15 0⟩

/-! ### Queues of the ports -/

def State.port (s : State) (p : Nat) : Port := tget Port.zero s.px.ports p
def State.setPort (s : State) (p : Nat) (x : Port) : State :=
  { s with px := { s.px with ports := tset Port.zero s.px.ports p x } }

def State.parsedQ (s : State) (p : Nat) : List Parsed := tget [] s.pc.parsed p
def State.setParsedQ (s : State) (p : Nat) (q : List Parsed) : State :=
  { s with pc := { s.pc with parsed := tset [] s.pc.parsed p q } }
def State.outQ (s : State) (p : Nat) : List OutDesc := tget [] s.pc.outQ p
def State.setOutQ (s : State) (p : Nat) (q : List OutDesc) : State :=
  { s with pc := { s.pc with outQ := tset [] s.pc.outQ p q } }

/-- The pool of a frame. R309. -/
def State.poolOf (s : State) (port prio : Nat) : Nat := s.rd (K.pmapPoolMap (8 * port + prio))

/-- The key profile of a parse node. R62, R65. -/
def State.nodeProfile (s : State) (node : Nat) : Nat :=
  if node < 0x10 then tget 0 s.pc.nativeProfile node else (tget ProgNode.zero s.pc.nodes node).profile

/-- The frame that a port's parse pipeline takes next, out of its queue: that of M0 serves the MAC and the ACF bridge alternately, M0
first. R58, R370. -/
def State.nextRx (s : State) (p : Nat) : Option (RxFrame × State) :=
  let mac := (s.port p).rxQ
  let br := if p = 7 then s.bio.inject else []
  let turn (s : State) (b : Bool) : State := if p = 7 then { s with bio := { s.bio with injectTurn := b } } else s
  match mac, br with
  | f :: r, [] => some (f, turn (s.setPort p { s.port p with rxQ := r }) false)
  | [], f :: r => some (f, { s with bio := { s.bio with inject := r, injectTurn := false } })
  | f :: r, g :: q =>
    if s.bio.injectTurn then some (g, { s with bio := { s.bio with inject := q, injectTurn := false } })
    else some (f, turn (s.setPort p { s.port p with rxQ := r }) true)
  | [], [] => none

/-- PARSE_FRAME: the oldest frame of a port is written into cells and parsed, or, dropped by its MACsec verdict, given back. R58 to R61,
R310. -/
def execParseFrame (p : Fin 8) (s : State) : Host.Outcome State Fault Refusal :=
  match s.nextRx p.val with
  | none => .next s
  | some (f, s) =>
    match s.writeFrame (s.poolOf p.val (s.ingressPriority p.val f.bytes)) f.bytes with
    | (none, s) => .next s
    | (some h, s) =>
      if f.dropped then .next (s.freeChain h ownIngress) else
      let a := s.parse p.val f.bytes
      let node := match a.headers with
        | (n, _, _) :: _ => n
        | [] => 0x01
      .next (s.setParsedQ p.val (s.parsedQ p.val ++ [⟨f.ts, f.tsDomain, f.secY, f.outcome, f.bytes.length, a.status, node, s.nodeProfile node,
        a.headers.reverse, a.flags, a.l3, a.l4, a.payload, a.etherType, a.pcp, a.dei, a.vid, h, (s.chain h).length⟩]))

/-! ### The search key (R65, R547) -/

/-- One extraction word applied to a key. R65, R547. -/
def extractWord (b : List Byte) (headers : List (Nat × Nat × Nat)) (word key : Nat) : Nat :=
  if bit word 63 = 0 then key
  else
    let w := bits word 21 16 + 1
    let pos := bits word 8 0
    let v := match headers[bits word 53 48 - 1]? with
      | some (_, off, len) => wireBits ((b.drop off).take len) (bits word 43 32) w
      | none => 0
    let v := if bits word 53 48 = 0 then 0 else v
    key - (bits key (pos + w - 1) pos) * 2 ^ pos + v * 2 ^ pos

/-- The 512-bit search key. R65. -/
def State.searchKey (s : State) (port : Nat) (b : List Byte) (q : Parsed) : Nat :=
  let prof := q.profile
  let low := (List.range 16).foldl (fun k i => extractWord b q.headers (tget 0 s.pc.keyProfiles (16 * prof + i)) k) 0
  port * 2 ^ 509 + prof * 2 ^ 505 + q.flags * 2 ^ 489 + q.status * 2 ^ 485 + low % 2 ^ 480

/-! ### The rule table (R66 to R71) -/

/-- A key matches an entry of a copy. -/
def Rule.matches (r : Rule) (west : Bool) (key : BitVec 512) : Bool :=
  r.valid && !(if west then r.outWest || r.badWest else r.outEast || r.badEast) && decide (key &&& r.mask = r.value &&& r.mask)

/-- An entry with an uncorrectable error met by a search of one copy goes out of service there. R71. -/
def Rule.outOfService (r : Rule) (west : Bool) : Rule := if west then { r with outWest := true } else { r with outEast := true }

/-- The entries of a copy that a search finds newly in error. -/
def State.ruleErrors (s : State) (west : Bool) : List Nat :=
  (s.pc.rules.filter fun kr => if west then kr.2.badWest && !kr.2.outWest else kr.2.badEast && !kr.2.outEast).map (·.1)

/-- The correctable errors of a copy's entries are corrected in place; RuleEccError, the one counter there is, counts them (log entry 62).
R71. -/
def State.ruleFix (s : State) (west : Bool) : State :=
  let bad (r : Rule) : Bool := if west then r.fixWest else r.fixEast
  let clean (r : Rule) : Rule := if west then { r with fixWest := false } else { r with fixEast := false }
  ({ s with pc := { s.pc with rules := tmap Rule.zero (fun _ r => clean r) s.pc.rules } } : State).corrected K.ctrClsRuleEccError
    (s.pc.rules.filter fun kr => bad kr.2).length

/-- Entries found in error go out of service in a copy and are recorded. R71. -/
def State.ruleEcc (s : State) (west : Bool) : State :=
  (s.ruleErrors west).foldl (fun s i =>
    (({ s with pc := { s.pc with rules := tmod Rule.zero s.pc.rules i (·.outOfService west) } } : State).bump
      K.ctrClsRuleEccError).almanac 18 0x0303 4 [(2, i), (1, b2n west)]) s

/-- The winning entry of a key in one copy. R66. -/
def State.ruleFind (s : State) (west : Bool) (key : Nat) : Option (Nat × Rule) :=
  s.pc.rules.find? fun kr => kr.2.matches west (BitVec.ofNat 512 key)

/-- A search of one copy: the winning index, with errors recorded and the winner's hit counted. R66, R68, R71. -/
def State.ruleSearch (s : State) (west : Bool) (key : Nat) : Option Nat × State :=
  let s := (s.ruleFix west).ruleEcc west
  match s.ruleFind west key with
  | some kr => (some kr.1, { s with pc := { s.pc with
      rules := tmod Rule.zero s.pc.rules kr.1 fun r => { r with hits := (r.hits + 1) % 2 ^ 64 } } })
  | none => (none, s)

/-- Fields of an action word. R67. -/
def actVerdict (a : BitVec 32) : Nat := bits a.toNat 31 29
def actLevel (a : BitVec 32) : Nat := bits a.toNat 28 26
def actWindow (a : BitVec 32) : Nat := bits a.toNat 25 24
def actFlow (a : BitVec 32) : Nat := bits a.toNat 23 16
def actDomain (a : BitVec 32) : Nat := bits a.toNat 15 6
def actLookup (a : BitVec 32) : Bool := decide (bit a.toNat 5 = 1)
def actLearn (a : BitVec 32) : Bool := decide (bit a.toNat 4 = 1)
def actProfile (a : BitVec 32) : Nat := a.toNat % 16

/-- An action word with no reserved value. R67, R89. -/
def actOk (a : BitVec 32) : Bool :=
  decide (actVerdict a ≤ 2) && decide (actWindow a ≤ 2) && decide (actProfile a ≠ 6) && decide (actProfile a ≠ 7)

/-! ### Bramble keys of a frame (R89, R96) -/

/-- The offset of the first accepted header of a node. -/
def headerAt (q : Parsed) (node : Nat) : Option Nat := (q.headers.find? fun h => decide (h.1 = node)).map (·.2.1)

/-- A field of a header, zero when the frame has no such header. -/
def fieldOf (b : List Byte) (h : Option Nat) (off n : Nat) : Nat := match h with
  | some o => beAt b (o + off) n
  | none => 0

/-- The key of a Bramble profile for a frame. R89. -/
def State.brambleKey (s : State) (port : Nat) (b : List Byte) (q : Parsed) (searchKey profile : Nat) : Nat :=
  let l4 := if q.l4 = 0 then none else some q.l4
  let avtp := (headerAt q 0x0D).map fun o => if (headerAt q 0x08).isSome then o + 4 else o
  if profile = 0 then q.vid * 2 ^ 48 + beAt b 0 6
  else if profile = 1 then
    let ip := headerAt q 0x05
    fieldOf b ip 9 1 * 2 ^ 96 + fieldOf b l4 0 2 * 2 ^ 80 + fieldOf b l4 2 2 * 2 ^ 64 + fieldOf b ip 12 4 * 2 ^ 32
      + fieldOf b ip 16 4
  else if profile = 2 then
    let ip := headerAt q 0x06
    let last := q.headers.reverse.find? fun h => decide (h.1 = 0x06 ∨ h.1 = 0x07)
    let nh := match last with
      | some (n, o, _) => beAt b (if n = 0x06 then o + 6 else o) 1
      | none => 0
    nh * 2 ^ 288 + fieldOf b l4 0 2 * 2 ^ 272 + fieldOf b l4 2 2 * 2 ^ 256 + fieldOf b ip 8 16 * 2 ^ 128 + fieldOf b ip 24 16
  else if profile = 3 then
    let si := headerAt q 0x0A
    port * 2 ^ 48 + fieldOf b si 0 2 * 2 ^ 32 + fieldOf b si 2 2 * 2 ^ 16 + fieldOf b si 8 2
  else if profile = 4 then q.vid * 2 ^ 64 + fieldOf b avtp 4 8
  else if profile = 5 then
    let can := (q.headers.find? fun h => decide (h.1 = 0x0E) && acfCan (beAt b h.2.1 1 / 2)).map (·.2.1)
    let id := match can with
      | some o => if beAt b o 1 / 2 = 1 then beAt b (o + 12) 4 else beAt b (o + 4) 4
      | none => 0
    (fieldOf b can 3 1 % 32) * 2 ^ 32 + (fieldOf b can 2 1 / 8 % 2) * 2 ^ 29 + id % 2 ^ 29
  else
    ((tget [] s.br.profiles profile).foldl (fun (acc : Nat × Nat) r =>
      (acc.1 + bits (searchKey % 2 ^ 480) (r.1 + r.2 - 1) r.1 * 2 ^ acc.2, acc.2 + r.2)) (0, 0)).1

/-- The learning lookup of a candidate frame. R96, R97. -/
def State.learnFrom (s : State) (port : Nat) (b : List Byte) (q : Parsed) : State :=
  let w := westPort port
  let src := beAt b 6 6
  if s.on (K.brLearnEnable (b2n w)) && decide (q.outcome.toNat ≤ 2) && decide (src ≠ 0) && decide (bit src 40 = 0) then
    s.brLearn w (q.vid * 2 ^ 48 + src) port
  else s

/-! ### The exception path (R81) -/

/-- The policer refilled to the present instant, under a rate and a burst. -/
def State.policerRefill (s : State) : State :=
  { s with pc := { s.pc with
    tokens := min (s.rd K.prsExceptionBurst * 10 ^ 9) (s.pc.tokens + s.rd K.prsExceptionRate * (s.now - s.pc.tokensAt)),
    tokensAt := s.now } }

/-- A frame on the exception path. R59, R81, R305. -/
def State.exceptionPath (s : State) (port : Nat) (d : Desc) : State :=
  let s := s.policerRefill
  let h := d.firstCell.toNat
  if s.pc.tokens < 10 ^ 9 then
    ((s.freeChain h ownIngress).bump K.ctrClsExceptionPolicerDrop).almanacFirst 18 0x0301 3 0
  else
    let s := { s with pc := { s.pc with tokens := s.pc.tokens - 10 ^ 9 } }
    if 1024 ≤ s.pc.exceptionQ.length then (s.freeChain h ownIngress).bump K.ctrClsExceptionQueueFull
    else (({ s with pc := { s.pc with exceptionQ := s.pc.exceptionQ ++ [d] } } : State).setOwners h
      (1#16 <<< ownPilot)).bump (K.ctrPrsExceptionSent port)

/-! ### Scans (R76 to R80) -/

/-- The bytes of a scan. R77. -/
def State.scanBytes (s : State) (b : List Byte) (payload : Nat) : List Byte := (b.drop payload).take (s.rd K.prsScanByteLimit)

/-- The lane a scan joins: fewest bytes among the lanes with room, lowest number on a tie. R78. -/
def State.scanLane (s : State) : Option Nat :=
  let load (l : Nat) : Nat := ((tget [] s.pc.lanes l).map (·.bytes.length)).foldl (· + ·) 0
  let open_ := (List.range 8).filter fun l => decide ((tget [] s.pc.lanes l).length < s.rd K.prsScanQueueLimit)
  open_.foldl (fun best l => match best with
    | none => some l
    | some m => if load l < load m then some l else some m) none

/-- ASCII folding. R76. -/
def foldCase (b : Byte) : Byte := if 0x41 ≤ b.toNat ∧ b.toNat ≤ 0x5A then b + 32#8 else b

/-- The pattern's bytes stand at an offset of the scanned bytes. -/
def Pattern.at (p : Pattern) (bs : List Byte) (off : Nat) : Bool :=
  let t := (bs.drop off).take p.bytes.length
  decide (t.length = p.bytes.length) &&
    (if p.noCase then decide (t.map foldCase = p.bytes.map foldCase) else decide (t = p.bytes))

/-- A pattern matches scanned bytes. R76, R77. -/
def Pattern.matches (p : Pattern) (bs : List Byte) (flow : BitVec 8) : Bool :=
  p.valid && !p.bad && decide (flow &&& p.flowMask = p.flowValue &&& p.flowMask) &&
    (if p.anchor = 1 then p.at bs p.offset
     else if p.anchor = 2 then (List.range (p.range + 1)).any fun i => p.at bs (p.offset + i)
     else (List.range bs.length).any fun i => p.at bs i)

/-- A scan: the matching patterns, lowest index first, with hits counted and entries in error recorded. R79, R80. -/
def State.scan (s : State) (bs : List Byte) (flow : BitVec 8) : List (Nat × Nat) × State :=
  let s := (s.pc.patterns.filter (·.2.bad)).foldl (fun s kp =>
    (s.bump K.ctrClsPatternEccError).almanac 18 0x0304 4 [(2, kp.1)]) s
  let hits := s.pc.patterns.filter fun kp => kp.2.matches bs flow
  (hits.map fun kp => (kp.1, kp.2.action), hits.foldl (fun s kp => { s with pc := { s.pc with
    patterns := tmod Pattern.zero s.pc.patterns kp.1 fun p => { p with hits := (p.hits + 1) % 2 ^ 64 } } }) s)

/-- The highest action among matches and the lowest index that carries it. R79. -/
def topMatch (ms : List (Nat × Nat)) : Option (Nat × Nat) :=
  ms.foldl (fun best m => match best with
    | none => some m
    | some b => if b.2 < m.2 then some m else some b) none

/-- An ALERT record, at most 1,000 in a 1 s interval (log entry 3). R79. -/
def State.alert (s : State) (pattern port flow : Nat) : State :=
  let n := if s.pc.alertsIn = s.second then s.pc.alerts else 0
  if 1000 ≤ n then s
  else ({ s with pc := { s.pc with alerts := n + 1, alertsIn := s.second } } : State).almanac 18 0x0306 4
    [(2, pattern), (1, port), (1, flow)]

/-- A lane serves a client's scan. R268. -/
def State.laneBusy (s : State) (l : Nat) : Bool := s.cores.ops.any fun e => e.2.any fun o => decide (o.lane = some l)

/-- Descriptors at the head of a port's release-order queue that wait for nothing go toward DX; in safe state their frames are
dropped instead. R73, R505. -/
def State.releaseOut (s : State) (p : Nat) : State :=
  let q := s.outQ p
  let ready := (q.takeWhile (·.ready)).map (·.desc)
  let s := s.setOutQ p (q.dropWhile (·.ready))
  if s.safeState then
    ready.foldl (fun (s : State) (d : Desc) => (s.freeChain d.firstCell.toNat ownIngress).bump K.ctrSafSafeStateDrops) s
  else { s with pc := { s.pc with toDx := s.pc.toDx ++ ready } }

/-- A descriptor becomes complete; one that waits behind an earlier one counts a hold (log entry 16). R73, R83. -/
def State.complete (s : State) (p id : Nat) (d : Desc) : State :=
  let q := s.outQ p
  let before := q.takeWhile fun o => decide (o.id ≠ id)
  let s := s.setOutQ p (q.map fun o => if o.id = id then { o with desc := d, ready := true } else o)
  let s := if before.any (fun o => !o.ready) then s.bump (K.ctrPrsOrderHolds p) else s
  s.releaseOut p

/-! ### UDA frames (R448) -/

/-- A frame addressed to UDA over UDP. -/
def State.isUdaFrame (s : State) (port : Nat) (b : List Byte) (q : Parsed) : Bool :=
  let v4 := s.rd K.udaUdaIpv4
  let v6 := ofBE (tget [] s.octets K.udaUdaIpv6)
  decide (bit (s.rd K.udaUdaPortMask) port = 1) && decide (q.status ≤ 1) && decide (bit q.flags 8 = 1)
    && decide (bit q.flags 7 = 0) && decide (beAt b (q.l4 + 2) 2 = s.rd K.udaUdaPort)
    && ((decide (bit q.flags 4 = 1) && decide (v4 ≠ 0) && decide (beAt b q.l3 1 % 16 = 5) && decide (beAt b (q.l3 + 16) 4 = v4))
      || (decide (bit q.flags 4 = 0) && decide (bit q.flags 5 = 1) && decide (v6 ≠ 0) && decide (beAt b (q.l3 + 24) 16 = v6)))

/-- The bytes of the UDP datagram, by its length field. -/
def udpBytes (b : List Byte) (q : Parsed) : List Byte := (b.drop q.l4).take (beAt b (q.l4 + 4) 2)

/-- The pseudo-header the UDP checksum covers. -/
def udpPseudo (b : List Byte) (q : Parsed) : List Byte :=
  let n := beAt b (q.l4 + 4) 2
  if bit q.flags 4 = 1 then slice b (q.l3 + 12) 8 ++ [0#8, 17#8] ++ toBE 2 n
  else slice b (q.l3 + 8) 32 ++ toBE 4 n ++ toBE 4 17

/-- The UDP checksum is absent or right. -/
def udpChecksumOk (b : List Byte) (q : Parsed) : Bool :=
  decide (beAt b (q.l4 + 6) 2 = 0) || decide (inetChecksum (udpPseudo b q ++ udpBytes b q) = 0)

/-- A message joins the engine's queue, or is lost and counted when that holds 32. R448, R463. -/
def State.udaQueue (s : State) (r : UdaReq) : State :=
  if 32 ≤ s.uda.engineQ.length then (s.bump K.ctrUdaQueueFull).almanacFirst 23 0x1306 3 0
  else { s with uda := { s.uda with engineQ := s.uda.engineQ ++ [r] } }

/-- A UDA frame at Classification cycle 11: policer, checksum, engine queue. Its cells return to the pool. R448. -/
def State.udaFrame (s : State) (port : Nat) (b : List Byte) (q : Parsed) : State :=
  let t := min (64 * 10 ^ 9) (s.uda.tokens + s.rd K.udaUdaRate * (s.now - s.uda.tokensAt))
  let s := ({ s with uda := { s.uda with tokens := t, tokensAt := s.now } } : State).freeChain q.firstCell ownIngress
  if t < 10 ^ 9 then (s.bump K.ctrUdaPolicerDrops).almanacFirst 23 0x1306 3 0
  else
    let s := { s with uda := { s.uda with tokens := t - 10 ^ 9 } }
    if !udpChecksumOk b q then s.bump K.ctrUdaMalformed
    else s.udaQueue ⟨true, port, q.l3, b.take (q.l4 + 8), (udpBytes b q).drop 8⟩

/-! ### Classification (R64 to R73) -/

/-- The descriptor of a parsed frame before classification. R74. -/
def Parsed.desc (q : Parsed) (port : Nat) : Desc :=
  { Desc.zero with
    ingressTs := q.ts, protoFlags := BitVec.ofNat 16 q.flags, l3 := BitVec.ofNat 10 q.l3, l4 := BitVec.ofNat 10 q.l4,
    payload := BitVec.ofNat 10 q.payload, firstCell := BitVec.ofNat 24 q.firstCell, cellCount := BitVec.ofNat 6 q.cells,
    tsDomain := BitVec.ofNat 2 q.tsDomain, frameLength := BitVec.ofNat 14 q.length, ingressPort := BitVec.ofNat 3 port,
    headerCount := BitVec.ofNat 6 q.headers.length, parseStatus := BitVec.ofNat 4 q.status, ingressSecY := q.secY,
    macsecOutcome := q.outcome, outerPcp := BitVec.ofNat 3 q.pcp, outerDei := q.dei, outerVid := BitVec.ofNat 12 q.vid,
    etherType := BitVec.ofNat 16 q.etherType }

/-- The parse counter of a status. R63, R83. -/
def parseCounter (p st : Nat) : Nat :=
  if st = 0 then K.ctrPrsParseOk p else if st = 1 then K.ctrPrsParseUnknownNext p else if st = 2 then K.ctrPrsParseTooDeep p
  else if st = 3 then K.ctrPrsParseTruncated p else if st = 4 then K.ctrPrsParseBeyondReach p
  else if st = 5 then K.ctrPrsParseBadLength p else if st = 6 then K.ctrPrsParseBadChecksum p else K.ctrPrsParseMalformed p

/-- A frame selected for scanning joins a lane under an identifier, or is skipped: its ScanState. R77, R78. -/
def State.selectScan (s : State) (port : Nat) (b : List Byte) (q : Parsed) (act : BitVec 32) (id : Nat) : Nat × State :=
  let fc := actFlow act
  if bit (s.rd (K.prsScanClassMask (fc / 64))) (fc % 64) = 1 ∧ q.payload < q.length then
    match s.scanLane with
    | some l => (1, { s with pc := { s.pc with
        lanes := tset [] s.pc.lanes l (tget [] s.pc.lanes l ++ [⟨port, id, s.scanBytes b q.payload, BitVec.ofNat 8 fc⟩]) } })
    | none => (2, (s.bump (K.ctrPrsScanSkippedBusy port)).almanacFirst 18 0x0302 3 0)
  else (0, s)

/-- The Bramble lookup of a frame for the software path. R90 to R92. -/
def State.descLookup (s : State) (port key : Nat) (b : List Byte) (q : Parsed) (d : Desc) : Desc × State :=
  let w := westPort port
  if actLookup d.ruleAction then
    let prof := actProfile d.ruleAction
    match s.brLookup w prof (s.brambleKey port b q key prof) with
    | (some (data, slot), s) =>
      ({ d with brambleHit := true, brambleWest := w, brambleData := data, brambleSlot := BitVec.ofNat 17 slot }, s)
    | (none, s) => ({ d with brambleWest := w }, s)
  else (d, s)

/-- Handling of a rule hit. R67, R68, R72, R73, R77. -/
def State.ruleHit (s : State) (port key : Nat) (b : List Byte) (q : Parsed) (ix : Nat) : State :=
  let act := (tget Rule.zero s.pc.rules ix).action
  let d := { q.desc port with ruleAction := act, ruleHit := true, ruleIndex := BitVec.ofNat 13 ix,
                              orderDomain := BitVec.ofNat 10 (actDomain act), level := BitVec.ofNat 3 (actLevel act),
                              windowSize := BitVec.ofNat 2 (actWindow act), flowClass := BitVec.ofNat 8 (actFlow act) }
  let s := s.when (actLearn act) (·.learnFrom port b q)
  if actVerdict act = 1 then (s.bump (K.ctrPrsRuleDrop port)).freeChain q.firstCell ownIngress
  else
    let id := s.pc.nextScan
    let s := { s with pc := { s.pc with nextScan := id + 1 } }
    let (ss, s) := s.selectScan port b q act id
    let d := { d with scanState := BitVec.ofNat 2 ss }
    if actVerdict act = 2 then s.exceptionPath port d
    else
      let (d, s) := s.descLookup port key b q d
      let s := s.setOutQ port (s.outQ port ++ [⟨d, id, false⟩])
      if ss = 1 then s else s.complete port id d

/-- CLASSIFY_FRAME: the oldest parsed frame of a port is accepted. R63 to R73, R81, R96, R448. -/
def execClassifyFrame (p : Fin 8) (s : State) : Host.Outcome State Fault Refusal :=
  let port := p.val
  match s.parsedQ port with
  | [] => .next s
  | q :: rest =>
    let s := (s.setParsedQ port rest).bump (parseCounter port q.status)
    let b := s.frameBytes q.firstCell q.length
    if 2 ≤ q.status then
      .next (if bit (s.rd K.prsParseFailAction) q.status = 1 then s.exceptionPath port (q.desc port)
        else s.freeChain q.firstCell ownIngress)
    else if s.isUdaFrame port b q then .next (s.udaFrame port b q)
    else
      let key := s.searchKey port b q
      match s.ruleSearch (westPort port) key with
      | (some ix, s) => .next (s.ruleHit port key b q ix)
      | (none, s) =>
        let s := s.bump (K.ctrPrsRuleNoHit port)
        .next (if s.rd K.prsNoHitAction = 1 then s.exceptionPath port (q.desc port) else s.freeChain q.firstCell ownIngress)

/-- SCAN_COMPLETE: a lane's oldest scan ends. R73, R78 to R81. -/
def execScanComplete (lane : Fin 8) (s : State) : Host.Outcome State Fault Refusal :=
  match tget [] s.pc.lanes lane.val with
  | [] => .next s
  | c :: rest =>
    if s.laneBusy lane.val then .next s else
    let runs := if s.cores.clientQ = [] then 0 else tget 0 s.pc.runs lane.val + 1
    let s := { s with pc := { s.pc with lanes := tset [] s.pc.lanes lane.val rest, runs := tset 0 s.pc.runs lane.val runs } }
    let s := s.bump (K.ctrPrsScanScanned c.port)
    let (ms, s) := s.scan c.bytes c.flowClass
    let top := topMatch ms
    let s := match top with
      | some (i, 1) => s.alert i c.port c.flowClass.toNat
      | _ => s
    match (s.outQ c.port).find? fun o => decide (o.id = c.id) with
    | none => .next s
    | some o =>
      let drop (s : State) : State := (s.setOutQ c.port ((s.outQ c.port).filter fun o => decide (o.id ≠ c.id)))
      match top with
      | none => .next (s.complete c.port c.id o.desc)
      | some (i, a) =>
        let d := { o.desc with patternHit := true, patternId := BitVec.ofNat 12 i }
        .next (if a = 3 then (((drop s).bump (K.ctrPrsPatternDrop c.port)).freeChain d.firstCell.toNat ownIngress).releaseOut c.port
          else if a = 2 then ((drop s).exceptionPath c.port d).releaseOut c.port
          else s.complete c.port c.id d)

/-! ### Table writes -/

/-- A parse-graph image within its bounds; bit offsets lie within the reach of 512 bytes, 0 to 4,095 (log entry 64, DESIGN CHOICE). R61,
R62. -/
def graphOk : GraphImage → Bool
  | .native n prof => decide (1 ≤ n.toNat) && decide (n.toNat ≤ 0x0F) && decide (prof.toNat ≤ 15)
  | .node n used fixed lenBit lenWidth scale add keyBit keyWidth _ prof =>
    decide (0x40 ≤ n.toNat) && decide (n.toNat ≤ 0x7F) && (!used ||
      ((match fixed with
        | some l => decide (1 ≤ l ∧ l ≤ 256)
        | none => decide (1 ≤ lenWidth ∧ lenWidth ≤ 16) && decide (scale = 1 ∨ scale = 2 ∨ scale = 4 ∨ scale = 8)
            && decide (add ≤ 255) && decide (lenBit < 4096))
        && decide (1 ≤ keyWidth ∧ keyWidth ≤ 32) && decide (keyBit < 4096) && decide (prof ≤ 15)))
  | .transition t used frm _ _ dest =>
    decide (t.toNat < 1024) && (!used ||
      ((decide (1 ≤ frm.toNat ∧ frm.toNat ≤ 0x0F) || decide (0x40 ≤ frm.toNat ∧ frm.toNat ≤ 0x7F))
        && (decide (0x40 ≤ dest.toNat ∧ dest.toNat ≤ 0x7F)
          || (decide (0x40 ≤ frm.toNat) && decide (1 ≤ dest.toNat ∧ dest.toNat ≤ 0x0F)))))

/-- PARSE_GRAPH_WRITE through domain 7010. R61, R62, R65, R471. -/
def execParseGraphWrite (g : GraphImage) (s : State) : Host.Outcome State Fault Refusal :=
  if graphOk g then
    let s := s.bump K.cmtStagedWrites
    .next ((match g with
      | .native n prof => { s with pc := { s.pc with nativeProfile := tset 0 s.pc.nativeProfile n.toNat prof.toNat } }
      | .node n used fixed lenBit lenWidth scale add keyBit keyWidth terminal prof => { s with pc := { s.pc with
          nodes := tset ProgNode.zero s.pc.nodes n.toNat
            (if used then ⟨true, fixed, lenBit, lenWidth, scale, add, keyBit, keyWidth, terminal, prof⟩ else ProgNode.zero) } }
      | .transition t used frm v m dest => { s with pc := { s.pc with
          transitions := tset Transition.zero s.pc.transitions t.toNat
            (if used then ⟨true, frm.toNat, v, m, dest.toNat⟩ else Transition.zero) } } : State).status 0)
  else .next (s.status opRefused)

/-- A key-profile image within R547. -/
def extractOk (w : Nat) : Bool :=
  decide (bits w 62 54 = 0) && decide (bits w 47 44 = 0) && decide (bits w 31 22 = 0) && decide (bits w 15 9 = 0)
    && (decide (bit w 63 = 0) || (decide (1 ≤ bits w 53 48 ∧ bits w 53 48 ≤ 32)
      && decide (bits w 8 0 + bits w 21 16 + 1 ≤ 480)))

/-- KEY_PROFILE_WRITE through domain 7013. R65, R547. -/
def execKeyProfileWrite (p : Fin 16) (image : List Byte) (s : State) : Host.Outcome State Fault Refusal :=
  let ws := (List.range 16).map fun i => leAt image (8 * i) 8
  if image.length = 128 ∧ ws.all extractOk then
    let t := (List.range 16).foldl (fun t i => tset 0 t (16 * p.val + i) (leAt image (8 * i) 8)) s.pc.keyProfiles
    .next ((({ s with pc := { s.pc with keyProfiles := t } } : State).bump K.cmtStagedWrites).status 0)
  else .next (s.status opRefused)

/-- RULE_WRITE through domain 7011: a whole entry in both copies; the position's hit counter is kept (log entry 63, DESIGN CHOICE). R67,
R69, R71. -/
def execRuleWrite (pos : Fin 8192) (valid : Bool) (value mask : BitVec 512) (action : BitVec 32) (s : State) :
    Host.Outcome State Fault Refusal :=
  if actOk action then
    .next ((({ s with pc := { s.pc with rules := tmod Rule.zero s.pc.rules pos.val fun r =>
      ⟨valid, value, mask, action, r.hits, false, false, false, false, false, false⟩ } } : State).bump K.cmtStagedWrites).status 0)
  else .next (s.status opRefused)

/-- PATTERN_WRITE through domain 7012; the position's hit counter is kept (log entry 63, DESIGN CHOICE). R76, R80. -/
def execPatternWrite (pos : Fin 4096) (im : PatternImage) (s : State) : Host.Outcome State Fault Refusal :=
  if 1 ≤ im.bytes.length ∧ im.bytes.length ≤ 64 ∧ im.anchor.toNat ≤ 2 ∧ im.offset.toNat ≤ 2047 ∧ im.range.toNat ≤ 2047
      ∧ im.action.toNat ≤ 3 then
    .next ((({ s with pc := { s.pc with patterns := tmod Pattern.zero s.pc.patterns pos.val fun p =>
      ⟨im.valid, im.bytes, im.noCase, im.anchor.toNat, im.offset.toNat, im.range.toNat, im.flowValue, im.flowMask,
       im.action.toNat, p.hits, false⟩ } } : State).bump K.cmtStagedWrites).status 0)
  else .next (s.status opRefused)

end Sys2Proof.Machine
end

