-- ==== Sys2Proof/Machine/MacSec.lean ====
section
/-! DEFINITION. The MACsec engines (02_port_complex.md, R47 to R53): verification of a received frame, protection of a frame
to be sent, packet numbers. Keys and IVs follow IEEE 802.1AE (log entry 10). -/

namespace Sys2Proof.Machine

/-- The key of secure channel `c` of port `p`. -/
def scKey (p c : Nat) : Nat := 256 * p + c

def State.chan (s : State) (p c : Nat) : SecChan := tget SecChan.zero s.px.chans (scKey p c)
def State.sa (s : State) (k : Nat) : Sa := tget Sa.zero s.px.sas k
def State.setSa (s : State) (k : Nat) (a : Sa) : State := { s with px := { s.px with sas := tset Sa.zero s.px.sas k a } }

/-- The index of SecY `y` of port `p` among the SecY records. R55. -/
def secyIx (p y : Nat) : Nat := 64 * p + y

/-- SecYs of a port. R47. -/
def secyCount (p : Nat) : Nat := if p < 4 then 16 else if p < 7 then 64 else 0

/-- Secure channels of a port. R47. -/
def scCount (p : Nat) : Nat := if p < 4 then 64 else if p < 7 then 256 else 0

/-- A suite with extended packet numbers. R47, R55. -/
def xpnSuite (c : Nat) : Bool := decide (c = 3 ∨ c = 4)

/-- PnThreshold's default of a suite. R53, R55. -/
def pnThresholdOf (c : Nat) : Nat := if xpnSuite c then 0xC000000000000000 else 0xC0000000

/-- A MACsec counter of a port, with that of the channel and of the association the frame belongs to, which count what the port's
record counts (log entry 54). R56. -/
def State.countSec (s : State) (key : Nat) (chan assoc : Option Nat) : State :=
  let up (t : Tbl Nat) : Tbl Nat := tmod 0 t (key % 256) fun n => (n + 1) % 2 ^ 64
  let s := s.bump key
  let s := match chan with
    | some c => { s with px := { s.px with chans := tmod SecChan.zero s.px.chans c fun x => { x with ctrs := up x.ctrs } } }
    | none => s
  match assoc with
  | some k => s.setSa k { s.sa k with ctrs := up (s.sa k).ctrs }
  | none => s

/-- The parts of a frame with a SecTAG. -/
structure SecTag where
  bad : Bool        -- malformed
  an : Nat
  enc : Bool        -- E
  sci : Nat         -- explicit, or source MAC with port identifier 0x0001 (R49)
  pn : Nat
  len : Nat         -- SecTAG bytes
  data : Nat        -- secure data bytes
deriving DecidableEq, Repr

/-- The SecTAG of a frame whose EtherType is 0x88E5 (frame without FCS). Malformed, where the spec gives no list, is what IEEE 802.1AE
calls invalid (log entry 55, PRESUMED): version bit set, short length of 64 or more, SC with ES or SCB, C without E, a frame too short
for its SecTAG, ICV and short length. A packet number of 0 is judged where the suite is known. R49. -/
def secTagOf (b : List Byte) : SecTag :=
  let tci := beAt b 14 1
  let sl := beAt b 15 1
  let sc := decide (bit tci 5 = 1)
  let len := if sc then 16 else 8
  let e := decide (bit tci 3 = 1)
  let rest := b.length - (12 + len + 16)
  let data := if sl = 0 then rest else sl
  let pn := beAt b 16 4
  ⟨decide (bit tci 7 = 1) || decide (64 ≤ sl) || (sc && decide (bits tci 6 6 = 1 ∨ bit tci 4 = 1))
     || (decide (bit tci 2 = 1) && !e) || decide (b.length < 12 + len + 16)
     || decide (rest < data),
   tci % 4, e, if sc then beAt b 20 8 else beAt b 6 6 * 65536 + 1, pn, len, data⟩

/-- The receive channel of an SCI among a port's enabled SecYs. R49. -/
def State.rxChannel (s : State) (p sci : Nat) : Option Nat :=
  (List.range (scCount p)).find? fun c =>
    let x := s.chan p c
    x.used && x.rx && decide (x.sci.toNat = sci) && s.on (K.secyEnable (secyIx p x.secy))

/-- The full packet number of a received frame: its SecTAG's, extended from the lowest acceptable one under XPN. -/
def fullPn (xpn : Bool) (lowest pn : Nat) : Nat :=
  if xpn then
    let hi := lowest / 2 ^ 32
    (if bit lowest 31 = 1 ∧ bit pn 31 = 0 then hi + 1 else hi) * 2 ^ 32 + pn
  else pn

/-- The IV of a frame: SCI and PN, or the salt XOR of SSCI and PN under XPN. -/
def secIv (xpn : Bool) (sci : Nat) (a : Sa) (pn : Nat) : List Byte :=
  if xpn then
    List.zipWith (fun (x y : Byte) => x ^^^ y) (slice a.salt 0 12) (toBE 4 a.ssci.toNat ++ toBE 8 pn)
  else toBE 8 sci ++ toBE 4 pn

/-- The lowest acceptable PN of a receive association in force. R49. -/
def State.lowestOf (s : State) (p y : Nat) (a : Sa) : Nat :=
  max a.lowestPn (a.nextPn - s.rd (K.secyReplayWindow (secyIx p y)))

/-- What the ingress engine does with a frame: delivered bytes, SecY and outcome, or none when it is dropped; and whether it
was dropped as late or not valid (R120). -/
structure RxVerdict where
  out : Option (List Byte × BitVec 8 × BitVec 3)
  stomp : Bool

/-- A frame without SecTAG and ICV. R58. -/
def stripTag (b : List Byte) (t : SecTag) (data : List Byte) : List Byte := b.take 12 ++ data.take t.data

/-- Verification of a frame on a matched association. R49. -/
def State.macsecVerify (s : State) (p y k : Nat) (t : SecTag) (b : List Byte) : RxVerdict × State :=
  let i := secyIx p y
  let a := s.sa k
  let xpn := xpnSuite (s.rd (K.secyCipherSuite i))
  let pn := fullPn xpn (s.lowestOf p y a) t.pn
  let off := if t.enc then s.rd (K.secyConfidentialityOffset i) else t.data
  let body := slice b (12 + t.len) t.data
  let tag := slice b (12 + t.len + t.data) 16
  let aad := b.take (12 + t.len) ++ body.take off
  let yb := BitVec.ofNat 8 y
  let c := some (k / 4)
  match gcmOpen a.key (secIv xpn t.sci a pn) aad (body.drop off) tag with
  | none =>
    let s := s.almanacFirst 0 0x0210 4 (k / 4) [(1, p), (1, y), (1, t.an)]
    if s.rd (K.secyValidateFrames i) = 2 then (⟨none, true⟩, s.countSec (K.ctrSecInPktsNotValid p) c (some k))
    else (⟨some (b, yb, 4#3), false⟩, s.countSec (K.ctrSecInPktsInvalid p) c (some k))
  | some pt =>
    let inWindow := decide (s.lowestOf p y a ≤ pn)
    let next := max a.nextPn (pn + 1)
    let a' := { a with nextPn := next, lowestPn := max a.lowestPn (next - s.rd (K.secyReplayWindow i)) }
    let plain := stripTag b t (body.take off ++ pt)
    if inWindow then (⟨some (plain, yb, 1#3), false⟩, (s.setSa k a').countSec (K.ctrSecInPktsOK p) c (some k))
    else if s.on (K.secyReplayProtect i) then (⟨none, true⟩, s.countSec (K.ctrSecInPktsLate p) c (some k))
    else (⟨some (plain, yb, 2#3), false⟩, (s.setSa k a').countSec (K.ctrSecInPktsDelayed p) c (some k))

/-- The ingress MACsec engine on a frame (without FCS). R49. -/
def State.macsecRx (s : State) (p : Nat) (b : List Byte) : RxVerdict × State :=
  let et := beAt b 12 2
  let bypass := decide (et = 0x888E) || (List.range 8).any fun j => decide (et ≠ 0 ∧ s.rd (K.portBypassEtherType p j) = et)
  let v0 := s.rd (K.secyValidateFrames (secyIx p 0))
  let on0 := s.on (K.secyEnable (secyIx p 0))
  let pass : RxVerdict := ⟨some (b, 0xFF#8, 0#3), false⟩
  if p = 7 ∨ bypass then (pass, s)
  else if et ≠ 0x88E5 then
    if !on0 then (pass, s)
    else if v0 = 2 then (⟨none, false⟩, s.bump (K.ctrSecInPktsNoTag p))
    else (pass, s.bump (K.ctrSecInPktsUntagged p))
  else
    let t := secTagOf b
    let unchecked (y : Nat) (c : Option Nat) : RxVerdict × State :=
      (⟨some (stripTag b t (slice b (12 + t.len) t.data), BitVec.ofNat 8 y, 3#3), false⟩, s.countSec (K.ctrSecInPktsUnchecked p) c none)
    let zeroPn (y : Nat) : Bool := decide (t.pn = 0) && !xpnSuite (s.rd (K.secyCipherSuite (secyIx p y)))
    if t.bad then (⟨none, false⟩, s.bump (K.ctrSecInPktsBadTag p))
    else match s.rxChannel p t.sci with
      | none =>
        if zeroPn 0 then (⟨none, false⟩, s.bump (K.ctrSecInPktsBadTag p))
        else if !on0 ∨ v0 = 1 then (⟨some (b, 0#8, 5#3), false⟩, s.bump (K.ctrSecInPktsUnknownSCI p))
        else if v0 = 2 then (⟨none, false⟩, s.bump (K.ctrSecInPktsNoSCI p))
        else unchecked 0 none
      | some c =>
        let y := (s.chan p c).secy
        let v := s.rd (K.secyValidateFrames (secyIx p y))
        let k := 4 * scKey p c + t.an
        let ch := some (scKey p c)
        if zeroPn y then (⟨none, false⟩, s.countSec (K.ctrSecInPktsBadTag p) ch none)
        else if v = 0 then unchecked y ch
        else if !(s.sa k).installed then
          if v = 2 then (⟨none, false⟩, s.countSec (K.ctrSecInPktsNotUsingSA p) ch (some k))
          else (⟨some (b, BitVec.ofNat 8 y, 6#3), false⟩, s.countSec (K.ctrSecInPktsUnusedSA p) ch (some k))
        else s.macsecVerify p y k t b

/-! ### Egress (R50 to R53) -/

/-- The transmit channel of a SecY. R48. -/
def State.txChannel (s : State) (p y : Nat) : Option Nat :=
  (List.range (scCount p)).find? fun c => (s.chan p c).used && !(s.chan p c).rx && decide ((s.chan p c).secy = y)

/-- Bytes MACsec adds to a frame of SecY `y`: SecTAG and ICV. R47, R50. -/
def State.secGrowth (s : State) (p y : Nat) : Nat :=
  if p = 7 ∨ secyCount p ≤ y then 0
  else if s.on (K.secyEnable (secyIx p y)) && s.on (K.secyProtectFrames (secyIx p y)) then
    (if s.on (K.secyIncludeSCI (secyIx p y)) then 32 else 24)
  else 0

/-- The length on the line of a frame of `n` bytes before MACsec: with SecTAG, ICV, pad and FCS. R34, R333. -/
def State.lineLength (s : State) (p y n : Nat) : Nat := max (n + s.secGrowth p y) 60 + 4

/-- A frame longer than MaxFrame is discarded. R51. -/
def State.tooLong (s : State) (p y n : Nat) : Bool := decide (s.rd (K.portMaxFrame p) < s.lineLength p y n)

/-- The egress cases of R50 that discard a frame, before its length is tested: the machine with the discard counted. -/
def State.egressBar (s : State) (p y : Nat) : Option State :=
  let i := secyIx p y
  if p = 7 ∨ y = 0xFF then none
  else if secyCount p ≤ y ∨ !s.on (K.secyEnable i) then some (s.bump (K.ctrSecTxSecYDrops p))
  else if !s.on (K.secyProtectFrames i) then none
  else if s.px.zeroised then some (s.bump K.ctrBinZeroisedTxDrops)
  else match s.txChannel p y with
    | none => some (s.bump (K.ctrSecTxNoSA p))
    | some c =>
      let k := 4 * scKey p c + s.rd (K.secyEncodingSA i)
      let a := s.sa k
      if !a.installed then some (s.bump (K.ctrSecTxNoSA p))
      else if a.exhausted then
        let s := s.countSec (K.ctrSecTxPnExhausted p) (some (scKey p c)) (some k)
        let a := s.sa k
        some (if a.discarded then s
          else (s.setSa k { a with discarded := true }).almanac 0 0x0212 4 [(1, p), (1, y), (1, s.rd (K.secyEncodingSA i))])
      else none

/-- A packet number taken from a transmit association. R53. -/
def State.takePn (s : State) (p y k : Nat) : Nat × State :=
  let i := secyIx p y
  let a := s.sa k
  let last := if xpnSuite (s.rd (K.secyCipherSuite i)) then 2 ^ 64 - 1 else 2 ^ 32 - 1
  let pn := a.nextPn
  let a' := if pn = last then { a with exhausted := true } else { a with nextPn := pn + 1 }
  let s1 := s.setSa k a'
  let thr := s.rd (K.secyPnThreshold i)
  let s1 := if a'.nextPn = thr ∧ pn < thr then
      ({ s1 with px := { s1.px with mkaNotified := s1.px.mkaNotified ++ [k] } } : State).almanac 0 0x0211 2
        [(1, p), (1, y), (1, s.rd (K.secyEncodingSA i))]
    else s1
  (pn, s1)

/-- Protection of a frame of SecY `y` that passed egressBar begins: its packet number is taken and the frame counted; none when it is
sent unprotected. The SCI of the SecTAG and of the IV is TxSCI, with and without IncludeSCI (log entry 56). R50, R52, R53. -/
def State.egressGuard (s : State) (p y : Nat) : Option TxGuard × State :=
  let i := secyIx p y
  if p = 7 then (none, s)
  else if y = 0xFF ∨ !s.on (K.secyProtectFrames i) then (none, s.bump (K.ctrSecOutPktsUntagged p))
  else
    let an := s.rd (K.secyEncodingSA i)
    let c := scKey p ((s.txChannel p y).getD 0)
    let k := 4 * c + an
    let a := s.sa k
    let conf := s.on (K.secyConfidentialityProtection i)
    let r := s.takePn p y k
    (some ⟨an, a.key, a.salt, a.ssci, xpnSuite (s.rd (K.secyCipherSuite i)), s.rd (K.secyTxSCI i), s.on (K.secyIncludeSCI i), conf,
           s.rd (K.secyConfidentialityOffset i), r.1⟩,
     r.2.countSec (if conf then K.ctrSecOutPktsEncrypted p else K.ctrSecOutPktsProtected p) (some c) (some k))

/-- A frame as the egress engine sends it, before pad and FCS: SecTAG and secure data, and the ICV. R50. -/
def TxGuard.cover (g : TxGuard) (b : List Byte) : List Byte × List Byte :=
  let body := b.drop 12
  let sl := if body.length < 48 then body.length else 0
  let tci := (if g.inc then 0x20 else 0) + (if g.conf then 0x0C else 0) + g.an
  let tag := toBE 2 0x88E5 ++ toBE 1 tci ++ toBE 1 sl ++ toBE 4 (g.pn % 2 ^ 32) ++ (if g.inc then toBE 8 g.sci else [])
  let off := if g.conf then g.off else body.length
  let a := { Sa.zero with salt := g.salt, ssci := g.ssci }
  let e := gcmSeal g.key (secIv g.xpn g.sci a g.pn) (b.take 12 ++ tag ++ body.take off) (body.drop off)
  (b.take 12 ++ tag ++ body.take off ++ e.1, e.2)

/-- A frame under its protection, if any, with ICV. R50. -/
def underGuard (g : Option TxGuard) (b : List Byte) : List Byte :=
  match g with
  | some g => (g.cover b).1 ++ (g.cover b).2
  | none => b

/-- A frame padded to 60 bytes. R34. -/
def padFrame (b : List Byte) : List Byte := b ++ List.replicate (60 - b.length) 0#8

/-- The complement of the FCS of the bytes sent, which ends a stomped frame. R120. -/
def stompFcs (b : List Byte) : Nat := 0xFFFFFFFF - fcs b

/-- The mCRC that ends a fragment: the FCS of the frame's bytes so far with its last two bytes inverted (IEEE 802.3br, log entry 57).
R41. -/
def mcrc (b : List Byte) : Nat := fcs b ^^^ 0xFFFF0000

/-- What the ingress engine delivers of a frame on a matched association while it arrives: SecTAG removed and keystream applied. R115. -/
def State.plainBytes (s : State) (p y k : Nat) (t : SecTag) (w : List Byte) : List Byte :=
  let i := secyIx p y
  let a := s.sa k
  let xpn := xpnSuite (s.rd (K.secyCipherSuite i))
  let body := w.drop (12 + t.len)
  let off := s.rd (K.secyConfidentialityOffset i)
  let iv := secIv xpn t.sci a (fullPn xpn (s.lowestOf p y a) t.pn)
  w.take 12 ++ (if t.enc then body.take off ++ gcmCrypt (aesKeys a.key) iv (body.drop off) else body)

/-- What the ingress engine delivers of a frame's bytes, whatever its verdict will be: unchanged without a SecTAG of an installed
association. R58, R59, R115. -/
def State.asDelivered (s : State) (p : Nat) (w : List Byte) : List Byte :=
  let t := secTagOf (w ++ List.replicate 96 0#8)
  if p = 7 ∨ beAt w 12 2 ≠ 0x88E5 then w
  else match s.rxChannel p t.sci with
    | some c =>
      let k := 4 * scKey p c + t.an
      if (s.sa k).installed then s.plainBytes p (s.chan p c).secy k t w else w
    | none => w

/-! ### The commands -/

/-- A write of CipherSuite: PnThreshold takes the default of the new suite; refused against ReplayWindow. R55, R442. -/
def State.cipherSuiteWrite (s : State) (i suite : Nat) : State :=
  if suite = 0 ∨ 4 < suite then s.aborted Abort.valueRange
  else if xpnSuite suite ∧ 0x3FFFFFFF < s.rd (K.secyReplayWindow i) then s.aborted Abort.inconsistent
  else ((s.wrP (K.secyCipherSuite i) suite).wr (K.secyPnThreshold i) (pnThresholdOf suite)).aborted Abort.ok

/-- CIPHER_SUITE_WRITE. R55. -/
def execCipherSuiteWrite (p : Fin 7) (secy : Fin 64) (suite : BitVec 8) (s : State) : Host.Outcome State Fault Refusal :=
  .next (if secy.val < secyCount p.val then s.cipherSuiteWrite (secyIx p.val secy.val) suite.toNat
    else s.aborted Abort.noObject)

/-- MACSEC_SC_WRITE: the MKA service installs, changes or removes a secure channel. R48, R471. -/
def execMacsecScWrite (p : Fin 7) (sc : Fin 256) (used rx : Bool) (secy : Fin 64) (sci : BitVec 64) (s : State) :
    Host.Outcome State Fault Refusal :=
  let second := used && !rx && (List.range (scCount p.val)).any fun c =>
    decide (c ≠ sc.val) && (s.chan p.val c).used && !(s.chan p.val c).rx && decide ((s.chan p.val c).secy = secy.val)
  let old := s.chan p.val sc.val
  let c := if used then ⟨true, rx, secy.val, sci, old.ctrs⟩ else SecChan.zero
  .next (if scCount p.val ≤ sc.val ∨ secyCount p.val ≤ secy.val ∨ second then s.status opRefused
    else
      let s := { s with px := { s.px with chans := tset SecChan.zero s.px.chans (scKey p.val sc.val) c } }
      ((List.range 4).foldl (fun s an => if used then s else s.setSa (4 * scKey p.val sc.val + an) Sa.zero) s).status 0)

end Sys2Proof.Machine
end

