-- ==== Sys2Proof/Machine/Port.lean ====
section
/-! DEFINITION. The MACs (02_port_complex.md): modes and link state, reception, flow control, preemption verification and
reassembly. Transmission is with the Traffic Manager. -/

namespace Sys2Proof.Machine

/-- LinkState values. R32. -/
def linkUp : Nat := 1

/-- The mode codes a port supports. R29. -/
def modeOk (p code : Nat) : Bool :=
  if p < 4 then decide (1 ≤ code ∧ code ≤ 4) else if p < 7 then decide (code = 5) else decide (code = 6)

/-- The rate of a port in kbit/s. R29. -/
def State.portRate (s : State) (p : Nat) : Nat :=
  let m := s.rd (K.portMode p)
  if m = 1 then 50000000 else if m = 2 ∨ m = 3 then 25000000 else if m = 4 then 10000000 else if m = 5 then 200000000
  else if s.rd (K.portSgmiiSpeed p) = 2 then 1000000 else if s.rd (K.portSgmiiSpeed p) = 1 then 100000 else 10000

/-- The Lodestar frames an egress port holds discarded: whole frames, and delayed ones whose bytes the MAC buffers. R116, R118. -/
def State.dropHeld (s : State) (p : Nat) : State :=
  let held (f : Flight) : Bool := decide (f.egress = p) && decide (f.form ≠ 0)
  ({ s with lode := { s.lode with flights := s.lode.flights.filter fun f => !held f } } : State).bump
    K.ctrLodeLinkDrop (s.lode.flights.filter held).length

/-- The MAC sends remote-fault ordered sets; in every other state that is not up it sends idle. R32. -/
def State.sendsRemoteFault (s : State) (p : Nat) : Bool := decide (s.rd (K.portLinkState p) = 2)

/-- A port's link leaves up while Lodestar takes a frame from it: the frame ends as one with a code error (log entry 58). R32, R120. -/
def State.lodeCut (s : State) (p : Nat) : State :=
  match (s.port p).lodeIn with
  | none => s
  | some id =>
    let s := s.setPort p { s.port p with lodeIn := none }
    { s with lode := { s.lode with flights := s.lode.flights.map fun f =>
      if f.id = id then { f with verdict := some 1, arrived := some (s.lineLength f.egress f.secY.toNat f.payload.length) } else f } }

/-- A new link state. R32, R54, R118. -/
def State.setLink (s : State) (p st : Nat) : State :=
  let old := s.rd (K.portLinkState p)
  if old = st then s
  else
    let s := s.wr (K.portLinkState p) st
    if old = linkUp then
      ((s.wr (K.portLinkDownCount p) ((s.rd (K.portLinkDownCount p) + 1) % 2 ^ 32)).almanac 0 0x0201 3 [(1, p)]).dropHeld p |>.lodeCut p
    else if st = linkUp then
      let s := s.almanac 0 0x0202 1 [(1, p)]
      if p < 7 ∧ s.rd K.rstLodestarReadyTime = 0 then
        s.wr K.rstLodestarReadyTime ((s.now - s.boot.releasedAt) / 1000)
      else s
    else s

/-- A write of a port's Mode. R30. -/
def State.modeWrite (s : State) (p code : Nat) : State :=
  if !modeOk p code then s.aborted Abort.valueRange
  else if s.rd (K.portMode p) = code then (s.wrP (K.portMode p) code).aborted Abort.ok
  else
    let s := (s.wrP (K.portMode p) code).setLink p 0
    (s.setPort p { s.port p with reprog := true }).aborted Abort.ok

/-- MODE_WRITE. R30. -/
def execModeWrite (p : Fin 8) (code : BitVec 8) (s : State) : Host.Outcome State Fault Refusal :=
  .next (s.modeWrite p.val code.toNat)

/-- LINK_REPROGRAM_DONE. R30. -/
def execLinkReprogramDone (p : Fin 8) (s : State) : Host.Outcome State Fault Refusal :=
  .next (s.setPort p.val { s.port p.val with reprog := false })

/-- The SerDes PLL of a backbone port's lanes, after the 24 islands' PLLs. R29, R518. -/
def serdesPll (p : Nat) : Nat := if p < 4 then 23 else 20 + p

/-- A backbone port is held down: until boot step 5 ends, or without its SerDes PLL. R519, R525. -/
def State.portHeld (s : State) (p : Nat) : Bool :=
  decide (p < 7) && (!s.boot.rstout || decide ((tget (0, 0) s.boot.plls (serdesPll p)).1 ≠ 1))

/-- LINK_STATE_CHANGE: the Reconciliation Sublayer's report. The link is not up while AdminUp is 0, while the lane is being
reprogrammed, while the port is held down, or on M0 before an auto-negotiation. R30, R32, R54, R519, R525. -/
def execLinkStateChange (p : Fin 8) (st : Fin 4) (s : State) : Host.Outcome State Fault Refusal :=
  let x := s.port p.val
  let barred := !s.on (K.portAdminUp p.val) || x.reprog || s.portHeld p.val || (decide (p.val = 7) && !x.anDone)
  .next (if st.val = linkUp ∧ barred then s else s.setLink p.val st.val)

/-- SGMII_AN_COMPLETE on M0. R54. -/
def execSgmiiAnComplete (speed : Fin 3) (s : State) : Host.Outcome State Fault Refusal :=
  .next ((s.setPort 7 { s.port 7 with anDone := true }).wr (K.portSgmiiSpeed 7) speed.val)

/-! ### Flow control (R43 to R46) -/

/-- A received PAUSE or PFC frame. R43, R46. -/
def State.pauseRx (s : State) (p : Nat) (b : List Byte) : State :=
  let isPfc := decide (beAt b 14 2 = 0x0101)
  let mode := s.rd (K.portFlowControl p)
  let acts := if p < 4 then false else if p = 7 then !isPfc else if isPfc then decide (mode = 2) else decide (mode = 1)
  if !acts then s.bump (K.ctrPortRxPauseIgnored p)
  else
    let s := s.bump (K.ctrPortRxPauseFrames p)
    let x := s.port p
    if isPfc then
      let en := beAt b 16 2
      s.setPort p { x with pausePrio := (List.range 8).foldl (fun t q =>
        if bit en q = 1 then tset 0 t q (beAt b (18 + 2 * q) 2) else t) x.pausePrio }
    else s.setPort p { x with pauseAll := beAt b 16 2 }

/-- A port's transmission of a priority is halted. R46. -/
def State.halted (s : State) (p prio : Nat) : Bool :=
  decide ((s.port p).pauseAll ≠ 0) || decide (tget 0 (s.port p).pausePrio prio ≠ 0)

/-- PAUSE_QUANTA_EXPIRY: of a PAUSE, or of a PFC priority. R46. -/
def execPauseQuantaExpiry (p : Fin 8) (prio : Option (Fin 8)) (s : State) : Host.Outcome State Fault Refusal :=
  let x := s.port p.val
  .next (s.setPort p.val (match prio with
    | none => { x with pauseAll := 0 }
    | some q => { x with pausePrio := tset 0 x.pausePrio q.val 0 }))

/-- The priorities of a port mapped to a pool under back-pressure; none of a reserved pool. R44, R45, R311. -/
def State.pressed (s : State) (p : Nat) : BitVec 8 :=
  BitVec.ofNat 8 (((List.range 8).filter fun q =>
    s.on (K.poolBackPressure (s.poolOf p q)) && !s.on (K.poolReserved (s.poolOf p q))).foldl (fun a q => a + 2 ^ q) 0)

/-- A control frame queued to be sent next. R44. -/
def State.queueCtrl (s : State) (p : Nat) (c : CtrlFrame) : State :=
  s.setPort p { s.port p with ctrlQ := (s.port p).ctrlQ ++ [c] }

/-- BACKPRESSURE_CHANGE: the present back-pressure of the port's pools reaches the MAC of H0, H1 or P0. R44, R45. -/
def execBackpressureChange (p : Fin 8) (s : State) : Host.Outcome State Fault Refusal :=
  let old := (s.port p.val).bp
  let new := s.pressed p.val
  let q := s.rd (K.portPauseQuanta p.val)
  if p.val < 4 ∨ p.val = 7 ∨ old = new then .next s
  else
    let s := s.setPort p.val { s.port p.val with bp := new }
    let mode := s.rd (K.portFlowControl p.val)
    .next (if mode = 1 then
        (if old = 0#8 then s.queueCtrl p.val (.pause q) else if new = 0#8 then s.queueCtrl p.val (.pause 0) else s)
      else if mode = 2 then
        let start := new &&& ~~~old
        let stop := old &&& ~~~new
        (s.when (decide (start ≠ 0#8)) (·.queueCtrl p.val (.pfc start q))).when (decide (stop ≠ 0#8))
          (·.queueCtrl p.val (.pfc stop 0))
      else s)

/-- PAUSE_REFRESH_TIMER. R44. -/
def execPauseRefreshTimer (p : Fin 8) (s : State) : Host.Outcome State Fault Refusal :=
  let bp := (s.port p.val).bp
  let q := s.rd (K.portPauseQuanta p.val)
  let mode := s.rd (K.portFlowControl p.val)
  .next (if bp = 0#8 ∨ p.val < 4 ∨ p.val = 7 then s
    else if mode = 1 then s.queueCtrl p.val (.pause q) else if mode = 2 then s.queueCtrl p.val (.pfc bp q) else s)

/-! ### Preemption (R39 to R42) -/

/-- VerifyStatus values; the one of reset and of PreemptEnable 0 is the model's choice (log entry 72). -/
def vsInitial : Nat := 1
def vsVerifying : Nat := 2
def vsSucceeded : Nat := 3
def vsFailed : Nat := 4

/-- Preemption is active on a port. R40. -/
def State.preemptActive (s : State) (p : Nat) : Bool :=
  decide (p < 4) && s.on (K.portPreemptEnable p) &&
    (s.on (K.portVerifyDisable p) || decide (s.rd (K.portVerifyStatus p) = vsSucceeded))

/-- PREEMPT_VERIFY_TIMER on a zone port. R40. -/
def execPreemptVerifyTimer (p : Fin 8) (s : State) : Host.Outcome State Fault Refusal :=
  let x := s.port p.val
  let st := s.rd (K.portVerifyStatus p.val)
  if p.val < 4 ∧ s.on (K.portPreemptEnable p.val) ∧ !s.on (K.portVerifyDisable p.val) ∧ (st = vsInitial ∨ st = vsVerifying) then
    .next (if x.verifyTries < 3 then
        ((s.setPort p.val { x with verifyTries := x.verifyTries + 1 }).queueCtrl p.val .verify).wr
          (K.portVerifyStatus p.val) vsVerifying
      else (s.wr (K.portVerifyStatus p.val) vsFailed).almanac 0 0x0203 3 [(1, p.val)])
  else .next s

/-! ### Reception (R33, R36, R37, R42, R58) -/

/-- The end of the frame of a Lodestar flight: its verdict, the delivered bytes and its ingress timestamp. R114, R120. -/
def State.flightEnd (s : State) (id verdict : Nat) (b : List Byte) (ts : BitVec 64) : State :=
  { s with lode := { s.lode with flights := s.lode.flights.map fun f =>
    if f.id = id then { f with verdict := some verdict, payload := b, ts := some ts,
                               arrived := some (s.lineLength f.egress f.secY.toNat b.length) } else f } }

/-- The ingress timestamp of a frame whose first bit came `age` units before the present. R36, R37, R325. -/
def State.rxTs (s : State) (p dom age : Nat) : BitVec 64 :=
  BitVec.ofInt 64 ((s.domainUnits dom : Int) - (age : Int) + s.rdInt 32 (K.portRxTsCorrection p))

/-- The Chronometer domain of a priority or class of a port. R325. -/
def State.tsDomainOf (s : State) (p q : Nat) : Nat := bits (s.rd (K.tmpTsDomainMap p)) (2 * q + 1) (2 * q)

/-- The bytes the MACsec engine has delivered of a whole frame by its end: the ICV is not among them. R49, R58. -/
def State.deliveredAll (s : State) (p : Nat) (b : List Byte) : List Byte :=
  s.asDelivered p (if beAt b 12 2 = 0x88E5 then b.take (b.length - 16) else b)

/-- The frame on a port, when Lodestar has taken it, ends with a verdict. R114, R118, R120. -/
def State.lodeEnd (s : State) (p verdict : Nat) (b : List Byte) (age : Nat) : State :=
  match (s.port p).lodeIn with
  | some id => (s.setPort p { s.port p with lodeIn := none }).flightEnd id verdict b
      (s.rxTs p (s.tsDomainOf p (s.ingressPriority p b)) age)
  | none => s

/-- A whole frame at the receive MAC. One that the MAC or the MACsec engine drops is dropped for Lodestar too: R120 names the events
that stomp it on the line, and a held one has a bad verdict (log entry 58). R33, R43, R46, R49, R58. -/
def State.rxWhole (s : State) (p : Nat) (bytes : List Byte) (codeError : Bool) (age : Nat) : State :=
  let n := bytes.length
  let b := bytes.take (n - 4)
  let badFcs := decide (leAt bytes (n - 4) 4 ≠ fcs b)
  let discard (key verdict : Nat) : State := (s.bump key).lodeEnd p verdict (s.deliveredAll p b) age
  if codeError then discard (K.ctrPortRxCodeError p) 1
  else if n < 64 then discard (K.ctrPortRxRunt p) 1
  else if s.rd (K.portMaxFrame p) < n then
    discard (K.ctrPortRxOversize p) (if badFcs then 1 else if (s.macsecRx p b).1.stomp then 2 else 3)
  else if badFcs then discard (K.ctrPortRxFcsError p) 1
  else
    let s := (s.bump (K.ctrPortRxFrames p)).bump (K.ctrPortRxBytes p) n
    if beAt b 12 2 = 0x8808 ∧ (beAt b 14 2 = 1 ∨ beAt b 14 2 = 0x0101) then s.pauseRx p b
    else
      let whole := s.deliveredAll p b
      let (v, s) := s.macsecRx p b
      let (d, y, o) := v.out.getD (whole, 0xFF#8, 0#3)
      if (s.port p).lodeIn.isSome then s.lodeEnd p (if v.stomp then 2 else if v.out.isNone then 3 else 0) d age
      else
        let dom := s.tsDomainOf p (s.ingressPriority p d)
        s.setPort p { s.port p with rxQ := (s.port p).rxQ ++ [⟨d, s.rxTs p dom age, dom, y, o, v.out.isNone⟩] }

/-- A partial frame discarded. R42. -/
def State.dropPartial (s : State) (p : Nat) : State :=
  (s.setPort p { s.port p with rxPartial := [], rxFrag := none, rxAge := 0 }).bump (K.ctrPortRxAssemblyError p)

/-- MAC_RX_FRAME: one unit from the line. R32, R33, R40, R42. -/
def execMacRxFrame (p : Fin 8) (u : RxUnit) (age : BitVec 32) (s : State) : Host.Outcome State Fault Refusal :=
  let q := p.val
  if s.rd (K.portLinkState q) ≠ linkUp then .next s
  else match u with
    | .frame bytes codeError => .next (s.rxWhole q bytes codeError age.toNat)
    | .verify =>
      .next (if q < 4 then ((s.bump (K.ctrPortRxFrames q)).bump (K.ctrPortRxBytes q) 64).queueCtrl q .respond else s)
    | .respond =>
      .next (if q < 4 then
          ((s.bump (K.ctrPortRxFrames q)).bump (K.ctrPortRxBytes q) 64).when
            (decide (s.rd (K.portVerifyStatus q) = vsVerifying)) (·.wr (K.portVerifyStatus q) vsSucceeded)
        else s)
    | .fragment smdGood first count bytes last =>
      let x := s.port q
      let data := if last then bytes else bytes.take (bytes.length - 4)
      let all := (if first then [] else x.rxPartial) ++ data
      let good := last || (decide (4 ≤ bytes.length) && decide (ofLE (bytes.drop (bytes.length - 4)) = mcrc all))
      if 4 ≤ q then .next s
      else if !smdGood ∨ !good then .next (s.dropPartial q)
      else if first then
        let s := s.when x.rxFrag.isSome (·.dropPartial q)
        .next (if last then s.rxWhole q all false age.toNat
          else s.setPort q { s.port q with rxPartial := all, rxFrag := some 0, rxAge := s.now * 4 - age.toNat })
      else match x.rxFrag with
        | none => .next (s.dropPartial q)
        | some n =>
          if n ≠ count.val then .next (s.dropPartial q)
          else
            let s := s.bump (K.ctrPortMacMergeFragCountRx q)
            .next (if last then
                (s.setPort q { s.port q with rxPartial := [], rxFrag := none, rxAge := 0 }).rxWhole q all false
                  (s.now * 4 - x.rxAge)
              else s.setPort q { s.port q with rxPartial := all, rxFrag := some ((n + 1) % 4) })

end Sys2Proof.Machine
end

