-- ==== Sys2Proof/Machine/Gate.lean ====
section
/-! DEFINITION. Gate control lists (14_time_and_egress.md, R340 to R342): the operational list of a port, its schedule, and how
long a gate stays open. Times are ns of the port's GateDomain. -/

namespace Sys2Proof.Machine

def State.tmPort (s : State) (p : Nat) : TmPort := tget TmPort.zero s.tm.ports p
def State.setTmPort (s : State) (p : Nat) (x : TmPort) : State :=
  { s with tm := { s.tm with ports := tset TmPort.zero s.tm.ports p x } }
def State.gate (s : State) (p : Nat) : Gate := (s.tmPort p).gate
def State.setGate (s : State) (p : Nat) (g : Gate) : State := s.setTmPort p { s.tmPort p with gate := g }

/-- The gate time of a port, in 0.25 ns units and in ns. R340. -/
def State.gateUnits (s : State) (p : Nat) : Nat := s.domainUnits (s.rd (K.tmpGateDomain p))
def State.gateNs (s : State) (p : Nat) : Nat := s.gateUnits p / 4

/-- A list laid over one cycle: durations and entries, cut at the cycle end, the last held to it. R340. -/
def layCycle : Nat → List GateEntry → List (Nat × GateEntry)
  | _, [] => []
  | 0, _ => []
  | r, [e] => [(r, e)]
  | r, e :: es => if r ≤ e.interval then [(r, e)] else (e.interval, e) :: layCycle (r - e.interval) es

/-- The open time of gate `c` at the start of a run of segments, and whether all of them are open. -/
def openPrefix (c : Nat) : List (Nat × GateEntry) → Nat × Bool
  | [] => (0, true)
  | (d, e) :: r =>
    if e.states.getLsbD c then
      let x := openPrefix c r
      (d + x.1, x.2)
    else (0, false)

/-- The longest run of open time of gate `c`, from a run so far. -/
def longestRun (c : Nat) : List (Nat × GateEntry) → Nat → Nat → Nat
  | [], cur, best => max cur best
  | (d, e) :: r, cur, best =>
    if e.states.getLsbD c then longestRun c r (cur + d) best else longestRun c r 0 (max cur best)

/-- The operational cycle of a port as segments. -/
def Gate.segs (g : Gate) : List (Nat × GateEntry) := layCycle g.cycle g.oper

/-- Gating is in effect on a port. R340. -/
def State.gated (s : State) (p : Nat) : Bool := s.on (K.tmpGateEnable p) && !(s.gate p).oper.isEmpty

/-- Gate `c` is open now. R340. -/
def State.gateOpen (s : State) (p c : Nat) : Bool :=
  !s.gated p || (match (s.gate p).segs[(s.gate p).idx]? with
    | some (_, e) => e.states.getLsbD c
    | none => true)

/-- The admin list a pending change would make operational. R341, R349. -/
def State.adminList (s : State) (p : Nat) : List GateEntry :=
  (List.range (s.rd (K.tmpAdminListLength p))).map fun i => tget GateEntry.zero (s.gate p).admin i

/-- How long gate `c` stays open from time `t`, across entries and cycle ends, with no change pending; none: for good. -/
def State.openRun (s : State) (p c t : Nat) : Option Nat :=
  let g := s.gate p
  if !s.gated p then none
  else
    let rest := match g.segs.drop g.idx with
      | [] => []
      | (d, e) :: r => (g.idxAt + d - t, e) :: r
    let a := openPrefix c rest
    if !a.2 then some a.1
    else
      let b := openPrefix c g.segs
      if b.2 then none else some (a.1 + b.1)

/-- A pending change falls within AdminCycleTimeExtension after the present cycle's end, so that this cycle is extended to it. R341. -/
def State.cycleExtended (s : State) (p : Nat) : Bool :=
  let next := (s.gate p).base + (s.gate p).cycle
  match (s.gate p).changeAt with
  | some T => decide (next ≤ T) && decide (T ≤ next + s.rd (K.tmpAdminCycleTimeExtension p))
  | none => false

/-- How long gate `c` stays open from time `t`, across entries, cycle ends and any pending change; none: for good. R341, R342. -/
def State.openFor (s : State) (p c t : Nat) : Option Nat :=
  let cur := s.openRun p c t
  if !s.on (K.tmpGateEnable p) then none
  else match (s.gate p).changeAt with
    | none => cur
    | some T =>
      let reaches := match cur with
        | none => true
        | some n => decide (T ≤ t + n) || (s.cycleExtended p && decide ((s.gate p).base + (s.gate p).cycle ≤ t + n))
      if !reaches then cur
      else
        let l := s.adminList p
        let x := openPrefix c (layCycle (s.rd (K.tmpAdminCycleTime p)) l)
        if l.isEmpty ∨ x.2 then none else some (T - t + x.1)

/-- Gate `c` is open and stays open for `need` units of 0.25 ns from the gate time `t` in such units. R342. -/
def State.gateFits (s : State) (p c t need : Nat) : Bool :=
  s.gateOpen p c && (match s.openFor p c (t / 4) with
    | none => true
    | some n => decide (t + need ≤ 4 * (t / 4 + n)))

/-- A transmission of `need` units can never fit gate `c` of the operational list. R342. -/
def State.neverFits (s : State) (p c need : Nat) : Bool :=
  let g := s.gate p
  s.gated p && !(openPrefix c g.segs).2 && decide (4 * longestRun c (g.segs ++ g.segs) 0 0 < need)

/-- The time of `n` byte times on a port's line, in 0.25 ns units, rounded up. -/
def State.lineUnits (s : State) (p n : Nat) : Nat := cdiv (n * 8 * 4 * 10 ^ 6) (s.portRate p)

/-- Effect of an entry that comes into force: hold or release of the MAC Merge sublayer. R342. -/
def State.enterGate (s : State) (p : Nat) : State :=
  match (s.gate p).segs[(s.gate p).idx]? with
  | some (_, e) =>
    if p < 4 ∧ e.op = 1 then s.setPort p { s.port p with holdMac := true }
    else if p < 4 ∧ e.op = 2 then s.setPort p { s.port p with holdMac := false }
    else s
  | none => s

/-- A gate time in ns is reached in the present tick of 8 ns or was before. -/
def State.gateReached (s : State) (p t : Nat) : Bool := decide (t < s.gateNs p + 8)

/-- GATE_EVENT: the interval of the entry in force ends, and the next entry of the operational list, or the first of the next cycle, comes into
force. A cycle that a pending change follows within AdminCycleTimeExtension is extended to it. R340, R341. -/
def execGateEvent (p : Fin 8) (s : State) : Host.Outcome State Fault Refusal :=
  let g := s.gate p.val
  let segs := g.segs
  .next (match segs[g.idx]? with
    | none => s
    | some (d, _) =>
      if !s.gateReached p.val (g.idxAt + d) then s
      else if g.idx + 1 < segs.length then (s.setGate p.val { g with idx := g.idx + 1, idxAt := g.idxAt + d }).enterGate p.val
      else
        let next := g.base + g.cycle
        if s.cycleExtended p.val then s
        else (s.setGate p.val { g with base := next, idx := 0, idxAt := next }).enterGate p.val)

/-- CONFIG_CHANGE: a write of ConfigChange. R341. -/
def State.configChange (s : State) (p v : Nat) : State :=
  if v ≠ 1 then s.aborted Abort.valueRange
  else
    let b := s.rd (K.tmpAdminBaseTime p)
    let c := s.rd (K.tmpAdminCycleTime p)
    let t := s.gateNs p
    let T := if t < b then b else b + ((t - b) / c + 1) * c
    ((s.setGate p { s.gate p with changeAt := some T }).wr (K.tmpConfigChangeTime p) T).aborted Abort.ok

def execConfigChange (p : Fin 8) (v : BitVec 8) (s : State) : Host.Outcome State Fault Refusal :=
  .next (s.configChange p.val v.toNat)

/-- CONFIG_CHANGE_APPLY: at ConfigChangeTime the admin list becomes operational. R341. -/
def execConfigChangeApply (p : Fin 8) (s : State) : Host.Outcome State Fault Refusal :=
  let g := s.gate p.val
  match g.changeAt with
  | none => .next s
  | some T =>
    if !s.gateReached p.val T then .next s else
    let g' := { g with oper := s.adminList p.val, cycle := s.rd (K.tmpAdminCycleTime p.val), base := T, idx := 0, idxAt := T,
                       changeAt := none }
    let s1 := ((s.setGate p.val g').wr (K.tmpConfigChangeTime p.val) 0).enterGate p.val
    .next ((s1.bump (K.ctrTmpConfigChanges p.val)).almanac 20 0x0E05 2 [(1, p.val)])

/-- The entry in force at an offset into a cycle: index and start. -/
def entryAt : List (Nat × GateEntry) → Nat → Nat → Nat → Nat × Nat
  | [], i, start, _ => (i, start)
  | [(_, _)], i, start, _ => (i, start)
  | (d, _) :: r, i, start, off => if off < d then (i, start) else entryAt r (i + 1) (start + d) (off - d)

/-- After a step of a port's GateDomain the operational list takes the entry in force at the new time. R341. -/
def State.gateResync (s : State) (p : Nat) : State :=
  let g := s.gate p
  if g.oper.isEmpty then s
  else
    let t := s.gateNs p
    let off := (((t : Int) - (g.base : Int)) % (g.cycle : Int)).toNat
    let x := entryAt g.segs 0 0 off
    ((s.setGate p { g with base := t - off, idx := x.1, idxAt := t - off + x.2 }).enterGate p).bump (K.ctrTmpGateResync p)

/-- GATE_LIST_WRITE: an admin entry through domain 7080; an operational entry is refused. R340, R471, R474. -/
def execGateListWrite (p : Fin 8) (operational : Bool) (entry : Fin 256) (word : BitVec 64) (s : State) :
    Host.Outcome State Fault Refusal :=
  let w := word.toNat
  let op := bits w 55 52
  let ok := !operational && decide (bits w 51 32 = 0) && decide (op ≤ 2) && (decide (op = 0) || decide (p.val < 4))
    && decide (8 ≤ bits w 31 0)
  let g := s.gate p.val
  let e : GateEntry := ⟨BitVec.ofNat 8 (bits w 63 56), op, bits w 31 0⟩
  .next (if ok then ((s.setGate p.val { g with admin := tset GateEntry.zero g.admin entry.val e }).bump
      K.cmtStagedWrites).status 0
    else s.status opRefused)

end Sys2Proof.Machine
end

