-- ==== Sys2Proof/Machine/Lodestar.lean ====
section
/-! DEFINITION. The Lodestar express path (05_lodestar.md): stream table, the decision at the ingress point, delayed and held
frames, verdicts and stomping. -/

namespace Sys2Proof.Machine

def State.lstream (s : State) (i : Nat) : LStream := tget LStream.zero s.lode.streams i
def State.setLstream (s : State) (i : Nat) (x : LStream) : State :=
  { s with lode := { s.lode with streams := tset LStream.zero s.lode.streams i x } }

/-! ### Fields of a stream entry (R112) -/

def LStream.valid (x : LStream) : Bool := x.word.getLsbD 127
def LStream.ingress (x : LStream) : Nat := bits x.word.toNat 98 96
def LStream.egress (x : LStream) : Nat := bits x.word.toNat 95 93
def LStream.prot (x : LStream) : Bool := x.word.getLsbD 92
def LStream.inSecY (x : LStream) : Nat := bits x.word.toNat 91 86
def LStream.outSecY (x : LStream) : Nat := bits x.word.toNat 85 78
def LStream.cls (x : LStream) : Nat := bits x.word.toNat 77 75
def LStream.maxLength (x : LStream) : Nat := bits x.word.toNat 74 61
def LStream.tagged (x : LStream) : Bool := x.word.getLsbD 60
def LStream.vid (x : LStream) : Nat := bits x.word.toNat 59 48
def LStream.mac (x : LStream) : Nat := bits x.word.toNat 47 0

/-- Two entries with one key: ingress port, destination, tag presence and VID. R113. -/
def LStream.sameKey (a b : LStream) : Bool :=
  decide (a.ingress = b.ingress ∧ a.mac = b.mac ∧ a.tagged = b.tagged) && (!a.tagged || decide (a.vid = b.vid))

/-- A stream image the device accepts at a position. R113. -/
def State.streamOk (s : State) (pos : Nat) (x : LStream) : Bool :=
  let reserved := decide (bits x.word.toNat 126 99 ≠ 0) || decide (x.ingress = 7) || decide (x.egress = 7)
  let bad := decide (x.egress = x.ingress) || decide (x.maxLength < 64) || decide (9216 < x.maxLength)
    || (x.prot && decide (secyCount x.ingress ≤ x.inSecY)) || (decide (x.outSecY ≠ 0xFF) && decide (secyCount x.egress ≤ x.outSecY))
    || (x.prot && decide (s.rd (K.secyValidateFrames (secyIx x.ingress x.inSecY)) ≠ 2))
    || s.lode.streams.any fun kx => decide (kx.1 ≠ pos) && kx.2.valid && kx.2.sameKey x
  !reserved && (!x.valid || !bad)

/-- LODESTAR_STREAM_WRITE through domain 7030. R113, R471. -/
def execLodestarStreamWrite (pos : Fin 1024) (word : BitVec 128) (s : State) : Host.Outcome State Fault Refusal :=
  let x := { s.lstream pos.val with word := word }
  .next (if s.streamOk pos.val x then ((s.setLstream pos.val x).bump K.cmtStagedWrites).status 0 else s.status opRefused)

/-! ### The ingress point (R112 to R116) -/

/-- What R49 and R114 let Lodestar see of a frame: the plain window and its SecY (none without a SecTAG); or nothing. -/
def State.lodeView (s : State) (p : Nat) (w : List Byte) : Option (List Byte × Option Nat) :=
  let et := beAt w 12 2
  let bypass := decide (et = 0x888E) || (List.range 8).any fun j => decide (et ≠ 0 ∧ s.rd (K.portBypassEtherType p j) = et)
  if et = 0x8808 ∧ (beAt w 14 2 = 1 ∨ beAt w 14 2 = 0x0101) then none
  else if bypass then some (w, none)
  else if et ≠ 0x88E5 then
    (if s.on (K.secyEnable (secyIx p 0)) && decide (s.rd (K.secyValidateFrames (secyIx p 0)) = 2) then none else some (w, none))
  else
    let t := secTagOf (w ++ List.replicate 96 0#8)
    if t.bad then none
    else match s.rxChannel p t.sci with
      | none => none
      | some c =>
        let y := (s.chan p c).secy
        let k := 4 * scKey p c + t.an
        let a := s.sa k
        let xpn := xpnSuite (s.rd (K.secyCipherSuite (secyIx p y)))
        let pn := fullPn xpn (s.lowestOf p y a) t.pn
        if !a.installed ∨ (t.pn = 0 ∧ !xpn) then none
        else if s.on (K.secyReplayProtect (secyIx p y)) && decide (pn < s.lowestOf p y a) then none
        else some (s.plainBytes p y k t w, some y)

/-- A stream matches a frame. R112, R114. -/
def LStream.matches (x : LStream) (p : Nat) (w : List Byte) (y : Option Nat) : Bool :=
  let et := beAt w 12 2
  let tagged := decide (et = 0x8100 ∨ et = 0x88A8)
  x.valid && decide (x.ingress = p) && decide (x.mac = beAt w 0 6) && decide (x.tagged = tagged)
    && (!x.tagged || decide (beAt w 14 2 % 4096 = x.vid)) && decide (y = if x.prot then some x.inSecY else none)

/-- Space a held frame occupies in the express hold buffer. R118. -/
def Flight.space (f : Flight) : Nat := f.arrived.getD f.limit

/-- Free space of an egress port's express hold buffer of 36,864 bytes. R118. -/
def State.holdFree (s : State) (e : Nat) : Nat :=
  36864 - ((s.lode.flights.filter fun f => decide (f.egress = e ∧ f.form = 2)).map Flight.space).foldl (· + ·) 0

/-- The egress timestamp of a frame whose first bit passes the boundary `lead` units from the present. R36, R37, R325. -/
def State.txTs (s : State) (p cls lead : Nat) : BitVec 64 :=
  BitVec.ofInt 64 ((s.domainUnits (s.tsDomainOf p cls) : Int) + (lead : Int) + s.rdInt 32 (K.portTxTsCorrection p))

/-- The bytes of a Lodestar frame on the line, once its ingress frame has ended: protected, padded, with their FCS. R34, R50, R114. -/
def TxFrame.filled (l : TxFrame) (b : List Byte) : TxFrame :=
  let x := padFrame (underGuard l.guard b)
  { l with bytes := x, length := x.length + 4, crc := fcs x }

/-- A frame ended after the bytes already sent with the complement of their FCS. R120. -/
def TxFrame.stomp (l : TxFrame) (b : List Byte) : TxFrame :=
  { l with bytes := b, length := b.length + 4, crc := stompFcs b, stomped := true }

/-- A Lodestar frame starts on its egress line: its packet number is taken and it counts as sent. R50, R115, R116, R119, R120. -/
def State.lodeStart (s : State) (f : Flight) (lead : Nat) : State :=
  let r := s.egressGuard f.egress f.secY.toNat
  let s := r.2
  let l : TxFrame := ⟨none, none, 0, true, 0, [], f.cls, s.txTs f.egress f.cls lead, s.tsDomainOf f.egress f.cls, none, some f.stream,
    false, [], 0, r.1⟩
  s.setPort f.egress { s.port f.egress with line := some (if f.arrived.isSome then l.filled f.payload else l) }

/-- A flight entered. -/
def State.addFlight (s : State) (f : Flight) : State := { s with lode := { s.lode with flights := s.lode.flights ++ [f] } }

/-- A flight changed, or removed. -/
def State.setFlight (s : State) (f : Flight) : State :=
  { s with lode := { s.lode with flights := s.lode.flights.map fun g => if g.id = f.id then f else g } }
def State.endFlight (s : State) (id : Nat) : State :=
  { s with lode := { s.lode with flights := s.lode.flights.filter fun g => decide (g.id ≠ id) } }

/-- A taken frame is handled as whole-frame: it enters the hold buffer, or is lost. R116, R118. -/
def State.lodeHold (s : State) (f : Flight) : State :=
  let s := s.bump K.ctrLodeWholeFrame
  if s.holdFree f.egress < f.limit then
    (s.bump K.ctrLodeHoldDrop).almanacFirst 0 0x0504 3 f.egress [(2, f.stream), (1, f.egress)]
  else s.addFlight { f with form := 2 }

/-- The egress line of a port is free: nothing on it, and no control frame that goes next. R44, R116. -/
def State.lineFree (s : State) (e : Nat) : Bool := (s.port e).line.isNone && (s.port e).ctrlQ.isEmpty

/-- From the ingress point to the egress point of a cut-through frame, max(4.0 ns, 3.0 ns + P) in units of 10 ps. R115. -/
def State.lodeLatency (s : State) (e : Nat) : Nat := max 400 (300 + 64 * 10 ^ 8 / s.portRate e)

/-- The class of a taken frame whose ingress point falls `instant` × 10 ps from the present; of two that claim one egress port in one PX
cycle the first given, the one of the lower ingress port, is tested and the other is whole-frame (log entry 59). `soon`: the line carries a frame
that ends within 64 PX cycles. R115, R116, R119. -/
def State.lodeClass (s : State) (f : Flight) (soon : Bool) (instant : Nat) : State :=
  let e := f.egress
  let cycle := (100 * s.now + instant) / 50
  let twin := decide ((s.port e).lodeClaim = some cycle)
  let s := s.setPort e { s.port e with lodeClaim := some cycle }
  let flows := !twin && decide (s.portRate e ≤ s.portRate f.ingress) && !s.halted e f.pcp
    && s.gateFits e f.cls (s.gateUnits e) (s.lineUnits e f.limit)
  if flows && s.lineFree e then ((s.addFlight f).lodeStart f ((instant + s.lodeLatency e) / 25)).bump K.ctrLodeCutThrough
  else if flows && soon then (s.addFlight { f with form := 1 }).bump K.ctrLodeDelayed
  else s.lodeHold f

/-- Lodestar forwards: in safe state only as LodestarInSafeState says, and not after a PLL fault of PX. R121, R505. -/
def State.lodeRuns (s : State) : Bool :=
  s.on K.lodeLodestarEnable && (!s.safeState || (s.on K.safLodestarInSafeState && !s.saf.lodestarOff))

/-- LODESTAR_INGRESS_POINT: the window's last byte has arrived on port `p`. R112 to R116. -/
def execLodestarIngressPoint (p : Fin 7) (window : List Byte) (soon : Bool) (instant : BitVec 32) (s : State) :
    Host.Outcome State Fault Refusal :=
  let q := p.val
  if s.rd (K.portLinkState q) ≠ linkUp ∨ (s.port q).lodeIn.isSome ∨ !s.lodeRuns then .next s
  else match s.lodeView q window with
    | none => .next s
    | some (w, y) =>
      match s.lode.streams.find? fun kx => kx.2.matches q w y with
      | none => .next s
      | some (i, x) =>
        let id := s.lode.nextId
        let s := s.setLstream i { x with frames := (x.frames + 1) % 2 ^ 64 }
        let s := ({ s with lode := { s.lode with nextId := id + 1 } } : State).setPort q { s.port q with lodeIn := some id }
        let e := x.egress
        if s.rd (K.portLinkState e) ≠ linkUp then .next (s.bump K.ctrLodeLinkDrop)
        else match s.egressBar e x.outSecY with
          | some s' => .next s'
          | none =>
            let pcp := if x.tagged then beAt w 14 2 / 8192 else s.rd (K.prsDefaultPcp q)
            .next (s.lodeClass ⟨id, i, q, e, BitVec.ofNat 8 x.outSecY, x.cls, pcp, min x.maxLength (s.rd (K.portMaxFrame e)), 0,
              none, none, 0, false, none, w⟩ soon instant.toNat)

/-! ### Stomps and verdicts (R117, R118, R120) -/

/-- A stomp counter's event: 1 FCS, 2 ICV, 3 length; with the stream's stomp counter and record. R120, R123. -/
def State.countStomp (s : State) (stream ev : Nat) : State :=
  let x := s.lstream stream
  let s := s.setLstream stream { x with stomps := (x.stomps + 1) % 2 ^ 64 }
  if ev = 1 then (s.bump K.ctrLodeStompFcs).almanacFirst 0 0x0502 3 stream [(2, stream)]
  else if ev = 2 then (s.bump K.ctrLodeStompIcv).almanacFirst 0 0x0501 4 stream [(2, stream)]
  else (s.bump K.ctrLodeStompLength).almanacFirst 0 0x0503 3 stream [(2, stream)]

/-- The first bytes of a flight's egress frame, as far as the bytes known reach. R114, R120. -/
def Flight.egressBytes (f : Flight) (g : Option TxGuard) : List Byte :=
  match g with
  | none => if f.arrived.isSome then padFrame f.payload else f.payload
  | some g => (g.cover f.payload).1 ++ (if f.arrived.isSome then (g.cover f.payload).2 else [])

/-- The egress frame of a flight on the line is stomped after `sent` bytes. R120. -/
def State.stomp (s : State) (f : Flight) (ev sent : Nat) : State :=
  let x := s.port f.egress
  let s := match x.line with
    | some l => s.setPort f.egress { x with line := some (l.stomp ((f.egressBytes l.guard).take sent)) }
    | none => s
  (s.countStomp f.stream ev).endFlight f.id

/-- The event of a flight, in the order of R120: none 0. -/
def Flight.event (f : Flight) : Nat :=
  if f.verdict = some 1 then 1 else if f.verdict = some 2 then 2 else if f.limit < f.arrived.getD 0 then 3 else 0

/-- An event of a flight, or its good end. R118, R120. -/
def State.flightEvent (s : State) (f : Flight) (ev sent : Nat) : State :=
  if f.form = 2 then
    if ev = 0 ∧ f.verdict ≠ some 3 then s.setFlight { f with passed := true }
    else if ev = 3 then (s.countStomp f.stream 3).endFlight f.id
    else (s.bump K.ctrLodeVerifyDrop).endFlight f.id
  else if f.form = 1 then s.setFlight { f with passed := true, bad := ev }
  else if ev = 0 then
    let x := s.port f.egress
    (match x.line with
      | some l => s.setPort f.egress { x with line := some (l.filled f.payload) }
      | none => s).endFlight f.id
  else s.stomp f ev sent

/-- LODESTAR_VERDICT: with the bytes that have arrived so far (before ICV and FCS), the length limit is tested; with none, the verdict of
the frame that has ended is sampled. `sent`: egress bytes sent before the event. R117, R118, R120. -/
def execLodestarVerdict (p : Fin 7) (part : Option (List Byte)) (sent : BitVec 14) (s : State) : Host.Outcome State Fault Refusal :=
  match part with
  | some w =>
    match s.lode.flights.find? fun f => decide (some f.id = (s.port p.val).lodeIn) with
    | some f =>
      let f := { f with payload := s.asDelivered p.val w }
      .next (if f.limit < s.lineLength f.egress f.secY.toNat f.payload.length ∧ f.bad = 0 then s.flightEvent f 3 sent.toNat
        else s.setFlight f)
    | none => .next s
  | none =>
    match s.lode.flights.find? fun f => decide (f.ingress = p.val) && f.verdict.isSome && !f.passed with
    | some f => .next (s.flightEvent f f.event sent.toNat)
    | none => .next s

/-- A frame Lodestar holds for an egress port may start: line free and link up, and in safe state only as Lodestar runs. R32, R44, R505. -/
def State.lodeMayStart (s : State) (e : Nat) : Bool :=
  s.lineFree e && decide (s.rd (K.portLinkState e) = linkUp) && (!s.safeState || s.lodeRuns)

/-- LODESTAR_DELAYED_START: the delayed frame of an egress port whose line is free. R116, R120. -/
def execLodestarDelayedStart (e : Fin 7) (lead : BitVec 32) (s : State) : Host.Outcome State Fault Refusal :=
  match s.lode.flights.find? fun f => decide (f.egress = e.val ∧ f.form = 1) with
  | some f =>
    if s.lodeMayStart e.val then
      let g := { f with form := 0 }
      let s := (s.setFlight g).lodeStart g lead.toNat
      .next (if f.bad ≠ 0 then s.stomp g f.bad 0 else if f.passed then s.endFlight g.id else s)
    else .next s
  | none => .next s

/-- LODESTAR_HOLD_TX: the oldest held frame of an egress port, with a good verdict, when line, pause and gate permit. R118. -/
def execLodestarHoldTx (e : Fin 7) (lead : BitVec 32) (s : State) : Host.Outcome State Fault Refusal :=
  let q := e.val
  match s.lode.flights.find? fun f => decide (f.egress = q ∧ f.form = 2) with
  | some f =>
    if f.passed && s.lodeMayStart q && !s.halted q f.pcp
        && s.gateFits q f.cls (s.gateUnits q) (s.lineUnits q (f.arrived.getD 0)) then
      match s.egressBar q f.secY.toNat with
      | some s' => .next (s'.endFlight f.id)
      | none => .next ((s.lodeStart f lead.toNat).endFlight f.id)
    else .next s
  | none => .next s

end Sys2Proof.Machine
end

