-- ==== Sys2Proof/Machine/TrafficManager.lean ====
section
/-! DEFINITION. The Traffic Manager (14_time_and_egress.md, R331 to R347): handover with filtering, policing, FRER and ATS,
queues, transmission selection, launch, and the end of a transmission. -/

namespace Sys2Proof.Machine

/-! ### Stream queue configuration (R331) -/

def State.sqWord (s : State) (p q : Nat) : Nat := (tget 4096#64 s.tm.streamCfg (64 * p + q)).toNat
def State.sqEnabled (s : State) (p q : Nat) : Bool := decide (bit (s.sqWord p q) 63 = 1)

/-- STREAM_QUEUE_WRITE through domain 7081. R331, R471. -/
def execStreamQueueWrite (pos : Fin 512) (word : BitVec 64) (s : State) : Host.Outcome State Fault Refusal :=
  .next (if bits word.toNat 27 16 ≠ 0 ∨ bits word.toNat 15 0 = 0 then s.status opRefused
    else (({ s with tm := { s.tm with streamCfg := tset 4096#64 s.tm.streamCfg pos.val word } } : State).bump
      K.cmtStagedWrites).status 0)

/-! ### Filters and meters (R335, R336) -/

/-- STREAM_FILTER_WRITE through domain 7082: the configuration; a block stays until CLEAR_BLOCK. R335. -/
def execStreamFilterWrite (pos : Fin 2048) (enable : Bool) (maxSdu : BitVec 16) (blockOnOversize meterEnable : Bool)
    (meter : Fin 2048) (s : State) : Host.Outcome State Fault Refusal :=
  let m := maxSdu.toNat
  .next (if m ≠ 0 ∧ (m < 64 ∨ 9216 < m) then s.status opRefused
    else (({ s with tm := { s.tm with filters := tmod StreamFilter.zero s.tm.filters pos.val fun f =>
      ⟨enable, m, blockOnOversize, meterEnable, meter.val, f.blocked⟩ } } : State).bump K.cmtStagedWrites).status 0)

/-- CLEAR_BLOCK. R335. -/
def execClearBlock (pos : Fin 2048) (s : State) : Host.Outcome State Fault Refusal :=
  .next (({ s with tm := { s.tm with filters := tmod StreamFilter.zero s.tm.filters pos.val fun f =>
    { f with blocked := false } } } : State).status 0)

/-- FLOW_METER_WRITE through domain 7083: the parameters; the buckets start full (log entry 20). R336. -/
def execFlowMeterWrite (pos : Fin 2048) (cir eir : BitVec 32) (cbs ebs : BitVec 24) (coupling dropOnYellow markRed : Bool)
    (s : State) : Host.Outcome State Fault Refusal :=
  .next (if 200000000 < cir.toNat ∨ 200000000 < eir.toNat then s.status opRefused
    else (({ s with tm := { s.tm with meters := tmod Meter.zero s.tm.meters pos.val fun m =>
      ⟨cir.toNat, eir.toNat, cbs.toNat, ebs.toNat, coupling, dropOnYellow, markRed, cbs.toNat * 8000000, ebs.toNat * 8000000,
       s.now, m.allRed⟩ } } : State).bump K.cmtStagedWrites).status 0)

/-- CLEAR_RED. R336. -/
def execClearRed (pos : Fin 2048) (s : State) : Host.Outcome State Fault Refusal :=
  .next (({ s with tm := { s.tm with meters := tmod Meter.zero s.tm.meters pos.val fun m =>
    { m with allRed := false } } } : State).status 0)

/-- A meter refilled to an instant; with coupling, tokens beyond CBS pass to the excess bucket. -/
def Meter.refill (m : Meter) (now : Nat) : Meter :=
  let dt := now - m.at_
  let c := m.committed + m.cir * dt
  let capC := m.cbs * 8000000
  let spill := if m.coupling then c - capC else 0
  { m with committed := min c capC, excess := min (m.excess + m.eir * dt + spill) (m.ebs * 8000000), at_ := now }

/-- The colour of a packet of `n` bytes, 0 green, 1 yellow, 2 red, and the meter after it. R336. -/
def Meter.colour (m : Meter) (n : Nat) : Nat × Meter :=
  let need := n * 8000000
  if m.allRed then (2, m)
  else if need ≤ m.committed then (0, { m with committed := m.committed - need })
  else if need ≤ m.excess then (1, { m with excess := m.excess - need })
  else (2, { m with allRed := m.markRed })

/-- Filter and meter of a packet; true: it goes on. R332 step 1, R335, R336. -/
def State.streamFilter (s : State) (d : Desc) : Bool × State :=
  let i := 256 * d.ingressPort.toNat + d.flowClass.toNat
  let f := tget StreamFilter.zero s.tm.filters i
  let n := d.frameLength.toNat
  if !f.enable then (true, s)
  else if f.blocked then (false, s.bump K.ctrTmStreamBlockedDrops)
  else if f.maxSdu ≠ 0 ∧ f.maxSdu < n then
    let s := s.bump K.ctrTmStreamSduDrops
    (false, if f.blockOnOversize then
        ({ s with tm := { s.tm with filters := tset StreamFilter.zero s.tm.filters i { f with blocked := true } } } : State).almanac
          20 0x0E08 4 [(2, i)]
      else s)
  else if !f.meterEnable then (true, s)
  else
    let m := (tget Meter.zero s.tm.meters f.meter).refill s.now
    let (col, m) := m.colour n
    let s := { s with tm := { s.tm with meters := tset Meter.zero s.tm.meters f.meter m } }
    if col = 0 then (true, s)
    else if col = 1 then (!m.dropOnYellow, s.bump K.ctrTmMeterYellow)
    else (false, s.bump K.ctrTmMeterRedDrops)

/-! ### FRER (R337, R338) -/

/-- FRER_RECOVERY_WRITE through domain 7086: the parameters. R338. -/
def execFrerRecoveryWrite (pos : Fin 1024) (history : BitVec 8) (timeout : BitVec 16) (takeNoSeq strip : Bool) (s : State) :
    Host.Outcome State Fault Refusal :=
  let h := history.toNat
  let t := timeout.toNat
  .next (if h < 2 ∨ 128 < h ∨ t < 1 ∨ 1000 < t then s.status opRefused
    else (({ s with tm := { s.tm with recovery := tmod Recovery.zero s.tm.recovery pos.val fun r =>
      { r with history := h, timeout := t, takeNoSeq := takeNoSeq, strip := strip } } } : State).bump
        K.cmtStagedWrites).status 0)

/-- FRER_RESET_TIMEOUT: ResetTimeout has passed since the function's last packet. R338. -/
def execFrerResetTimeout (f : Fin 1024) (s : State) : Host.Outcome State Fault Refusal :=
  let r := tget Recovery.zero s.tm.recovery f.val
  .next (match r.lastAt with
    | some t =>
      if t + 10 ^ 6 * r.timeout ≤ s.now then
        let x := { r with takeAny := true, num := 65535, hist := 0#128, resets := (r.resets + 1) % 2 ^ 64, lastAt := none }
        ({ s with tm := { s.tm with recovery := tset Recovery.zero s.tm.recovery f.val x } } : State).almanacFirst 20 0x0E09 3 f.val
          [(2, f.val)]
      else s
    | none => s)

/-- A history shifted by `n` places, one new number received; how many numbers fell out unreceived. -/
def shiftHistory (len : Nat) : Nat → BitVec 128 → Nat → BitVec 128 × Nat
  | 0, h, lost => (h, lost)
  | n + 1, h, lost =>
    shiftHistory len n ((h <<< 1) ||| (if n = 0 then 1#128 else 0#128)) (if h.getLsbD (len - 1) then lost else lost + 1)

/-- The vector recovery algorithm on a sequence number: true passes (IEEE 802.1CB, log entry 21). R338. -/
def Recovery.take (r : Recovery) (seq : Option Nat) : Bool × Recovery :=
  let inc (n : Nat) : Nat := (n + 1) % 2 ^ 64
  match seq with
  | none =>
    if r.takeNoSeq then (true, { r with passed := inc r.passed }) else (false, { r with tagless := inc r.tagless })
  | some n =>
    let delta := toSigned 16 (n + 65536 - r.num)
    if r.takeAny then (true, { r with takeAny := false, num := n, hist := 1#128, passed := inc r.passed })
    else if (r.history : Int) ≤ delta ∨ delta ≤ -(r.history : Int) then (false, { r with rogue := inc r.rogue })
    else if delta ≤ 0 then
      let i := (-delta).toNat
      if r.hist.getLsbD i then (false, { r with discarded := inc r.discarded })
      else (true, { r with hist := r.hist ||| (1#128 <<< i), outOfOrder := inc r.outOfOrder, passed := inc r.passed })
    else
      let x := shiftHistory r.history delta.toNat r.hist 0
      (true, { r with hist := x.1, num := n, lost := (r.lost + x.2) % 2 ^ 64, passed := inc r.passed,
                      outOfOrder := if delta = 1 then r.outOfOrder else inc r.outOfOrder })

/-- Where an R-TAG stands: after the outer VLAN tags. R337, R338. -/
def rtagOffset (d : Desc) : Nat := 12 + 4 * (b2n (d.protoFlags.getLsbD 0) + b2n (d.protoFlags.getLsbD 1))

/-! ### Frame bytes (R333) -/

/-- The window size of a descriptor in bytes. R67. -/
def Desc.window (d : Desc) : Nat := 64 <<< d.windowSize.toNat

/-- The bytes of a buffer with a descriptor: the window cell over the original bytes. R303, R333. -/
def State.packetBytes (s : State) (h : Nat) (d : Desc) : List Byte :=
  let n := d.frameLength.toNat
  let ch := s.chain h
  let orig := ((ch.take d.cellCount.toNat).flatMap fun c => s.cellBytes c 256).take n
  if d.cellCount.toNat < ch.length then
    let w := min d.window n
    (s.cellBytes (ch.getLastD h) w) ++ orig.drop w
  else orig

/-- A frame with its R-TAG removed, replaced or inserted. R337, R338. -/
def editRtag (d : Desc) (strip : Bool) (num : Option Nat) (b : List Byte) : List Byte :=
  let off := rtagOffset d
  let carried := d.protoFlags.getLsbD 2
  let b := if carried && strip then b.take off ++ b.drop (off + 6) else b
  match num with
  | none => b
  | some n =>
    if carried && !strip then patch b (off + 4) (toBE 2 n)
    else b.take off ++ toBE 2 0xF1C1 ++ toBE 2 0 ++ toBE 2 n ++ b.drop off

/-- The bytes of a copy before MACsec. R333. -/
def State.copyBytes (s : State) (c : TmCopy) : List Byte :=
  match c.raw with
  | some b => b
  | none => editRtag c.desc c.strip c.rtag (s.packetBytes c.handle c.desc)

/-- The bytes of a copy before MACsec, counted. R333, R337, R338. -/
def TmCopy.bareLength (c : TmCopy) : Nat :=
  match c.raw with
  | some b => b.length
  | none =>
    let carried := c.desc.protoFlags.getLsbD 2
    let n := if carried && c.strip then c.desc.frameLength.toNat - 6 else c.desc.frameLength.toNat
    if c.rtag.isSome && !(carried && !c.strip) then n + 6 else n

/-- The protected length L of a copy on its port. R333. -/
def State.copyL (s : State) (p : Nat) (c : TmCopy) : Nat := s.lineLength p c.desc.egressSecY.toNat c.bareLength

/-! ### ATS (R339) -/

/-- ATS_SHAPER_WRITE through domain 7084. R339. -/
def execAtsShaperWrite (pos : Fin 512) (cir cbs maxResidence : BitVec 32) (s : State) : Host.Outcome State Fault Refusal :=
  .next (if cir.toNat < 1 ∨ 200000000 < cir.toNat ∨ cbs.toNat < 64 ∨ 1048575 < cbs.toNat then s.status opRefused
    else (({ s with tm := { s.tm with shapers := tmod AtsShaper.zero s.tm.shapers pos.val fun a =>
      ⟨cir.toNat, cbs.toNat, maxResidence.toNat, a.bucketEmpty⟩ } } : State).bump K.cmtStagedWrites).status 0)

/-- The eligibility time of a frame of `n` bytes arriving at `t` on a stream queue, or none when it is discarded. R339. -/
def State.atsEligible (s : State) (a sq n t : Nat) : Option Nat × State :=
  let x := tget AtsShaper.zero s.tm.shapers a
  let lrd := n * 8 * 10 ^ 6 / x.cir
  let e2f := x.cbs * 8 * 10 ^ 6 / x.cir
  let sched := x.bucketEmpty + lrd
  let full := x.bucketEmpty + e2f
  let elig := max t (max (tget 0 s.tm.groupElig sq) sched)
  if 0 < x.maxResidence ∧ t + x.maxResidence < elig then (none, s)
  else
    let empty := if elig < full then sched else sched + elig - full
    (some elig, { s with tm := { s.tm with
      groupElig := tset 0 s.tm.groupElig sq elig,
      shapers := tset AtsShaper.zero s.tm.shapers a { x with bucketEmpty := empty } } })

/-! ### Queues -/

/-- A copy discarded: released by its egress-port owner. R305, R332. -/
def State.discardCopy (s : State) (p : Nat) (c : TmCopy) : State :=
  if c.raw.isSome then s else s.release c.handle p

/-- All cells of a port's copy are at hand. R347. -/
def State.cellsReady (s : State) (p : Nat) (c : TmCopy) : Bool :=
  c.raw.isSome || (s.chain c.handle).all fun h => decide (h < 0x200000) || decide ((h, p) ∈ s.orch.readBack)

/-- A queue of a port: class FIFO or stream queue. -/
def State.tmQueue (s : State) (p : Nat) (q : Option Nat) (c : Nat) : List TmCopy :=
  match q with
  | some k => tget [] (s.tmPort p).streamQ k
  | none => tget [] (s.tmPort p).classQ c

/-- A queue replaced; the copies that become its two oldest ask for their spilled cells. R347. -/
def State.setTmQueue (s : State) (p : Nat) (q : Option Nat) (c : Nat) (l : List TmCopy) : State :=
  let x := s.tmPort p
  let s := s.setTmPort p (match q with
    | some k => { x with streamQ := tset [] x.streamQ k l }
    | none => { x with classQ := tset [] x.classQ c l })
  (l.take 2).foldl (fun s c => if c.raw.isSome then s else s.askSpill p c.handle) s

/-- A copy joins its queue or is tail-dropped. R332 step 5. -/
def State.joinQueue (s : State) (p : Nat) (c : TmCopy) : State :=
  let l := s.tmQueue p c.queue c.cls
  let held := (l.map (·.cells)).foldl (· + ·) 0
  let limit := match c.queue with
    | some k => bits (s.sqWord p k) 15 0
    | none => s.rd (K.tmpClassLimit p c.cls)
  if limit < held + c.cells then (s.bump (K.ctrTmpTailDrops p)).discardCopy p c
  else s.setTmQueue p c.queue c.cls (l ++ [c])

/-- A copy whose launch time is set enters the port's launch set. R332 step 5, R345. -/
def State.joinLaunch (s : State) (p : Nat) (c : TmCopy) : State :=
  let x := s.tmPort p
  if 256 ≤ x.launchSet.length then (s.bump (K.ctrTmpLaunchSetFullDrops p)).discardCopy p c
  else (s.setTmPort p { x with launchSet := x.launchSet ++ [c] }).when (c.released && c.raw.isNone) (·.askSpill p c.handle)

/-- The domain time of a delay list, ns. R136. -/
def State.listNs (s : State) (l : Nat) : Nat := s.domainNs (s.rd (K.dispDelayDomain l))

/-- Cells a copy's queue counts. R303, R332. -/
def State.countOf (s : State) (h : Handover) : Nat :=
  match h.raw with
  | some b => cdiv b.length 256
  | none => (s.cell h.handle).count

/-- Sequence recovery and generation of a copy on its stream queue. `seqs`: numbers this packet has taken. R332, R337, R338. -/
def State.frer (s : State) (word : Nat) (d : Desc) (b : List Byte) (seqs : List (Nat × Nat)) :
    Option (Bool × Option Nat) × List (Nat × Nat) × State :=
  let carried := d.protoFlags.getLsbD 2
  let seq := if carried then some (beAt b (rtagOffset d + 4) 2) else none
  let (pass, strip, s) :=
    if bit word 48 = 1 then
      let i := bits word 47 38
      let r := (tget Recovery.zero s.tm.recovery i).take seq
      let x := if r.1 then { r.2 with lastAt := some s.now } else r.2
      (r.1, carried && x.strip, { s with tm := { s.tm with recovery := tset Recovery.zero s.tm.recovery i x } })
    else (true, false, s)
  if !pass then (none, seqs, s)
  else if bit word 59 = 1 then
    let g := bits word 58 49
    match seqs.find? fun x => decide (x.1 = g) with
    | some x => (some (strip, some x.2), seqs, s)
    | none =>
      let n := tget 0 s.tm.seqGen g
      (some (strip, some n), (g, n) :: seqs, { s with tm := { s.tm with seqGen := tset 0 s.tm.seqGen g ((n + 1) % 65536) } })
  else (some (strip, none), seqs, s)

/-- One copy of a packet at handover; a launch copy bypasses ATS. R331, R332, R334, R345, R371. -/
def State.handOverCopy (s : State) (h : Handover) (b : List Byte) (rel : Option Bool) (seqs : List (Nat × Nat))
    (p cls sq : Nat) : List (Nat × Nat) × State :=
  let word := s.sqWord p sq
  let en := decide (bit word 63 = 1)
  let t := s.gateNs p
  let inTime := match h.launch with
    | some (l, T) => decide (s.listNs l + 100 ≤ T) && rel.getD true
    | none => true
  let c : TmCopy := ⟨h.handle, h.desc, h.raw, if en then bits word 62 60 else cls, if en then some sq else none, s.countOf h,
    none, false, t, false, h.launch, rel.isSome, inTime, false, false⟩
  if s.rd (K.portLinkState p) ≠ linkUp ∧ !(p = 7 ∧ en ∧ sq = 63) then
    (seqs, (s.bump (K.ctrTmpLinkDownDrops p)).discardCopy p c)
  else
    match (if en then s.frer word h.desc b seqs else (some (false, none), seqs, s)) with
    | (none, seqs, s) => (seqs, s.discardCopy p c)
    | (some (strip, num), seqs, s) =>
      let c := { c with strip := strip, rtag := num }
      let isAts := en && decide (bit word 37 = 1) && h.launch.isNone
      match (if isAts then s.atsEligible (bits word 36 28) (64 * p + sq) (s.copyL p c) t else (some t, s)) with
      | (none, s) => (seqs, (s.bump (K.ctrTmpAtsDrops p)).discardCopy p c)
      | (some e, s) =>
        let c := { c with due := e, ats := isAts }
        if p = 7 ∧ en ∧ sq = 63 then
          let held := (s.tm.acfIn.map (·.cells)).foldl (· + ·) 0
          (seqs, if bits word 15 0 < held + c.cells then (s.bump (K.ctrTmpTailDrops 7)).discardCopy 7 c
            else { s with tm := { s.tm with acfIn := s.tm.acfIn ++ [c] } })
        else (seqs, if h.launch.isSome then s.joinLaunch p c else s.joinQueue p c)

/-- TM_HANDOVER: the oldest released packet arrives. R332. -/
def execTmHandover (s : State) : Host.Outcome State Fault Refusal :=
  match s.tm.inbox with
  | [] => .next s
  | h :: rest =>
    let s := { s with tm := { s.tm with inbox := rest } }
    let b := match h.raw with
      | some b => b
      | none => s.packetBytes h.handle h.desc
    let rel := (s.tm.releases.find? fun r => decide (h.launch.isSome ∧ r.1 = h.handle)).map (·.2)
    let s := if h.launch.isSome then
        { s with tm := { s.tm with releases := s.tm.releases.filter fun r => decide (r.1 ≠ h.handle) } }
      else s
    let (pass, s) := if h.raw.isSome then (true, s) else s.streamFilter h.desc
    .next (h.ports.foldl (fun (acc : List (Nat × Nat) × State) x =>
      if pass then acc.2.handOverCopy h b rel acc.1 x.1 x.2.1 x.2.2
      else (acc.1, if h.raw.isSome then acc.2 else acc.2.release h.handle x.1)) ([], s)).2

/-! ### Launch releases (R345) -/

/-- A LAUNCH release for the copies of a buffer; `inTime`: it came by LaunchTime - 100 ns. R345, R347. -/
def State.launchRelease (s : State) (h : Nat) (inTime : Bool) : State :=
  let has := (List.range 8).any fun p => (s.tmPort p).launchSet.any fun c => decide (c.handle = h) && !c.released
  if has then
    (((List.range 8).foldl (fun s p =>
      let x := s.tmPort p
      s.setTmPort p { x with launchSet := x.launchSet.map fun c =>
        if c.handle = h && !c.released then { c with released := true, inTime := c.inTime && inTime } else c }) s)).askAll h
  else { s with tm := { s.tm with releases := s.tm.releases ++ [(h, inTime)] } }

/-! ### Link down (R334) -/

/-- TM_LINK_DOWN_DISCARD: one frame, class FIFOs first, then stream queues, then the launch set (log entry 22). R334. -/
def execTmLinkDownDiscard (p : Fin 8) (s : State) : Host.Outcome State Fault Refusal :=
  let x := s.tmPort p.val
  if s.rd (K.portLinkState p.val) = linkUp then .next s
  else match x.classQ with
    | (k, c :: r) :: _ =>
      .next (((s.setTmQueue p.val none k r).bump (K.ctrTmpLinkDownDrops p.val)).discardCopy p.val c)
    | _ => match x.streamQ with
      | (k, c :: r) :: _ =>
        .next (((s.setTmQueue p.val (some k) 0 r).bump (K.ctrTmpLinkDownDrops p.val)).discardCopy p.val c)
      | _ => match x.launchSet with
        | c :: r =>
          .next (((s.setTmPort p.val { x with launchSet := r }).bump (K.ctrTmpLinkDownDrops p.val)).discardCopy p.val c)
        | [] => .next s

/-! ### Transmission (R41, R333, R344 to R346) -/

/-- A class is sent by the preemptable MAC with preemption active. R39, R40. -/
def State.preemptClass (s : State) (p c : Nat) : Bool := s.preemptActive p && (Config.preemptStatus p).getLsbD c

/-- A PTP frame's FIFO fields: messageType, domainNumber and sequenceId. R326. -/
def State.ptpOf (s : State) (c : TmCopy) : Option (Nat × Nat × Nat) :=
  if c.raw.isNone && c.desc.protoFlags.getLsbD 15 then
    let b := s.packetBytes c.handle c.desc
    let o := c.desc.payload.toNat - 34
    some (beAt b o 1 % 16, beAt b (o + 4) 1, beAt b (o + 30) 2)
  else none

/-- How many bytes of a copy's frame can be read before the first uncorrectable error, when one is met: the window cell gives the first
bytes, and the chain ends at a bad link entry. R303, R304, R333. -/
def State.readable (s : State) (c : TmCopy) : Option Nat :=
  let n := c.desc.frameLength.toNat
  let ch := s.chain c.handle
  let k := c.desc.cellCount.toNat
  let windowed := decide (k < (s.cell c.handle).count)
  let w := if windowed then min c.desc.window n else 0
  let lost := if ch.length < (s.cell c.handle).count then some (if windowed then 0 else 256 * ch.length) else none
  let badAt := ((ch.take k).zipIdx.find? fun x => decide (x.1 ∈ s.orch.badData) && decide (w < 256 * x.2 + 256)).map fun x => max w (256 * x.2)
  let first := if windowed ∧ ch.length = (s.cell c.handle).count ∧ ch.getLastD c.handle ∈ s.orch.badData then some 0 else badAt
  match first, lost with
  | some a, some b => some (min a b)
  | some a, none => some a
  | none, b => b

/-- The cell in error that a copy's read meets, recorded. R304, R320. -/
def State.readError (s : State) (c : TmCopy) : State :=
  match (s.chain c.handle).find? (· ∈ s.orch.badData) with
  | some h => s.cellEcc h
  | none => s

/-- A copy put on the line, its frame whole or, after an uncorrectable error, ended early. R34, R36, R50, R304. -/
def State.putOnLine (s : State) (p : Nat) (c : TmCopy) (lead : Nat) (cut : Option Nat) : State :=
  let y := if c.raw.isSome then 0xFF else c.desc.egressSecY.toNat
  let ptp := s.ptpOf c
  let r := s.egressGuard p y
  let b := s.copyBytes c
  let s := if c.raw.isSome then r.2 else { r.2 with orch := { r.2.orch with begun := c.handle :: r.2.orch.begun } }
  let s := if c.raw.isSome then s else s.journey c.desc jpEgress p 0xFFFF (s.txTs p c.cls lead).toNat
  let l : TxFrame := ⟨none, if c.raw.isSome then none else some c.handle, 0, !s.preemptClass p c.cls, 0, [], c.cls,
    s.txTs p c.cls lead, s.tsDomainOf p c.cls, ptp, none, false, [], 0, r.1⟩
  let l := match cut with
    | none => l.filled b
    | some k => l.stomp (match r.1 with
      | some g => (g.cover (b.take k)).1
      | none => b.take k)
  s.setPort p { s.port p with line := some l }

/-- A copy put on the line, or discarded by an error before its first byte, its SecY or its length; already out of its queue. A copy with
an error further on is ended there with the complement of its FCS. R50, R51, R304. -/
def State.startCopy (s : State) (p : Nat) (c : TmCopy) (lead : Nat) : State :=
  let y := if c.raw.isSome then 0xFF else c.desc.egressSecY.toNat
  let s := if c.raw.isSome then s else (s.readLinks c.handle p).fixCells (s.chain c.handle)
  let cut := if c.raw.isSome then none else s.readable c
  if cut = some 0 then ((s.bump K.ctrOrchEgressEccDrop).readError c).discardCopy p c
  else match s.egressBar p y with
    | some s' => s'.discardCopy p c
    | none =>
      if s.tooLong p y c.bareLength then (s.when (decide (p < 7)) (·.bump (K.ctrSecOutPktsTooLong p))).discardCopy p c
      else
        let s := s.putOnLine p c lead cut
        if cut.isSome then (s.bump K.ctrOrchEgressEccDrop).readError c else s

/-- A MAC control frame's bytes before the FCS: PAUSE and PFC of IEEE 802.3; verify and respond carry no data. R40, R44. -/
def CtrlFrame.bytes : CtrlFrame → List Byte
  | .pause q => padFrame (toBE 6 0x0180C2000001 ++ toBE 6 0 ++ toBE 2 0x8808 ++ toBE 2 0x0001 ++ toBE 2 q)
  | .pfc m q => padFrame (toBE 6 0x0180C2000001 ++ toBE 6 0 ++ toBE 2 0x8808 ++ toBE 2 0x0101 ++ toBE 2 m.toNat
      ++ (List.range 8).flatMap fun i => toBE 2 (if m.getLsbD i then q else 0))
  | .verify => List.replicate 60 0#8
  | .respond => List.replicate 60 0#8

/-- A MAC control frame put on the line. R44. -/
def State.startCtrl (s : State) (p : Nat) (f : CtrlFrame) (lead : Nat) : State :=
  s.setPort p { s.port p with
    line := some ⟨some f, none, 64, true, 0, [], 7, s.txTs p 7 lead, s.tsDomainOf p 7, none, none, false, f.bytes, fcs f.bytes, none⟩ }

/-- A pending launch point falls while a frame of `n` bytes starting now would be on the line. R345. -/
def State.guarded (s : State) (p n lead : Nat) : Bool :=
  (s.tmPort p).launchSet.any fun c => match c.launch with
    | some (l, T) =>
      let start := s.domainUnits (s.rd (K.dispDelayDomain l)) + lead
      decide (start / 4 < T) && decide (4 * T < start + s.lineUnits p n)
    | none => false

/-- A launch copy may be sent for a first byte at `lead`: its release has come, its point is reached, nothing halts it. R345. -/
def State.launchReady (s : State) (p : Nat) (c : TmCopy) (lead : Nat) : Bool :=
  match c.launch with
  | some (l, T) =>
    let f := s.domainUnits (s.rd (K.dispDelayDomain l)) + lead
    c.released && decide (4 * T ≤ f) && !s.halted p c.cls && s.cellsReady p c
      && s.gateFits p c.cls (s.gateUnits p + lead - s.lineUnits p 8) (s.lineUnits p (s.copyL p c + 8))
  | none => false

/-- A launch copy starts: on time, late, or discarded as late. R345, R346. -/
def State.startLaunch (s : State) (p : Nat) (c : TmCopy) (lead : Nat) : State :=
  let x := s.tmPort p
  let s := s.setTmPort p { x with launchSet := x.launchSet.erase c }
  let lt := c.launch.getD (0, 0)
  let f := s.domainUnits (s.rd (K.dispDelayDomain lt.1)) + lead
  if c.inTime && decide (f ≤ 4 * (lt.2 + 1)) then (s.bump (K.ctrTmpLaunchOnTime p)).startCopy p c lead
  else
    let late (s : State) (k : Nat) : State := (s.bump k).almanacFirst 20 0x0E06 3 p [(1, p)]
    if f ≤ 4 * (lt.2 + s.rd (K.tmpLaunchTolerance p)) ∨ s.rd (K.tmpLaunchLateAction p) = 0 then
      (late s (K.ctrTmpLaunchLate p)).startCopy p c lead
    else (late s (K.ctrTmpLaunchLateDrops p)).discardCopy p c

/-- The heads of a class: class FIFO first, then its enabled stream queues in order. R344. -/
def State.headsOf (s : State) (p c : Nat) : List TmCopy :=
  let x := s.tmPort p
  ((tget [] x.classQ c).take 1) ++ (x.streamQ.flatMap fun kq => (kq.2.take 1).filter fun h => decide (h.cls = c) && s.sqEnabled p kq.1)

/-- A queue head removed. -/
def State.popHead (s : State) (p : Nat) (c : TmCopy) : State :=
  s.setTmQueue p c.queue c.cls ((s.tmQueue p c.queue c.cls).drop 1)

/-- Heads that can never fit their gate are discarded. R342. -/
def State.purgeOversize (s : State) (p : Nat) : State :=
  (List.range 8).foldl (fun s c =>
    if s.preemptClass p c then s
    else (s.headsOf p c).foldl (fun s h =>
      if s.neverFits p c (s.lineUnits p (s.copyL p h + 8)) then
        (((s.popHead p h).bump (K.ctrTmpGateOversizeDrops p)).almanacFirst 20 0x0E07 3 p [(1, p), (1, c)]).discardCopy p h
      else s) s) s

/-- A head counted once as held by its gate or by a pending launch. R342, R345. -/
def State.countHeld (s : State) (p : Nat) (c : TmCopy) (gate : Bool) : State :=
  let l := s.tmQueue p c.queue c.cls
  if gate then
    if c.gateHeld then s
    else (s.setTmQueue p c.queue c.cls ({ c with gateHeld := true } :: l.drop 1)).bump (K.ctrTmpGateGuardHolds p)
  else if c.guardHeld || c.gateHeld then s
  else (s.setTmQueue p c.queue c.cls ({ c with guardHeld := true } :: l.drop 1)).bump (K.ctrTmpLaunchGuardHolds p)

/-- A head's standing: 0 may start, 1 held by the fit rule, 2 held by a launch point, 3 not ready. R342, R344, R345. -/
def State.standing (s : State) (p lead : Nat) (c : TmCopy) : Nat :=
  let n := s.copyL p c
  let pre := s.preemptClass p c.cls
  let t := s.gateUnits p + lead - s.lineUnits p 8
  if !s.cellsReady p c || (c.ats && decide (s.gateNs p < c.due)) || s.halted p c.cls then 3
  else if !s.gateOpen p c.cls then 3
  else if pre then (if (s.port p).holdMac then 3 else 0)
  else if !s.gateFits p c.cls t (s.lineUnits p (n + 8)) then 1
  else if s.guarded p n lead then 2
  else 0

/-- The earliest of heads that may start; ties to the first. R344. -/
def earliest : List TmCopy → Option TmCopy
  | [] => none
  | c :: r => match earliest r with
    | some d => if d.due < c.due then some d else some c
    | none => some c

/-- Class `c` has credit to send. R343. -/
def State.hasCredit (s : State) (p c : Nat) : Bool :=
  decide (bit (s.rd (K.tmpCbsEnable p)) c = 0) || decide (0 ≤ tget 0 (s.tmPort p).credit c)

/-- A copy may start: in safe state only frames the hardware itself sends. R505. -/
def State.mayStart (s : State) (c : TmCopy) : Bool := !s.safeState || c.raw.isSome

/-- Transmission selection among classes, highest first: whether a frame was taken from its queue. R344. -/
def State.selectClass (s : State) (p lead : Nat) : List Nat → Bool × State
  | [] => (false, s)
  | c :: r =>
    if !s.hasCredit p c then s.selectClass p lead r
    else
      let hs := (s.headsOf p c).filter s.mayStart
      let s1 := hs.foldl (fun s h =>
        let st := s.standing p lead h
        if st = 1 then s.countHeld p h true else if st = 2 then s.countHeld p h false else s) s
      match earliest (hs.filter fun h => decide (s.standing p lead h = 0)) with
      | some h => (true, (s1.popHead p h).startCopy p h lead)
      | none => s1.selectClass p lead r

/-- Selection among the frames of one MAC of a port, the express or the preemptable: a launch copy, then the classes. R42, R344. -/
def State.selectMac (s : State) (p lead : Nat) (express : Bool) : Bool × State :=
  let mine (c : Nat) : Bool := decide (s.preemptClass p c ≠ express)
  match (s.tmPort p).launchSet.find? fun c => mine c.cls && s.mayStart c && s.launchReady p c lead with
  | some c => (true, s.startLaunch p c lead)
  | none => s.selectClass p lead ([7, 6, 5, 4, 3, 2, 1, 0].filter mine)

/-- A preempted frame resumed: a further fragment. R41, R42, R56. -/
def State.resume (s : State) (p : Nat) (f : TxFrame) : State :=
  (s.setPort p { s.port p with line := some f, preempted := none }).bump (K.ctrPortMacMergeFragCountTx p)

/-- What a free line sends next, below Lodestar frames: a control frame, an express frame, the preempted frame, a preemptable one.
R42, R44, R344. -/
def State.selectNext (s : State) (p lead : Nat) : State :=
  let x := s.port p
  match x.ctrlQ with
  | f :: r => (s.setPort p { x with ctrlQ := r }).startCtrl p f lead
  | [] =>
    let r := (s.purgeOversize p).selectMac p lead true
    if r.1 then r.2
    else match (r.2.port p).preempted with
      | none => (r.2.selectMac p lead false).2
      | some f => if (r.2.port p).holdMac ∨ !r.2.gateOpen p f.cls then r.2 else r.2.resume p f

/-- A Lodestar frame that the egress MAC holds precedes the Traffic Manager's frames; in safe state only as Lodestar runs. R119, R505. -/
def State.lodeWaits (s : State) (p : Nat) : Bool :=
  (!s.safeState || s.lodeRuns) && s.lode.flights.any fun f => decide (f.egress = p) && decide (f.form ≠ 0)

/-- Something a preemptable frame gives way to. R41, R116, R342. -/
def State.expressReady (s : State) (p lead : Nat) (f : TxFrame) : Bool :=
  s.lodeWaits p || (s.port p).holdMac || !s.gateOpen p f.cls || !(s.port p).ctrlQ.isEmpty
    || (s.tmPort p).launchSet.any (fun c => !s.preemptClass p c.cls && s.mayStart c && s.launchReady p c lead)
    || (List.range 8).any fun c => !s.preemptClass p c && s.hasCredit p c
      && (s.headsOf p c).any fun h => s.mayStart h && decide (s.standing p lead h = 0)

/-- TM_TX_SELECT: with the line free the port starts its next frame; with a preemptable frame on it, of whose present
fragment `sent` bytes have gone, the frame is preempted at a fragmentation point. R41, R119, R342, R344. -/
def execTmTxSelect (p : Fin 8) (sent : BitVec 14) (lead : BitVec 32) (s : State) : Host.Outcome State Fault Refusal :=
  let q := p.val
  let x := s.port q
  if s.rd (K.portLinkState q) ≠ linkUp then .next s
  else match x.line with
    | none => .next (if s.lodeWaits q && x.ctrlQ.isEmpty then s else s.selectNext q lead.toNat)
    | some f =>
      let far := decide (64 * (1 + s.rd (K.portAddFragSize q)) - 4 ≤ sent.toNat)
        && decide (64 + f.sent + sent.toNat ≤ f.length)
      if s.preemptActive q && !f.express && f.control.isNone && far && s.expressReady q lead.toNat f then
        let cut := { f with sent := f.sent + sent.toNat, mcrcs := f.mcrcs ++ [mcrc (f.bytes.take (f.sent + sent.toNat))] }
        let s := s.setPort q { x with line := none, preempted := some cut }
        .next (if s.lodeWaits q && x.ctrlQ.isEmpty then s else s.selectNext q lead.toNat)
      else .next s

/-- A timestamp record of a transmitted PTP frame. R326. -/
def State.ptpRecord (s : State) (p : Nat) (f : TxFrame) : State :=
  match f.ptp with
  | none => s
  | some (m, d, n) =>
    let x := s.tmPort p
    if 64 ≤ x.ptp.length then s.bump (K.ctrTmpTsFifoOverflow p)
    else s.setTmPort p { x with ptp := x.ptp ++ [⟨f.ts, f.tsDomain, m, d, n⟩] }

/-- The frame on a port's line is a cut-through frame whose verdict is unknown. R117. -/
def State.lodePending (s : State) (p : Nat) : Bool := s.lode.flights.any fun f => decide (f.egress = p) && decide (f.form = 0)

/-- MAC_TX_END: the transmission on a line ends; a cut-through frame never before its verdict. R34, R37, R56, R117, R305, R326, R347. -/
def execMacTxEnd (p : Fin 8) (s : State) : Host.Outcome State Fault Refusal :=
  let q := p.val
  let x := s.port q
  match x.line with
  | none => .next s
  | some f =>
    if s.lodePending q then .next s else
    let s := s.setPort q { x with line := none }
    let s := (s.bump (K.ctrPortTxFrames q)).bump (K.ctrPortTxBytes q) f.length
    let s := if q < 4 then s.bump (if f.express then K.ctrPortTxFramesExpress q else K.ctrPortTxFramesPreemptable q) else s
    let s := match f.control with
      | some (.pause _) => s.bump (K.ctrPortTxPauseFrames q)
      | some (.pfc _ _) => s.bump (K.ctrPortTxPauseFrames q)
      | _ => s
    let s := s.ptpRecord q f
    .next (match f.handle with
      | some h => s.release h q
      | none => s)

/-- PTP_TS_READ: the oldest record of a port leaves its FIFO (layout: log entry 23). R326. -/
def execPtpTsRead (p : Fin 8) (s : State) : Host.Outcome State Fault Refusal :=
  let x := s.tmPort p.val
  match x.ptp with
  | [] => .next ({ s with reply := [] } : State)
  | r :: rest =>
    .next ({ s.setTmPort p.val { x with ptp := rest } with
      reply := toLE 16 (Config.tableImage 0x7087 [r.ts.toNat, r.domain, r.messageType, r.domainNumber, r.sequenceId]) } : State)

end Sys2Proof.Machine
end

