-- ==== Sys2Proof/Machine/Dispatcher.lean ====
section
/-! DEFINITION. The Dispatcher (06_dispatcher.md, R124 to R148): level queues, eligibility and grants, pre-emption, delay lists
and gauges; and the thread's side of a work item's start and end (R133, R180). -/

namespace Sys2Proof.Machine

/-! ### Level queues (R126 to R128) -/

def State.level (s : State) (l : Nat) : List Item := tget [] s.disp.levels l
def State.setLevel (s : State) (l : Nat) (q : List Item) : State :=
  { s with disp := { s.disp with levels := tset [] s.disp.levels l q } }

/-- TIMED and POSTED items queued, of 2,048 entries. R126. -/
def State.nonPacket (s : State) : Nat :=
  (s.disp.levels.map fun kl => (kl.2.filter fun i => !i.isPacket).length).foldl (· + ·) 0

/-- A level holds its limit. R128. -/
def State.levelFull (s : State) (l : Nat) : Bool := decide (s.rd (K.dispLevelLimit l) ≤ (s.level l).length)

/-- Where a packet stands among REPLAY items of one instant: its order domain, then its place from the domain's head ticket. R127. -/
def State.replayKey (s : State) (j : Nat) : Nat :=
  let d := (s.jentry j).desc
  65536 * d.orderDomain.toNat + (d.ticket.toNat + 65536 - s.headTicket d.orderDomain.toNat) % 65536

/-- A REPLAY item goes to the head of its level, behind those of the same instant whose place is earlier. R127. -/
def State.replayFirst (s : State) (i : Item) : List Item → List Item
  | [] => [i]
  | x :: r =>
    if x.kind = .replay ∧ x.enq = i.enq ∧ s.replayKey x.journal < s.replayKey i.journal then x :: s.replayFirst i r else i :: x :: r

/-- An item enqueued: a REPLAY item at the head of its level, any other at the tail. R126, R127, R147. -/
def State.enqueue (s : State) (i : Item) : State :=
  let i := { i with enq := s.now }
  let q := s.level i.level
  ((s.setLevel i.level (if i.kind = .replay then s.replayFirst i q else q ++ [i])).bump K.ctrDispEnqueued).bump
    (K.ctrLvlEnqueued i.level)

/-- The FlowAffinity of a flow class. R129, R146. -/
def State.flowAffinity (s : State) (f : Nat) : BitVec 16 := BitVec.ofNat 16 (s.rd (K.dispFlowAffinity (f / 128) (f % 128)))

/-- DISPATCHER_POST: a POSTED item is enqueued, or refused with LEVEL_FULL (a status without a number: log entry 14).
R126, R128. -/
def execDispatcherPost (l : Fin 8) (affinity : BitVec 16) (tag : BitVec 32) (s : State) : Host.Outcome State Fault Refusal :=
  .next (if s.levelFull l.val ∨ 2048 ≤ s.nonPacket then s.status Config.levelFull
    else (s.enqueue ⟨.posted, l.val, affinity, tag, 0, 0, 0⟩).status 0)

/-! ### Eligibility and grants (R129 to R132) -/

/-- No work event of the thread, end of its items or fault report is still on its way. -/
def State.settled (s : State) (t : Nat) : Bool :=
  let x := s.thread t
  x.work.isNone && x.preempt.isNone && (s.sent t).all fun m => match m with
    | .finish _ _ _ => false
    | .fault _ _ => false
    | .workDone _ => false
    | _ => true

/-- A thread is idle. R129. -/
def State.isIdle (s : State) (t : Nat) : Bool :=
  let x := s.thread t
  decide (x.st = .idle) && x.item.isNone && x.saved.isNone && s.settled t

/-- A cluster's active code bank holds a verified image; until then the cluster receives no grant. R426, R525. -/
def State.codeLoaded (s : State) (n : Nat) : Bool := tget false s.boot.codeOk (2 * n + s.activeBank n)

/-- A core takes work: not the upper core of a pair, in service, and not under a logic slice. R129, R499, R502. -/
def State.coreServing (s : State) (c : Nat) : Bool :=
  !(s.lockstep c && decide (c % 2 = 1)) && !s.coreOut c && s.codeLoaded (c / 4) && (match s.snd.slice with
    | some (d, ph) => ph = 2 || decide (d ≠ c)
    | none => true)

/-- A thread is eligible for an item. R129. -/
def State.eligible (s : State) (t : Nat) (i : Item) : Bool :=
  let c := t / 8
  decide (bit (s.rd (K.dispLevelMask c (t % 8))) i.level = 1) && i.affinity.getLsbD (clusterOf t)
    && !(decide (s.classOf i.level = 1) && s.on K.dispSafetyOnLockstep && !s.lockstep c) && s.coreServing c

/-- Threads of a core that hold work. R130, R143. -/
def State.busyThreads (s : State) (c : Nat) : Nat :=
  ((List.range 8).filter fun k => let x := s.thread (8 * c + k); x.item.isSome || x.work.isSome).length

/-- The thread with the least busy core, then the lowest number, of those a test admits. R130. -/
def State.leastBusy (s : State) (ok : Nat → Bool) : Option Nat :=
  ((List.range 512).filter ok).foldl (fun best t =>
    match best with
    | none => some t
    | some b => if s.busyThreads (t / 8) < s.busyThreads (b / 8) then some t else some b) none

/-- The idle thread an item would go to, outside the cluster of the cycle's first grant. R130. -/
def State.threadFor (s : State) (ban : Option Nat) (i : Item) : Option Nat :=
  s.leastBusy fun t => s.isIdle t && s.eligible t i && decide (ban ≠ some (clusterOf t))

/-- The oldest item of a queue that some idle thread can take, with that thread. R130. -/
def State.firstGrantable (s : State) (ban : Option Nat) : List Item → Option (Item × Nat)
  | [] => none
  | i :: r => match s.threadFor ban i with
    | some t => some (i, t)
    | none => s.firstGrantable ban r

/-- A thread that a TIMED item may pre-empt: it issues, or is HELD for a time, and is in no wait. A queued lock is one its Bulk work
holds. R132. -/
def State.preemptable (s : State) (t : Nat) (i : Item) : Bool :=
  let x := s.thread t
  (match x.item with
    | some b => decide (s.classOf b.level = 3)
    | none => false)
    && (match x.st with
      | .ready => true
      | .held _ => true
      | _ => false)
    && x.saved.isNone && s.settled t && s.eligible t i
    && (s.locksOf (.requester t false)).isEmpty

/-- The candidate granted most recently. R132. -/
def State.victim (s : State) (ban : Option Nat) (i : Item) : Option Nat :=
  ((List.range 512).filter fun t => s.preemptable t i && decide (ban ≠ some (clusterOf t))).foldl (fun best t =>
    match best with
    | none => some t
    | some b => if (s.thread b).seq < (s.thread t).seq then some t else some b) none

/-- What a grant counts, and the journal's side of it. R143, R147, R153, R166. -/
def State.countGrant (s : State) (t : Nat) (i : Item) : State :=
  let c := t / 8
  let wait := 2 * (s.now - i.enq)
  let s := ((s.bump K.ctrDispGranted).bump (K.ctrLvlGranted i.level)).bump (K.ctrDcoreGranted c)
  let s := { s with disp := { s.disp with
    grants := s.disp.grants + 1, grantLog := s.disp.grantLog ++ [(s.now, i.level, c, wait)],
    maxWait := tmod 0 s.disp.maxWait i.level (max wait) } }
  if !i.isPacket then s
  else
    let e := tget JEntry.zero s.oru.journal i.journal
    let late : Bool := match e.firstGrant with
      | some f => decide (i.kind = .replay) && decide (s.rd K.oruReplayMargin < s.now - f)
      | none => false
    let e := { e with st := .running, thread := t, firstGrant := some (e.firstGrant.getD s.now) }
    let s := (s.setJentry i.journal e).journeyNow e.desc jpGrant t
    if late then (s.bump K.ctrOruReplayMarginExceeded).almanacFirst 17 0x0705 3 0 [(2, e.desc.ticket.toNat)] else s

/-- The grant as it travels to the thread. R130, R198. -/
def State.grantOf (s : State) (t : Nat) (i : Item) : Grant :=
  ⟨i, s.disp.grants, s.wdStrobe, s.rd (K.thrWatchdogLimit (t / 8) (t % 8))⟩

/-- One level's chance of a grant: an ordinary one, or a pre-emption by the TIMED item at its head when no idle thread is eligible
for it. The cluster granted to, and the machine. R130, R132. -/
def State.grantLevel (s : State) (ban : Option Nat) (l : Nat) : Option (Nat × State) :=
  let q := s.level l
  match s.firstGrantable ban q with
  | some (i, t) =>
    let s1 := s.setLevel l (q.erase i)
    let g := s1.grantOf t i
    let s2 := s1.countGrant t i
    some (clusterOf t, (s2.setThread t { s2.thread t with work := some g }).sendFromDx t .work)
  | none => match q with
    | i :: r =>
      if i.isTimed ∧ s.classOf l = 0 ∧ s.on K.dispPreemptEnable ∧ s.threadFor none i = none then
        match s.victim ban i with
        | some t =>
          let s1 := s.setLevel l r
          let g := s1.grantOf t i
          let s2 := ((s1.countGrant t i).bump K.ctrDispPreemptions).bump (K.ctrDcorePreemptions (t / 8))
          some (clusterOf t, (s2.setThread t { s2.thread t with preempt := some g }).sendFromDx t .preempt)
        | none => none
      else none
    | [] => none

/-- The first level, from the highest, that gives a grant. -/
def State.grantFrom (s : State) (ban : Option Nat) : List Nat → Option (Nat × State)
  | [] => none
  | l :: r => match s.grantLevel ban l with
    | some g => some g
    | none => s.grantFrom ban r

/-- One grant slot. R130. -/
def State.grantSlot (s : State) (ban : Option Nat) : Option (Nat × State) := s.grantFrom ban [7, 6, 5, 4, 3, 2, 1, 0]

/-- DISPATCHER_GRANT: the two grant slots of a DX cycle, whose grants go to threads of different clusters. In safe state no grant is
made. R130, R132, R505. -/
def execDispatcherGrant (s : State) : Host.Outcome State Fault Refusal :=
  .next (if s.safeState then s
    else match s.grantSlot none with
      | none => s
      | some (n, s) => match s.grantSlot (some n) with
        | none => s
        | some (_, s) => s)

/-! ### The thread's side (R133, R134, R180) -/

/-- THREAD_WORK_START: a WORK event is sampled in the cluster. R18, R180. -/
def execThreadWorkStart (t : Fin 512) (s : State) : Host.Outcome State Fault Refusal :=
  let x := s.thread t.val
  .next (match x.work with
    | none => s
    | some g =>
      if x.st = .idle ∧ s.arrives t.val .work then
        ((s.takeFromDx t.val .work).setThread t.val { x with work := none }).startItem t.val g
      else s)

/-- PREEMPT_SAVE: the request is sampled: the context is saved and the TIMED item starts; if the Bulk work has ended, the
request is an ordinary WORK event. A divide in progress is abandoned and restarts on resumption. R133, R134, R193, R204. -/
def execPreemptSave (t : Fin 512) (s : State) : Host.Outcome State Fault Refusal :=
  if !s.arrives t.val .preempt then .next s
  else
  let s := s.takeFromDx t.val .preempt
  let x := s.thread t.val
  match x.preempt, x.item with
  | some g, some b =>
    if x.st = .ending then .next (s.setThread t.val { x with preempt := none, work := some g })
    else
      let s := s.abandonDivide t.val
      let y := s.thread t.val
      let st := match y.st with
        | .held _ => .ready
        | st => st
      let v : Saved := ⟨y.regs, y.pc, y.tsw, uncaptured y.loops, b, st, s.wdStrobe - y.wdFrom, y.wdLimit, y.codeBank, y.ev, y.seq⟩
      let window := y.window
      let desc := y.desc
      let s := (s.setThread t.val { y with saved := some v, second := true, preempt := none, loops := [], st := .idle }).startItem
        t.val g
      .next (s.setThread t.val { s.thread t.val with window := window, desc := desc })
  | some g, none => .next (s.setThread t.val { x with preempt := none, work := some g })
  | none, _ => .next s

/-- The locks an item that ends keeps no longer: those its register set took. R279. -/
def State.releaseOnDone (s : State) (t : Nat) (second : Bool) : State :=
  let l := s.locksOf (.requester t second)
  (l.foldl (fun s k => s.freeLock k) s).bump K.ctrRdvLockReleaseOnDone l.length

/-- The end of a TIMED or POSTED item as DX samples it. R260, R279, R292. -/
def State.doneSampled (s : State) (t : Nat) (second : Bool) : State :=
  ((s.releaseOnDone t second).setSubs t second []).cancelSet t second

/-! ### Delay lists (R136 to R138, R140) -/

def dlOk : Nat := 0
def dlLate : Nat := 1
def dlListFull : Nat := 2
def dlBadEntry : Nat := 3
def dlCancelled : Nat := 4
def dlNotFound : Nat := 5

def State.delayList (s : State) (l : Nat) : DelayList := tget DelayList.zero s.disp.lists l
def State.setDelayList (s : State) (l : Nat) (x : DelayList) : State :=
  { s with disp := { s.disp with lists := tset DelayList.zero s.disp.lists l x } }

/-- The list's last tick time. R137, R138. -/
def State.lastTick (s : State) (l : Nat) : Nat := tget 0 s.disp.tickNs (s.rd (K.dispDelayDomain l))

/-- Insertion by DueTime, after equal ones. R136. -/
def insertDue (e : DelayEntry) (l : List DelayEntry) : List DelayEntry :=
  l.takeWhile (fun x => decide (x.due ≤ e.due)) ++ e :: l.dropWhile (fun x => decide (x.due ≤ e.due))

/-- A handle. R137. -/
def delayHandle (l : Nat) (e : DelayEntry) : Nat := l * 2 ^ 13 + e.gen * 2 ^ 11 + e.slot

/-- INSERT of a 128-bit entry into list `l`: status, handle and the machine after it. Which free slot is used is open (log
entry 5). R136, R137. -/
def State.delayInsert (s : State) (l : Nat) (w : BitVec 128) : Nat × Nat × State :=
  let n := w.toNat
  let launch := decide (bit n 44 = 1)
  let aff := bits n 63 48
  let lvl := bits n 47 45
  let bad := decide (8 ≤ l) || decide (bits n 43 32 ≠ 0)
    || (if launch then decide (aff ≠ 0) || decide (lvl ≠ 0) else decide (aff = 0) || decide (s.classOf lvl ≠ 0))
  let x := s.delayList l
  if bad then (dlBadEntry, 0, s)
  else if 2048 ≤ x.entries.length then (dlListFull, 0, (s.bump K.ctrDispListFull).almanacFirst 17 0x0602 3 l [(1, l)])
  else match s.pick ((List.range 2048).filter fun i => x.entries.all fun e => decide (e.slot ≠ i)) with
    | none => (dlListFull, 0, s)
    | some (slot, s) =>
      let e : DelayEntry := ⟨bits n 127 64, BitVec.ofNat 16 aff, lvl, launch, BitVec.ofNat 32 n, slot, tget 0 x.gens slot, false, false⟩
      let s := s.setDelayList l { x with
        entries := insertDue e x.entries, gens := tset 0 x.gens slot ((e.gen + 1) % 4) }
      if e.due ≤ s.lastTick l then (dlLate, delayHandle l e, s.bump K.ctrDispLateInsert) else (dlOk, delayHandle l e, s)

/-- CANCEL of a handle. R137, R138. -/
def State.delayCancel (s : State) (h : Nat) : Nat × State :=
  let l := h / 2 ^ 13
  let x := s.delayList l
  match x.entries.find? fun e => decide (delayHandle l e = h) with
  | some e => (dlCancelled, (s.setDelayList l { x with
      entries := x.entries.filter (· ≠ e) }).bump K.ctrDispCancelOk)
  | none => (dlNotFound, s.bump K.ctrDispCancelNotFound)

/-- DELAY_LIST_INSERT by the Pilot: status and handle. R137. -/
def execDelayListInsert (l : Fin 8) (w : BitVec 128) (s : State) : Host.Outcome State Fault Refusal :=
  let r := s.delayInsert l.val w
  .next ({ r.2.2.status r.1 with reply := toLE 2 r.2.1 } : State)

/-- DELAY_LIST_CANCEL by the Pilot. R137. -/
def execDelayListCancel (h : BitVec 16) (s : State) : Host.Outcome State Fault Refusal :=
  let r := s.delayCancel h.toNat
  .next (r.2.status r.1)

/-- The release point of an entry. R138. -/
def State.releasePoint (s : State) (e : DelayEntry) : Nat := if e.launch then e.due - s.rd K.dispLaunchLead else e.due

/-- DELAY_ENTRY_DUE: the first due entry of a list is released: WORK into its level, LAUNCH to the Traffic Manager. A TIMED item that
finds its level full, or no free non-packet entry, stays and holds up those behind it. R127, R128, R138. -/
def execDelayEntryDue (l : Fin 8) (s : State) : Host.Outcome State Fault Refusal :=
  let x := s.delayList l.val
  .next (match x.entries.find? (·.isDue) with
    | none => s
    | some e =>
      let out := s.setDelayList l.val { x with entries := x.entries.filter (· ≠ e) }
      if e.launch then
        (out.bump K.ctrDispLaunchReleased).launchRelease (e.tag.toNat % 2 ^ 24) (decide (s.listNs l.val + 100 ≤ e.due))
      else if s.levelFull e.level ∨ 2048 ≤ s.nonPacket then
        if e.held then s
        else ((s.setDelayList l.val { x with entries := x.entries.map fun d => if d = e then { e with held := true } else d }).bump
          K.ctrDispReleaseHeld).almanacFirst 17 0x0605 3 l.val [(1, l.val), (1, e.level)]
      else (out.bump K.ctrDispTimedReleased).enqueue ⟨.timed, e.level, e.affinity, e.tag, 0, l.val, 0⟩)

/-- The entries of a list as a sampled tick leaves them: those whose release point has come are due; after a step of the domain the
others no longer are. R138, R140. -/
def State.noteDue (s : State) (l : Nat) (stepped : Bool) : State :=
  let x := s.delayList l
  s.setDelayList l { x with entries := x.entries.map fun e =>
    { e with isDue := decide (s.releasePoint e ≤ s.lastTick l) || (e.isDue && !stepped) } }

/-- The Dispatcher samples a tick with the domain times, rounded down to 8 ns. After a step of a domain, each of its lists records the
number of entries its new time makes due. R138, R140. -/
def State.dispatcherTick (s : State) (times : List Nat) (stepped : List Nat) : State :=
  let s := { s with disp := { s.disp with
    tickNs := (List.range 4).foldl (fun m d => tset 0 m d ((times.getD d 0) / 8 * 8)) s.disp.tickNs } }
  (List.range 8).foldl (fun s l =>
    let moved := decide (s.rd (K.dispDelayDomain l) ∈ stepped)
    let s := s.noteDue l moved
    s.when moved fun s =>
      (s.bump K.ctrDispDomainStep).almanac 17 0x0604 2 [(1, l), (2, ((s.delayList l).entries.filter (·.isDue)).length)]) s

/-! ### Requests from threads (R17, R18, R137, R247, R274) -/

/-- A request as it is served in DX. R137, R247. -/
def State.serveDx (s : State) (q : Rq) : DxReq → State
  | .lock l try_ n => s.rdvLock q l try_ n
  | .unlock l => s.rdvUnlock q l
  | .clrAbnd l => s.rdvClrAbnd q l
  | .semWait k n => s.rdvSemWait q k n
  | .semSig k count => s.rdvSemSig q k count
  | .chSend c words n _ => s.rdvSend q c words n
  | .chRecv c buf n => s.rdvRecv q c buf n
  | .evSet e => s.rdvEvSet q e
  | .evClr e => s.rdvEvClr q e
  | .evWait e n => s.rdvEvWait q e n
  | .evSub e => s.rdvEvSub q e
  | .evUnsub e => s.rdvEvUnsub q e
  | .add off v => s.rdvAtomic q off fun old => some (old + v)
  | .cas off old new => s.rdvAtomic q off fun v => if v = old then some new else none
  | .swap off v => s.rdvAtomic q off fun _ => some v
  | .insert l entry =>
    let r := s.delayInsert l entry
    r.2.2.reply_ q.tid q.second q.rp 2 r.1 wsArrived (BitVec.ofNat 32 r.2.1)
  | .cancel handle =>
    let r := s.delayCancel handle
    r.2.reply_ q.tid q.second q.rp 2 r.1 wsArrived 0#32

/-- An event DX samples without a command of its own. -/
def State.sample (s : State) (t : Nat) : ToDx → State
  | .request second rp r => s.serveDx ⟨t, second, rp⟩ r
  | .store off data => s.atomicStore t off data
  | .load off n =>
    let r := s.atomicLoad off n
    match (r.2.2.thread t).st with
    | .blocked (.load l) =>
      (r.2.2.setThread t { r.2.2.thread t with st := .blocked (.load { l with data := r.1, bad := r.2.1.map fun w => (8, w) }) }).sendFromDx
        t .loaded
    | _ => r.2.2
  | .workDone second => s.doneSampled t second
  | _ => s

/-- An event that DX samples as soon as it stands at the head of its crossing: every one that has no command of its own; a barrel
thread's message once its last word has crossed, at one word per BI cycle of 1.25 ns. R288, R359. -/
def State.samplesNow (s : State) : ToDx → Bool
  | .post _ _ _ _ _ => false
  | .finish _ _ _ => false
  | .fault _ _ => false
  | .request _ _ (.chSend _ words _ (some began)) => decide (4 * began + 5 * words.length ≤ 4 * s.now)
  | _ => true

/-- DX samples what stands at the head of crossing c, in order, up to the first event that waits; `n` bounds their number. R18. -/
def State.drainDx (s : State) (c : Nat) : Nat → State
  | 0 => s
  | n + 1 => match s.toDx c with
    | (t, m) :: r => if s.samplesNow m then ((s.setToDx c r).sample t m).drainDx c n else s
    | [] => s

def State.drain (s : State) (c : Nat) : State := s.drainDx c (s.toDx c).length

/-- A thread sends an event to DX; it is sampled at once when nothing stands ahead of it. R17, R18. -/
def State.sendDx (s : State) (t : Nat) (m : ToDx) : State := (s.post_ t m).drain (crossOf t)

/-- The event at the head of a thread's crossing, when it is the thread's. R18. -/
def State.headDx (s : State) (t : Nat) : Option ToDx :=
  match s.toDx (crossOf t) with
  | (u, m) :: _ => if u = t then some m else none
  | [] => none

/-- The event at the head of a crossing has been sampled; `f` acts on it before those behind it are. -/
def State.popDx (s : State) (t : Nat) (f : State → State) : State :=
  (f (s.setToDx (crossOf t) ((s.toDx (crossOf t)).drop 1))).drain (crossOf t)

/-- A TIMED or POSTED item ends: DX is told, and saved Bulk work resumes. R133, R246, R260, R279, R292. -/
def State.workDone (s : State) (t : Nat) : State :=
  let sec := (s.thread t).second
  ((s.cancelOps t (b2n sec)).resume_ t).sendDx t (.workDone sec)

/-! ### Gauges (R143) -/

/-- The mean of a list, rounded down. -/
def mean (l : List Nat) : Nat := l.foldl (· + ·) 0 / l.length

/-- GAUGE_REFRESH: level and core gauges, once per microsecond. R143. -/
def execGaugeRefresh (s : State) : Host.Outcome State Fault Refusal :=
  let w := s.rd K.dispLoadWindow
  let s := { s with disp := { s.disp with
    grantLog := s.disp.grantLog.filter (fun g => decide (s.now ≤ g.1 + 1000 * w))
    busyLog := (List.range 64).foldl (fun m c =>
      if s.lockstep c && decide (c % 2 = 1) then m
      else tmod [] m c fun l => (s.busyThreads c :: l).take w) s.disp.busyLog } }
  let s := (List.range 8).foldl (fun s l =>
    let q := s.level l
    let s := s.wr (K.gaugeLvlDepth l) q.length
    let s := s.wr (K.gaugeLvlHeadWait l) (match q with
      | i :: _ => 2 * (s.now - i.enq)
      | [] => 0)
    let s := s.wr (K.gaugeLvlMaxWait l) (tget 0 s.disp.maxWait l)
    s.wr (K.gaugeLvlMeanWait l) (mean ((s.disp.grantLog.filter fun g => decide (g.2.1 = l)).map (·.2.2.2)))) s
  .next ((List.range 64).foldl (fun s c =>
    let b := tget [] s.disp.busyLog c
    let s := s.wr (K.gaugeDcoreBusyThreads c) (b.headD 0)
    let s := s.wr (K.gaugeDcoreLoad c) ((b.foldl (· + ·) 0) * 128 / b.length)
    s.wr (K.gaugeDcoreMeanWait c) (mean ((s.disp.grantLog.filter fun g => decide (g.2.2.1 = c)).map (·.2.2.2)))) s)

end Sys2Proof.Machine
end

