-- ==== Sys2Proof/Machine/Dram.lean ====
section
/-! DEFINITION. The DRAM Controller (16_dram.md, R375 to R398): configuration, training, regions, the queues of a channel, ECC,
integrity, the retry sequence, row-hammer defence, refresh and power-down. Data is held in the clear: encryption and tags show
only through the lines marked as failing them. -/

namespace Sys2Proof.Machine

/-! ### Statuses -/

def drOk : Nat := 0
def drEcc : Nat := 1
def drIntegrity : Nat := 2
def drUnmapped : Nat := 3
def drNotReady : Nat := 4
def drNoKey : Nat := 5
def drFailed : Nat := 6
def drExhausted : Nat := 7

/-! ### Configuration (R375, R376, R391) -/

/-- A region's declaration: base, size, kind. -/
structure Region where
  base : Nat
  size : Nat
  kind : Nat
deriving DecidableEq, Repr

/-- The declarations of the eight regions, as some reading of the dictionary gives them. -/
def regionsOf (rd : Nat → Nat) : List Region :=
  (List.range 8).map fun r => ⟨rd (K.drgBase r), rd (K.drgSize r), rd (K.drgKind r)⟩

def mib2 : Nat := 2 ^ 21

/-- A region's share of the metadata area, rounded up to 2 MiB. R391. -/
def Region.share (r : Region) : Nat :=
  let raw := if r.kind = 1 then cdiv r.size 8 else if r.kind = 2 then cdiv (r.size * 70217) 262144 else 0
  cdiv raw mib2 * mib2

/-- Bytes of memory a configuration installs. R375. -/
def installedBytes (rd : Nat → Nat) : Nat :=
  let perRank := rd K.dramDeviceDensity * (if rd K.dramDeviceWidth = 4 then 2 else 1) * 2 ^ 30
  rd K.dramChannels * rd K.dramRanks * perRank

def metaBytes (rd : Nat → Nat) : Nat := ((regionsOf rd).map Region.share).foldl (· + ·) 0

/-- No two of the regions in use overlap. -/
def disjointRegions : List Region → Bool
  | [] => true
  | r :: rs => rs.all (fun q => decide (r.size = 0) || decide (q.size = 0) || decide (r.base + r.size ≤ q.base)
      || decide (q.base + q.size ≤ r.base)) && disjointRegions rs

/-- The configuration keeps the rules of R375, R381 and R391. -/
def dramConfigOk (rd : Nat → Nat) : Bool :=
  let rs := (regionsOf rd).filter fun r => r.size ≠ 0
  let top := installedBytes rd - metaBytes rd
  let sum (p : Region → Bool) : Nat := ((rs.filter p).map Region.size).foldl (· + ·) 0
  let spill := 264 * rd K.orchSpillCells
  let spillBase := rd K.orchSpillBase
  decide (installedBytes rd ≤ 64 * 2 ^ 30) && decide (metaBytes rd ≤ installedBytes rd)
    && rs.all (fun r => decide (r.base % mib2 = 0) && decide (r.size % mib2 = 0) && decide (r.base + r.size ≤ top))
    && disjointRegions rs && decide (sum (fun r => r.kind ≠ 0) ≤ 32 * 2 ^ 30) && decide (sum (fun r => r.kind = 2) ≤ 2 ^ 30)
    && (decide (spill = 0) || rs.any fun r => decide (r.base ≤ spillBase) && decide (spillBase + spill ≤ r.base + r.size))
    && [0, 1].all fun c => decide (rd (K.dchWriteLow c) < rd (K.dchWriteHigh c)) && decide (rd (K.dchWriteHigh c) ≤ 64)

/-- Channel c is populated. -/
def State.populated (s : State) (c : Nat) : Bool := decide (c < s.rd K.dramChannels)

/-- The channel and subchannel of an address. R376. -/
def State.dramChannel (s : State) (a : Nat) : Nat := if s.rd K.dramChannels = 2 then bit a 7 else 0
def dramSub (a : Nat) : Nat := bit a 6

/-- Rank, bank and row of a line: the remaining bits in the order AddressMap gives, over the DDR5 geometry of 32 banks and
rows of 4 KiB (x8) or 8 KiB (x4) per subchannel (PRESUMED, log entry 27). R376. -/
def State.dramPlace (s : State) (a : Nat) : Nat × Nat × Nat :=
  let l := (if s.rd K.dramChannels = 2 then a / 256 else a / 128) / (if s.rd K.dramDeviceWidth = 4 then 128 else 64)
  let k := s.rd K.dramRanks
  if s.rd K.dramAddressMap = 0 then (l % k, l / k % 32, l / k / 32) else (l / 32 % k, l % 32, l / 32 / k)

/-- The key of a rank, and of a bank. -/
def rankKey (c sub r : Nat) : Nat := (c * 2 + sub) * 2 + r
def bankKey (c sub r b : Nat) : Nat := rankKey c sub r * 32 + b

/-- The region in use an address lies in, with its number. R391, R395. -/
def State.regionAt (s : State) (a : Nat) : Option Nat :=
  (List.range 8).find? fun r => decide (s.rd (K.drgSize r) ≠ 0) && decide (s.rd (K.drgState r) < 2)
    && decide (s.rd (K.drgBase r) ≤ a) && decide (a < s.rd (K.drgBase r) + s.rd (K.drgSize r))

def State.regionKind (s : State) (a : Nat) : Nat :=
  match s.regionAt a with
  | some r => s.rd (K.drgKind r)
  | none => 0

def State.dchan (s : State) (c : Nat) : DramChan := tget DramChan.zero s.dram.chans c
def State.setDchan (s : State) (c : Nat) (x : DramChan) : State :=
  { s with dram := { s.dram with chans := tset DramChan.zero s.dram.chans c x } }
def State.dbank (s : State) (k : Nat) : DramBank := tget DramBank.zero s.dram.banks k
def State.setDbank (s : State) (k : Nat) (x : DramBank) : State :=
  { s with dram := { s.dram with banks := tset DramBank.zero s.dram.banks k x } }
def State.drank (s : State) (k : Nat) : DramRank := tget DramRank.zero s.dram.ranks k
def State.setDrank (s : State) (k : Nat) (x : DramRank) : State :=
  { s with dram := { s.dram with ranks := tset DramRank.zero s.dram.ranks k x } }

/-- A completion noted for its requester, its status as the operation's. -/
def State.dramDone (s : State) (q : DramReq) (status : Nat) (data : List Byte := []) : State :=
  ({ s with dram := { s.dram with done := s.dram.done ++ [⟨q.requester, q.line, status, data⟩] } } : State).status status

/-! ### Region contents and marks -/

/-- Memory bytes with keys in a range cleared. -/
def clearSpan (m : List Host.Cell) (k n : Nat) : List Host.Cell :=
  m.filter fun c => !(decide (k ≤ c.1) && decide (c.1 < k + n))

def outside (b n : Nat) (l : List Nat) : List Nat := l.filter fun a => !(decide (b ≤ a) && decide (a < b + n))

/-- A region written with zero data, valid check bits, tags and counters; it is READY. R391. -/
def State.initRegion (s : State) (r : Nat) : State :=
  let b := s.rd (K.drgBase r)
  let n := s.rd (K.drgSize r)
  ({ s with
    mem := clearSpan s.mem (memKey .dram b) n
    dram := { s.dram with
      badEcc := outside b n s.dram.badEcc, fixEcc := outside b n s.dram.fixEcc, badTag := outside b n s.dram.badTag,
      counters := s.dram.counters.filter fun kv => kv.1 / 2 ^ 27 ≠ r } } : State).wr (K.drgState r) 1

/-- A line in the Orchard's spill data area: its cell. R303. -/
def State.spillCellAt (s : State) (a : Nat) : Option Nat :=
  let base := s.rd K.orchSpillBase + 8 * s.rd K.orchSpillCells
  if base ≤ a ∧ a < base + 256 * s.rd K.orchSpillCells then some (0x200000 + (a - base) / 256) else none

/-- An uncorrectable error met on a line. R304, R385. -/
def State.dramEcc (s : State) (requester line : Nat) : State :=
  let s := (s.bump (K.ctrDchEccUncorrectable (s.dramChannel line))).almanac 21 0x1006 4 [(8, line)]
  match s.spillCellAt line with
  | some h => if requester < 2 ∧ h ∉ s.orch.badData then
      { s with orch := { s.orch with badData := h :: s.orch.badData } } else s
  | none => s

/-- A correctable error corrected and written back. R385. -/
def State.dramFix (s : State) (line : Nat) : State :=
  ((({ s with dram := { s.dram with fixEcc := s.dram.fixEcc.filter (· ≠ line) } } : State).bump
    (K.ctrDchEccCorrected (s.dramChannel line))).almanacFirst 21 0x1005 2 0 [(8, line)]).reportFault 0 0

/-- The checks of a line read: its status and the machine after them. R385, R393. -/
def State.dramCheck (s : State) (requester line : Nat) : Nat × State :=
  if line ∈ s.dram.badEcc then (drEcc, s.dramEcc requester line)
  else if s.regionKind line ≠ 0 ∧ line ∈ s.dram.badTag then
    let s := { s with dram := { s.dram with
      failedAt := (s.now :: s.dram.failedAt.filter fun t => decide (s.now < t + 10 ^ 9)).take 16 } }
    (drIntegrity, (s.bump (K.ctrDchIntegrityFailures (s.dramChannel line))).almanac 21 0x1007 5
      [(1, (s.regionAt line).getD 0), (8, line)])
  else if line ∈ s.dram.fixEcc then (drOk, s.dramFix line)
  else (drOk, s)

/-- Bytes of a line by offset, from memory. -/
def State.lineBytes (s : State) (line : Nat) : List Byte := s.loadBytes .dram line 64

/-- Bytes by offset laid over a list. -/
def overlay (l : List Byte) (bs : List (Nat × Byte)) : List Byte := bs.foldl (fun l b => l.set b.1 b.2) l

/-- Bytes from an offset, by offset. -/
def offsets : Nat → List Byte → List (Nat × Byte)
  | _, [] => []
  | o, b :: r => (o, b) :: offsets (o + 1) r

/-- Newer bytes over older, by offset, rising. R383. -/
def mergeBytes (old new : List (Nat × Byte)) : List (Nat × Byte) :=
  (List.range 64).filterMap fun i => ((new.find? (·.1 = i)).or (old.find? (·.1 = i)))

/-- The key of the write counter of level k that counts a line of a region: level 1 a counter per line, each further level one per
counter line of eight, level 7 the root. R391, R392. -/
def counterKey (r k line : Nat) : Nat := r * 2 ^ 27 + k * 2 ^ 24 + line / 8 ^ (k - 1)

/-- The counters a write to a line of a Vaulted region raises, from its own up to its root. R392. -/
def State.counterChain (s : State) (a : Nat) : List Nat :=
  match s.regionAt a with
  | some r => if s.rd (K.drgKind r) = 2 then (List.range 7).map fun k => counterKey r (k + 1) ((a - s.rd (K.drgBase r)) / 64) else []
  | none => []

/-- A write performed on its line: read-modify-write when partial; the status. R384, R385, R392. -/
def State.dramPut (s : State) (requester line : Nat) (bytes : List (Nat × Byte)) : Nat × State :=
  let full := decide (64 ≤ bytes.length)
  let r := if full then (drOk, s) else s.dramCheck requester line
  if r.1 ≠ drOk then r
  else
    let s := r.2
    let chain := s.counterChain line
    if chain.any fun k => decide (tget 0 s.dram.counters k = 2 ^ 56 - 1) then (drExhausted, s.bump K.ctrDramCounterExhausted)
    else
      let s := s.storeBytes .dram line (overlay (s.lineBytes line) bytes)
      let d := s.dram
      (drOk, { s with dram := { d with
        counters := chain.foldl (fun t k => tmod 0 t k (· + 1)) d.counters
        badEcc := d.badEcc.filter (· ≠ line), fixEcc := d.fixEcc.filter (· ≠ line), badTag := d.badTag.filter (· ≠ line) } })

/-! ### Admission (R380, R394) -/

/-- The checks a request meets before its queue: a status, or none. -/
def State.dramRefusal (s : State) (a : Nat) : Option Nat :=
  if s.rd K.dramDramState = 3 then some drFailed
  else match s.regionAt a with
    | none => some drUnmapped
    | some r =>
      if tget [] s.dram.keys r = [] ∧ s.rd (K.drgKind r) ≠ 0 then some drNoKey
      else if s.rd (K.drgState r) = 0 then some drNotReady
      else none

/-- A refusal counted. R397. -/
def State.countRefusal (s : State) (st : Nat) : State :=
  if st = drUnmapped then s.bump K.ctrDramUnmappedRequests
  else if st = drNotReady then s.bump K.ctrDramNotReadyRequests
  else if st = drNoKey then s.bump K.ctrDramNoKeyRequests
  else s

/-- The write queue holds WriteHigh entries or more: the channel enters DRAIN. R381. -/
def State.mayDrain (s : State) (c : Nat) : State :=
  let x := s.dchan c
  if !x.drain ∧ s.rd (K.dchWriteHigh c) ≤ x.writes.length then (s.setDchan c { x with drain := true }).bump (K.ctrDchDrains c) else s

/-- A request sampled into its queue, or none when the queue is full: forwarding, merging and the way into DRAIN. R380, R381,
R383. -/
def State.dramEnqueue (s : State) (c : Nat) (q : DramReq) : Option State :=
  let x := s.dchan c
  let old := x.writes.find? (·.line = q.line)
  if q.write then
    match old with
    | some w => some ((s.setDchan c { x with writes := x.writes.map fun v =>
        if v.line = q.line then { v with bytes := mergeBytes w.bytes q.bytes } else v }).bump (K.ctrDchWrites c))
    | none =>
      if 64 ≤ x.writes.length then none
      else some (((s.setDchan c { x with writes := x.writes ++ [q] }).bump (K.ctrDchWrites c)).mayDrain c)
  else if 64 ≤ x.reads.length then none
  else
    let s := (s.setDchan c { x with reads := x.reads ++ [{ q with bytes := (old.map (·.bytes)).getD [] }] }).bump (K.ctrDchReads c)
    some (s.when old.isSome (·.bump (K.ctrDchReadForwards c)))

/-- A request at the head of its crossing is sampled: refused, or into its queue; none while its queue is full. R380. -/
def State.dramSample (s : State) (q : DramReq) : Option State :=
  match s.dramRefusal q.line with
  | some st => some ((s.countRefusal st).dramDone q st)
  | none => s.dramEnqueue (s.dramChannel q.line) { q with at_ := s.now }

/-- Requests of a crossing sampled in its order, up to the first that waits; those left. R18, R380. -/
def State.dramTake : State → List DramReq → State × List DramReq
  | s, [] => (s, [])
  | s, q :: r => match s.dramSample q with
    | some s => s.dramTake r
    | none => (s, q :: r)

/-- Both crossings sampled, that from OB first. R380, R383. -/
def State.admitCrossings (s : State) : State :=
  let a := s.dramTake s.dram.fromOb
  let b := a.1.dramTake s.dram.fromPl
  { b.1 with dram := { b.1.dram with fromOb := a.2, fromPl := b.2 } }

/-! ### Activates (R388, R389) -/

/-- Row-hammer classes: the Orchard, the DMA channels, the Pilot pairs. R389. -/
def hammerClass (requester : Nat) : Nat := requester - 1

/-- The class with the most ACTs to a bank over the last microsecond; ties go to the lower class. R389. -/
def topClass (l : List (Nat × Nat)) : Nat :=
  (List.range 20).foldl (fun b c =>
    if (l.filter (·.1 = b)).length < (l.filter (·.1 = c)).length then c else b) 0

/-- The index of the entry with the lowest count; ties go to the lowest index. R388. -/
def lowestIdx (l : List (Nat × Nat)) : Nat :=
  (List.range l.length).foldl (fun b i => if (l.getD i (0, 0)).2 < (l.getD b (0, 0)).2 then i else b) 0

/-- The activate counts after an ACT to a row: none on a table overflow. R388. -/
def countAct (limit row : Nat) (l : List (Nat × Nat)) : Option (List (Nat × Nat)) :=
  if l.any (·.1 = row) then some (l.map fun e => if e.1 = row then (e.1, e.2 + 1) else e)
  else if l.length < 16 then some (l ++ [(row, 1)])
  else
    let i := lowestIdx l
    let c := (l.getD i (0, 0)).2
    if c < limit then some (l.set i (row, c + 1)) else none

/-- A bank must be activated for a row, and the class is held to one ACT per ThrottleInterval. R389. -/
def State.throttledNow (s : State) (c : Nat) (b : DramBank) (cls row : Nat) : Bool :=
  decide (b.openRow ≠ some row) && b.throttled.any fun x => decide (x.1 = cls) && decide (s.now < x.2 + s.rd (K.dchThrottleInterval c))

/-- A bank's rows under the geometry of log entry 27. -/
def State.bankRows (s : State) : Nat := s.rd K.dramDeviceDensity * 4096

/-- The rows a mitigation refreshes about a row: consecutive logical numbers within BlastRadius. R389. -/
def State.neighbours (s : State) (c row : Nat) : List Nat :=
  (List.range (s.rd (K.dchBlastRadius c))).flatMap fun i =>
    (if i + 1 ≤ row then [row - (i + 1)] else []) ++ (if row + i + 1 < s.bankRows then [row + i + 1] else [])

/-- A row whose count reaches RhThreshold: its neighbours are refreshed, an RFM follows when enabled, and the count returns to 0.
R389. -/
def State.mitigate (s : State) (c row : Nat) (b : DramBank) : DramBank :=
  { b with
    counts := b.counts.map fun e => if e.1 = row then (e.1, 0) else e
    refreshed := s.neighbours c row
    rfms := b.rfms + b2n (s.on (K.dchRfmEnable c)) }

/-- The bank, rank and row a request needs made ready: power-down left, the row opened, the ACT counted. R388 to R390. -/
def State.openRowFor (s : State) (c : Nat) (q : DramReq) : State :=
  let pl := s.dramPlace q.line
  let rk := rankKey c (dramSub q.line) pl.1
  let bk := bankKey c (dramSub q.line) pl.1 pl.2.1
  let row := pl.2.2
  let cls := hammerClass q.requester
  let s := s.setDrank rk { s.drank rk with down := false, busyAt := s.now }
  let b := s.dbank bk
  if b.openRow = some row then s
  else
    let acts := (cls, s.now) :: b.acts.filter fun a => decide (s.now ≤ a.2 + 1000)
    let s := s.when (b.throttled.any fun x => decide (x.1 = cls)) (·.bump (K.ctrDchThrottledActs c))
    let b := { b with openRow := some row, acts := acts, throttled := b.throttled.map fun (x : Nat × Nat) => if x.1 = cls then (cls, s.now) else x }
    match countAct (s.rd (K.dchReplaceLimit c)) row b.counts with
    | some counts =>
      if counts.any fun e => decide (e.1 = row) && decide (s.rd (K.dchRhThreshold c) ≤ e.2) then
        (s.setDbank bk (s.mitigate c row { b with counts := counts })).bump (K.ctrDchRhMitigations c)
      else s.setDbank bk { b with counts := counts }
    | none =>
      let top := topClass acts
      let last := ((acts.find? fun a => decide (a.1 = top)).map (·.2)).getD s.now
      let s1 := (s.setDbank bk { b with
        throttled := (b.throttled.filter fun (x : Nat × Nat) => x.1 ≠ top) ++ [(top, last)], told := true }).bump (K.ctrDchRhOverflows c)
      s1.when (!b.told) (·.almanac 21 0x1008 3 [(1, c), (1, pl.1), (1, dramSub q.line * 32 + pl.2.1), (1, top)])

/-! ### Picking (R381, R382) -/

/-- The row of a request is open. -/
def State.rowHit (s : State) (c : Nat) (q : DramReq) : Bool :=
  let pl := s.dramPlace q.line
  decide ((s.dbank (bankKey c (dramSub q.line) pl.1 pl.2.1)).openRow = some pl.2.2)

/-- A request must wait for its throttle. -/
def State.held_ (s : State) (c : Nat) (q : DramReq) : Bool :=
  let pl := s.dramPlace q.line
  s.throttledNow c (s.dbank (bankKey c (dramSub q.line) pl.1 pl.2.1)) (hammerClass q.requester) pl.2.2

/-- Two requests share a bank. -/
def State.sameBank (s : State) (p q : DramReq) : Bool :=
  decide (dramSub p.line = dramSub q.line) && decide ((s.dramPlace p.line).1 = (s.dramPlace q.line).1)
    && decide ((s.dramPlace p.line).2.1 = (s.dramPlace q.line).2.1)

/-- A request may pass the older ones of its bank: none of them has been overtaken RowHitCap times. -/
def State.mayPass (s : State) (c : Nat) (older : List DramReq) (q : DramReq) : Bool :=
  older.all fun p => !s.sameBank p q || decide (p.overtaken < s.rd (K.dchRowHitCap c))

/-- The first request that hits an open row and may pass those before it. -/
def State.firstHit (s : State) (c : Nat) : List DramReq → List DramReq → Option DramReq
  | _, [] => none
  | older, q :: r => if s.rowHit c q && s.mayPass c older q then some q else s.firstHit c (older ++ [q]) r

/-- The request served next of a candidate list, oldest first. R382. -/
def State.dramPick (s : State) (c : Nat) (l : List DramReq) : Option DramReq :=
  (s.firstHit c [] l).or l.head?

/-- The queue after a request leaves it: older ones of its bank have been overtaken once more. -/
def State.leave (s : State) (q : DramReq) : List DramReq → List DramReq
  | [] => []
  | p :: r => if p = q then r else (if s.sameBank p q then { p with overtaken := p.overtaken + 1 } else p) :: s.leave q r

/-- Reads of a subchannel that can be served: egress reads when any waits, else all. -/
def State.readCands (s : State) (c sub : Nat) : List DramReq :=
  let l := (s.dchan c).reads.filter fun q => decide (dramSub q.line = sub) && !s.held_ c q
  let e := l.filter fun q => decide (q.requester = 0)
  if e.isEmpty then l else e

/-- Writes of a subchannel that can be issued: a write waits for the queued reads of its line. -/
def State.writeCands (s : State) (c sub : Nat) : List DramReq :=
  let x := s.dchan c
  x.writes.filter fun q => decide (dramSub q.line = sub) && !s.held_ c q && x.reads.all fun r => decide (r.line ≠ q.line)

/-- A request entered in its subchannel's retry buffer, which keeps 32. R386. -/
def State.noteIssued (s : State) (c : Nat) (q : DramReq) : State :=
  let x := s.dchan c
  let q := { q with at_ := s.now }
  s.setDchan c (if dramSub q.line = 0 then { x with retryA := (q :: x.retryA).take 32 }
    else { x with retryB := (q :: x.retryB).take 32 })

/-- DRAM clocks of the speed bin in whole ns. R377. -/
def State.clocksNs (s : State) (n : Nat) : Nat :=
  let b := s.rd K.dramSpeedBin
  n * (if b = 0 then 5000 else if b = 1 then 5714 else 6667) / 16000

/-- RetryWindow in ns. R377, R386. -/
def State.retryWindowNs (s : State) : Nat := s.clocksNs (tget 0 s.dram.timing (32 * s.rd K.dramSpeedBin + 25))

/-- A subchannel may issue a command: no more than 32 within RetryWindow, and no retry sequence under way. R386. -/
def State.issuing (s : State) (c sub : Nat) : Bool :=
  let x := s.dchan c
  decide (s.rd K.dramDramState ≠ 3) && !x.alert && (match (if sub = 0 then x.retryA else x.retryB)[31]? with
    | some q => decide (q.at_ + s.retryWindowNs ≤ s.now)
    | none => true)

/-! ### Requests of other blocks, served as one access -/

/-- One line's part of a read: bytes with queued writes merged in. R383, R385, R393. -/
def State.dramReadLine (s : State) (requester a n : Nat) : Nat × List Byte × State :=
  let line := a / 64 * 64
  match s.dramRefusal line with
  | some st => (st, [], s.countRefusal st)
  | none =>
    let r := s.dramCheck requester line
    if r.1 ≠ drOk then (r.1, [], r.2)
    else
      let c := s.dramChannel line
      let old := (((s.dchan c).writes.find? (·.line = line)).map (·.bytes)).getD []
      (drOk, slice (overlay (r.2.lineBytes line) old) (a % 64) n,
        (r.2.bump (K.ctrDchReads c)).openRowFor c ⟨requester, line, false, [], a % 64, n, s.now, 0⟩)

/-- One line's part of a write, past the queue: a queued write of the line takes the bytes too. -/
def State.dramWriteLine (s : State) (requester a : Nat) (bs : List Byte) : Nat × State :=
  let line := a / 64 * 64
  match s.dramRefusal line with
  | some st => (st, s.countRefusal st)
  | none =>
    let new := offsets (a % 64) bs
    let r := s.dramPut requester line new
    if r.1 ≠ drOk then r
    else
      let c := s.dramChannel line
      let s := r.2.openRowFor c ⟨requester, line, true, [], 0, 0, s.now, 0⟩
      let x := s.dchan c
      (drOk, (s.setDchan c { x with writes := x.writes.map fun v =>
        if v.line = line then { v with bytes := mergeBytes v.bytes new } else v }).bump (K.ctrDchWrites c))

/-! ### The commands -/

/-- The channel fails: every queued request completes CHANNEL_FAILED. R378, R387. -/
def State.failDram (s : State) (c : Nat) : State :=
  let s := (s.wr (K.dchChannelState c) 2).wr K.dramDramState 3
  ([0, 1].foldl (fun s k =>
    let x := s.dchan k
    let s := (x.reads ++ x.writes).foldl (fun s q => s.dramDone q drFailed) s
    s.setDchan k { s.dchan k with reads := [], writes := [], drain := false, alert := false }) s).admitCrossings

/-- TrainStep: the step of the channel that is furthest behind. -/
def State.trainStep (s : State) : Nat :=
  ((List.range 2).filter s.populated).foldl (fun m c => min m (min 7 (s.dchan c).step)) 7

/-- DRAM_TRAIN_STEP_DONE: a step of a channel in training ends, well or not. The fourth failure fails the channel; when the last
populated channel ends step 7, the regions with InitAtBoot are ready and DramState is READY. R378, R391. -/
def execDramTrainStepDone (c : Fin 2) (ok : Bool) (s : State) : Host.Outcome State Fault Refusal :=
  let x := s.dchan c.val
  if s.rd K.dramDramState = 1 ∧ s.populated c.val ∧ 1 ≤ x.step ∧ x.step ≤ 7 then
    if ok then
      let s := s.setDchan c.val { x with step := x.step + 1, tries := 0 }
      let s := s.wr K.dramTrainStep s.trainStep
      if x.step = 7 then
        let s := s.wr (K.dchChannelState c.val) 1
        if (List.range 2).all fun k => !s.populated k || decide ((s.dchan k).step = 8) then
          let s := (List.range 8).foldl (fun s r =>
            if s.rd (K.drgSize r) ≠ 0 ∧ s.rd (K.drgState r) = 0 ∧ s.on (K.drgInitAtBoot r) then s.initRegion r else s) s
          .next ((s.wr K.dramDramState 2).almanac 21 0x1001 1)
        else .next s
      else .next s
    else if x.tries < 3 then .next (s.setDchan c.val { x with tries := x.tries + 1 })
    else
      let s := (s.setDchan c.val { x with tries := 4 }).wr K.dramTrainStep x.step
      .next ((s.failDram c.val).almanac 21 0x1002 5 [(1, c.val), (1, x.step)])
  else .next s

/-- REGION_INIT_DONE: the background initialisation of a region ends. R391. -/
def execRegionInitDone (r : Fin 8) (s : State) : Host.Outcome State Fault Refusal :=
  .next (if s.rd K.dramDramState = 2 ∧ s.rd (K.drgSize r.val) ≠ 0 ∧ s.rd (K.drgState r.val) = 0 then s.initRegion r.val else s)

/-- PERIODIC_CAL: ZQ calibration and a DQ delay adjustment of a channel. R379. -/
def execPeriodicCal (c : Fin 2) (s : State) : Host.Outcome State Fault Refusal :=
  let x := s.dchan c.val
  .next (if s.rd (K.dchChannelState c.val) = 1 then s.setDchan c.val { x with cals := x.cals + 1 } else s)

/-- DRAM_REQUEST: a request of part of one line; what it names beyond the line's end is cut. It completes at once when a check
refuses it; else it enters its queue; or it waits in its crossing, for its queue or behind another that waits. R18, R380, R383, R391,
R394. -/
def execDramRequest (requester : Fin 20) (addr : BitVec 36) (write : Bool) (data : List Byte) (size : Fin 65) (s : State) :
    Host.Outcome State Fault Refusal :=
  let a := addr.toNat
  let q : DramReq := ⟨requester.val, a / 64 * 64, write, if write then offsets (a % 64) (data.take (64 - a % 64)) else [], a % 64,
    min size.val (64 - a % 64), s.now, 0⟩
  let s := { s with dram := { s.dram with done := [] } }
  let s : State := if requester.val < 2 then { s with dram := { s.dram with fromOb := s.dram.fromOb ++ [q] } }
    else { s with dram := { s.dram with fromPl := s.dram.fromPl ++ [q] } }
  .next s.admitCrossings

/-- DRAM_READ_COMPLETE: the read that R382 picks on a subchannel returns. In DRAIN mode writes go first. R381 to R385, R393. -/
def execDramReadComplete (c sub : Fin 2) (s : State) : Host.Outcome State Fault Refusal :=
  let x := s.dchan c.val
  let s := { s with dram := { s.dram with done := [] } }
  if s.issuing c.val sub.val ∧ !(x.drain && !(s.writeCands c.val sub.val).isEmpty) then
    match s.dramPick c.val (s.readCands c.val sub.val) with
    | none => .next s
    | some q =>
      let s := s.setDchan c.val { x with reads := s.leave q x.reads }
      let s := (s.openRowFor c.val q).noteIssued c.val q
      let r := s.dramCheck q.requester q.line
      let s := if r.1 = drOk then r.2.dramDone q drOk (slice (overlay (r.2.lineBytes q.line) q.bytes) q.off q.size)
        else r.2.dramDone q r.1
      .next s.admitCrossings
  else .next s

/-- DRAM_WRITE_DRAIN: the write that R382 picks on a subchannel is issued: in READ mode only while no read of the subchannel can
issue. R381, R384, R392. -/
def execDramWriteDrain (c sub : Fin 2) (s : State) : Host.Outcome State Fault Refusal :=
  let x := s.dchan c.val
  let s := { s with dram := { s.dram with done := [] } }
  if s.issuing c.val sub.val ∧ (x.drain ∨ (s.readCands c.val sub.val).isEmpty) then
    match s.dramPick c.val (s.writeCands c.val sub.val) with
    | none => .next s
    | some q =>
      let left := s.leave q x.writes
      let old := left.any fun w => decide (w.at_ + s.rd (K.dchWriteMaxAge c.val) < s.now)
      let s := s.setDchan c.val { x with
        writes := left, drain := x.drain && !(decide (left.length ≤ s.rd (K.dchWriteLow c.val)) && !old) }
      let s := (s.openRowFor c.val q).noteIssued c.val q
      let r := s.dramPut q.requester q.line q.bytes
      .next (r.2.dramDone q r.1).admitCrossings
  else .next s

/-- WRITE_MAX_AGE_REACHED: the oldest write has waited WriteMaxAge and the channel enters DRAIN. R381. -/
def execWriteMaxAgeReached (c : Fin 2) (s : State) : Host.Outcome State Fault Refusal :=
  let x := s.dchan c.val
  match x.writes with
  | w :: _ =>
    if !x.drain ∧ w.at_ + s.rd (K.dchWriteMaxAge c.val) ≤ s.now then
      .next ((s.setDchan c.val { x with drain := true }).bump (K.ctrDchDrains c.val))
    else .next s
  | [] => .next s

/-- DDR_ALERT: ALERT_n is sampled low: the channel stops issuing, or fails when the alert interrupts a retry sequence or is the
(RetryLimit + 1)th within 1 ms. A sequence ends within 2 µs of its sample; when before that is timing, a free value (log entry 67).
R386, R387. -/
def execDdrAlert (c : Fin 2) (s : State) : Host.Outcome State Fault Refusal :=
  let x := s.dchan c.val
  if s.rd (K.dchChannelState c.val) = 1 ∧ !x.alert then
    let recent := s.now :: x.alerts.filter fun t => decide (s.now < t + 10 ^ 6)
    let s : State := { s.setDchan c.val { x with alert := true, alerts := recent } with dram.done := [] }
    let within : Bool := match x.highAt with
      | some t => decide (t = s.now) || (decide (s.now < x.alerts.headD 0 + 2000) && decide (s.free 2 = 1))
      | none => false
    let s := s.tick
    if within ∨ s.rd (K.dchRetryLimit c.val) < recent.length then
      .next (((s.failDram c.val).almanac 21 0x1004 5 [(1, c.val)]).reportFault 5 c.val)
    else .next s
  else .next s

/-- Every bank of a channel precharged. -/
def State.precharge (s : State) (p : Nat → Bool) : State :=
  let close (k : Nat) (b : DramBank) : DramBank := if p k then { b with openRow := none } else b
  { s with dram := { s.dram with banks := tmap DramBank.zero close s.dram.banks } }

/-- A reissued command opens its row again. R386. -/
def State.reissue (s : State) (c : Nat) (q : DramReq) : State :=
  let pl := s.dramPlace q.line
  let k := bankKey c (dramSub q.line) pl.1 pl.2.1
  s.setDbank k { s.dbank k with openRow := some pl.2.2 }

/-- ALERT_N_HIGH: the banks are precharged, the commands issued within RetryWindow before the alert are reissued in order, and
issue resumes; each request has had its one reply. R386. -/
def execAlertNHigh (c : Fin 2) (s : State) : Host.Outcome State Fault Refusal :=
  let x := s.dchan c.val
  if x.alert then
    let s := s.precharge fun k => decide (k / 128 = c.val)
    let from_ := x.alerts.headD s.now - s.retryWindowNs
    let again := (x.retryA ++ x.retryB).reverse.filter fun q => decide (from_ ≤ q.at_)
    let s := again.foldl (fun s q => s.reissue c.val q) s
    .next (((s.setDchan c.val { x with alert := false, highAt := some s.now }).bump (K.ctrDchParityRetries c.val)).almanacFirst
      21 0x1003 3 c.val [(1, c.val)])
  else .next s

/-- REFRESH_DUE: a rank of a subchannel is refreshed, postponed refreshes with it, or the refresh is postponed, at most 4 times,
while a DRAIN runs or reads are queued, as the controller likes. Same-bank mode closes one bank of each group, whichever is next (log entry 5). R390. -/
def execRefreshDue (c sub rank : Fin 2) (s : State) : Host.Outcome State Fault Refusal :=
  let x := s.dchan c.val
  let rk := rankKey c.val sub.val rank.val
  let r := s.drank rk
  if s.rd (K.dchChannelState c.val) ≠ 1 ∨ s.rd K.dramRanks ≤ rank.val then .next s
  else if (x.drain ∨ !x.reads.isEmpty) ∧ r.postponed < 4 ∧ s.free 2 = 1 then
    .next ((s.tick.setDrank rk { r with postponed := r.postponed + 1 }).bump (K.ctrDchPostponedRefreshes c.val))
  else
    let s := s.tick.setDrank rk ⟨false, 0, s.now⟩
    if s.rd (K.dchRefreshMode c.val) = 0 then .next (s.precharge fun k => decide (k / 32 = rk))
    else
      let b := s.free 4
      .next (s.tick.precharge fun k => decide (k / 32 = rk) && decide (k % 4 = b))

/-- REFRESH_WINDOW_END: a bank's activate counts clear and its throttling ends. R388, R389. -/
def execRefreshWindowEnd (c sub rank : Fin 2) (b : Fin 32) (s : State) : Host.Outcome State Fault Refusal :=
  let k := bankKey c.val sub.val rank.val b.val
  .next (s.setDbank k { s.dbank k with counts := [], throttled := [], told := false })

/-- POWER_DOWN_IDLE: a rank no queue has held a request for over PowerDownIdle DRAM clocks closes its rows and enters precharge power-down; a request of the same
cycle wins. R390. -/
def execPowerDownIdle (c sub rank : Fin 2) (s : State) : Host.Outcome State Fault Refusal :=
  let x := s.dchan c.val
  let rk := rankKey c.val sub.val rank.val
  let busy := (x.reads ++ x.writes).any fun q => decide (dramSub q.line = sub.val) && decide ((s.dramPlace q.line).1 = rank.val)
  let idle := decide ((s.drank rk).busyAt + s.clocksNs (s.rd (K.dchPowerDownIdle c.val)) < s.now + 8)
  if s.rd (K.dchChannelState c.val) = 1 ∧ rank.val < s.rd K.dramRanks ∧ !busy ∧ idle ∧ !(s.drank rk).down ∧ !x.alert then
    let s := (s.precharge fun k => decide (k / 32 = rk)).bump (K.ctrDchPowerDownEntries c.val)
    .next (s.setDrank rk { s.drank rk with down := true })
  else .next s

/-- PATROL_SCRUB of one line of a configured region. R385. -/
def execPatrolScrub (addr : BitVec 36) (s : State) : Host.Outcome State Fault Refusal :=
  let line := addr.toNat / 64 * 64
  .next (if (s.dramRefusal line).isSome then s
    else if line ∈ s.dram.badEcc then s.dramEcc 20 line
    else if line ∈ s.dram.fixEcc then s.dramFix line
    else s)

/-- DRAM_LINE_WRITE: the Pilot replaces a whole line through the domain; a shorter or longer image is refused. R384, R471. -/
def execDramLineWrite (line : BitVec 30) (image : List Byte) (s : State) : Host.Outcome State Fault Refusal :=
  .next (if image.length = 64 then
      let r := s.dramWriteLine 18 (64 * line.toNat) image
      r.2.status r.1
    else s.status opRefused)

/-- DRAM_TIMING_WRITE: parameter 0 to 25, in the order of R377, of speed bin 0 to 2; record 32 × bin + parameter. R377, R471. -/
def execDramTimingWrite (rec_ : Fin 96) (v : BitVec 32) (s : State) : Host.Outcome State Fault Refusal :=
  .next (if rec_.val % 32 < 26 then
      (({ s with dram := { s.dram with timing := tset 0 s.dram.timing rec_.val v.toNat } } : State).bump K.cmtStagedWrites).status 0
    else s.status opRefused)

end Sys2Proof.Machine
end

