-- ==== Sys2Proof/Machine/Dma.lean ====
section
/-! DEFINITION. The DMA Engine (17_dma.md, R399 to R409): doorbells and their checks, the start queue, the mover, completion
records and the ring. A transfer moves its bytes in one step, at TRANSFER_COMPLETE. -/

namespace Sys2Proof.Machine

/-! ### Descriptor and operands (R401, R402) -/

def dmOk : Nat := 0
def dmBadDescriptor : Nat := 1
def dmOutOfRange : Nat := 2
def dmBusy : Nat := 3
def dmOverlap : Nat := 4
def dmEcc : Nat := 5
def dmGone : Nat := 12
def dmAborted : Nat := 13
def dmNoRight : Nat := 14

def dmaSrc (d : BitVec 256) : Nat := bits d.toNat 255 192
def dmaDst (d : BitVec 256) : Nat := bits d.toNat 191 128
def dmaLen (d : BitVec 256) : Nat := bits d.toNat 127 104
def dmaTag (d : BitVec 256) : Nat := bits d.toNat 103 72
def dmaEvent (d : BitVec 256) : Nat := bits d.toNat 71 62
def dmaEventOn (d : BitVec 256) : Bool := d.getLsbD 61
def dmaNotify (d : BitVec 256) : Bool := d.getLsbD 60

def opSpace (a : Nat) : Nat := bits a 63 60
def opLoc (a : Nat) : Nat := bits a 39 0

/-- A descriptor breaks R401, or names an Orchard destination (R402). -/
def badDescriptor (d : BitVec 256) : Bool :=
  let bad (a : Nat) : Bool := decide (4 < opSpace a) || decide (bits a 59 40 ≠ 0)
  decide (bits d.toNat 59 0 ≠ 0) || decide (dmaLen d = 0) || bad (dmaSrc d) || bad (dmaDst d) || decide (opSpace (dmaDst d) = 4)

/-- A range of `n` bytes lies wholly within its space. R402. -/
def State.inSpace (s : State) (a n : Nat) : Bool :=
  let l := opLoc a
  match opSpace a with
  | 0 => decide (l + n ≤ 2 ^ 36)
  | 1 => decide (l + n ≤ 2 ^ 22)
  | 2 => decide (l < 2 ^ 22) && decide (l % 2 ^ 18 + n ≤ 2 ^ 18)
  | 3 => decide (l < 2 ^ 22) && decide (l % 2 ^ 16 + n ≤ 0xF800)
    && !(s.lockstep (l / 65536) && decide (l / 65536 % 2 = 1))
  | _ => decide (l < 2 ^ 38) && decide (l / 2 ^ 24 + n ≤ 37 * 256)

/-- Source and destination share a byte of one memory. R402. -/
def overlaps (a b n : Nat) : Bool :=
  decide (opSpace a = opSpace b) && decide (opLoc a < opLoc b + n) && decide (opLoc b < opLoc a + n)

/-! ### Records and the ring (R405, R406) -/

/-- A completion record. R405. -/
def dmaRecord (r : DmaRecord) (phase : Bool) (endTime : Nat) : Nat :=
  dmaTag r.xfer.desc * 2 ^ 224 + r.bytes * 2 ^ 200 + r.status * 2 ^ 192 + r.ch * 2 ^ 188 + b2n phase * 2 ^ 187
    + r.xfer.origin * 2 ^ 184 + r.xfer.requester.toNat * 2 ^ 152 + r.xfer.start * 2 ^ 64 + endTime

/-- Bytes written to a location of spaces 0 to 3; the DRAM status. -/
def State.dmaPut (s : State) (ch a : Nat) (bs : List Byte) : Nat × State :=
  let l := opLoc a
  match opSpace a with
  | 0 => s.dramWriteLine (2 + ch) l bs
  | 1 => (0, s.storeClean .pilot l bs)
  | 2 => (0, s.storeClean .shared l bs)
  | _ => (0, s.storeClean .coreData l bs)

def State.setXfer (s : State) (ch : Nat) (x : Option DmaXfer) : State :=
  { s with dma := { s.dma with chans := tset none s.dma.chans ch x } }

/-- The ring has no room. R406. -/
def State.ringFull (s : State) : Bool := decide ((s.rd K.dmaCqHead + 1) % s.rd K.dmaCqEntries = s.rd K.dmaCqTail)

/-- A record written at CqHead, then the event bit and the RP2 reply; the channel of a transfer becomes IDLE. R405. -/
def State.writeRecord (s : State) (r : DmaRecord) : State :=
  let h := s.rd K.dmaCqHead
  let image := toLE 32 (dmaRecord r s.dma.phase (s.domainNs 0 % 2 ^ 64))
  let s := (s.dmaPut r.ch (s.rd K.dmaCqBase + 32 * h) image).2
  let next := (h + 1) % s.rd K.dmaCqEntries
  let s := s.wr K.dmaCqHead next
  let s := { s with dma := { s.dma with
    phase := if next = 0 then !s.dma.phase else s.dma.phase
    running := if r.refused ∨ s.dma.running ≠ some r.ch then s.dma.running else none } }
  let s := if r.refused then s else s.setXfer r.ch none
  let s := if dmaEventOn r.xfer.desc then s.evSet (dmaEvent r.xfer.desc) else s
  match r.xfer.notify with
  | some (t, sec) => match s.rp t sec 2 with
    | .out (.dma c) _ _ => if c = r.ch then s.reply_ t sec 2 4 r.status wsArrived (BitVec.ofNat 32 r.bytes) else s
    | _ => s
  | none => s

/-- Held records written while the ring has room. R406. -/
def State.flushRecords : Nat → State → State
  | 0, s => s
  | n + 1, s => match s.dma.held with
    | [] => s
    | r :: rest =>
      if s.ringFull then s
      else
        flushRecords n (({ s with dma := { s.dma with held := rest, heldAt := s.now, told := false } } : State).writeRecord r)

/-- A record written, or held while the ring is full. R406. -/
def State.putRecord (s : State) (r : DmaRecord) : State :=
  if s.ringFull ∨ !s.dma.held.isEmpty then
    { s with dma := { s.dma with
      held := s.dma.held ++ [r], heldAt := if s.dma.held.isEmpty then s.now else s.dma.heldAt } }
  else s.writeRecord r

/-! ### Doorbells (R399, R400) -/

/-- The status a doorbell's checks give; statuses in the order of their numbers. R400 to R402, R404. -/
def State.doorbellStatus (s : State) (ch : Nat) (d : BitVec 256) (right : Bool) : Nat :=
  if badDescriptor d then dmBadDescriptor
  else if !s.inSpace (dmaSrc d) (dmaLen d) || !s.inSpace (dmaDst d) (dmaLen d) then dmOutOfRange
  else if (tget none s.dma.chans ch).isSome then dmBusy
  else if overlaps (dmaSrc d) (dmaDst d) (dmaLen d) then dmOverlap
  else if !right then dmNoRight
  else dmOk

/-- A doorbell is sampled. While CqEnable is 0 it is refused without a record; the status its Almanac record then holds is open
(log entry 5) unless a check gives one. R399, R400, R406. -/
def State.doorbell (s : State) (ch : Nat) (x : DmaXfer) (right : Bool) : State :=
  let st := s.doorbellStatus ch x.desc right
  let x := { x with start := s.domainNs 0 % 2 ^ 64 }
  if st = dmOk ∧ s.on K.dmaCqEnable then
    let s := s.setXfer ch (some x)
    { s with dma := { s.dma with queue := s.dma.queue ++ [ch] } }
  else
    let shown := if st = dmOk then s.free 256 else st
    let s := if st = dmOk then s.tick else s
    let s := (s.bump K.ctrDmaDoorbellsRefused).almanacFirst 23 0x1101 3 0 [(1, ch), (1, x.origin), (1, shown)]
    if s.on K.dmaCqEnable then s.putRecord ⟨ch, x, st, 0, true⟩ else s

/-! ### The mover (R402 to R404) -/

/-- Bytes read from a location; a DMA status. A correctable error of a shared RAM counts for its cluster's lowest core (log entry 68). R177, R304, R402. -/
def State.dmaGet (s : State) (ch a n : Nat) : Nat × List Byte × State :=
  let l := opLoc a
  let ram (sp : Space) (t memory size : Nat) : Nat × List Byte × State :=
    if (s.badIn (memKey sp l) n).isSome then (dmEcc, [], s)
    else (dmOk, s.loadBytes sp l n, s.correct t memory (memKey sp l) n fun k => (k - memKey sp 0) % size / 4)
  match opSpace a with
  | 0 =>
    let r := s.dramReadLine (2 + ch) l n
    (if r.1 = drOk then dmOk else r.1 + 4, r.2)
  | 1 => ram .pilot 576 6 (2 ^ 22)
  | 2 => ram .shared (32 * (l / 2 ^ 18)) 5 (2 ^ 18)
  | 3 => ram .coreData (8 * (l / 2 ^ 16)) 3 (2 ^ 16)
  | _ =>
    let off := l / 2 ^ 24
    let s := s.readLinks (l % 2 ^ 24) ownDma
    let c := (s.chain (l % 2 ^ 24)).getD (off / 256) noCell
    let s := s.fixCells [c]
    if c = noCell then (dmEcc, [], s)
    else if c ∈ s.orch.badData then (dmEcc, [], s.cellEcc c)
    else if c < 0x200000 then (dmOk, s.loadBytes .cell (256 * c + off % 256) n, s)
    else
      let r := s.dramReadLine 1 ((s.cellKey c).2 + off % 256) n
      (if r.1 = drOk then dmOk else r.1 + 4, r.2)

/-- The source operand `n` bytes on. -/
def advance (a n : Nat) : Nat := if opSpace a = 4 then a + n * 2 ^ 24 else a + n

/-- Bytes to the next 64-byte boundary of an operand. -/
def toLine (a : Nat) : Nat := 64 - (if opSpace a = 4 then opLoc a / 2 ^ 24 else opLoc a) % 64

/-- The bytes moved, line by line, until the end or the first error: status, bytes done, the address it failed at. R404. -/
def State.move (s : State) (ch : Nat) : Nat → Nat → Nat → Nat → Nat → Nat × Nat × Nat × State
  | 0, _, _, _, don => (dmOk, don, 0, s)
  | f + 1, src, dst, left, don =>
    if left = 0 then (dmOk, don, 0, s)
    else
      let n := min left (min (toLine src) (toLine dst))
      let r := s.dmaGet ch src n
      if r.1 ≠ dmOk then (r.1, don, opLoc src, r.2.2)
      else
        let w := r.2.2.dmaPut ch dst r.2.1
        if w.1 ≠ 0 then (w.1 + 4, don, opLoc dst, w.2)
        else w.2.move ch f (advance src n) (advance dst n) (left - n) (don + n)

/-- The bytes an aborted transfer has written: up to one of its 64-byte destination boundaries, whichever it had reached (log
entry 5). R404. -/
def State.abortedBytes (s : State) (dst len : Nat) : Nat :=
  let k := s.free (cdiv len 64 + 1)
  min len (if k = 0 then 0 else toLine dst + 64 * (k - 1))

/-- A transfer that the mover or an abort ends: counters and its record. R404, R405, R408. -/
def State.endTransfer (s : State) (ch : Nat) (x : DmaXfer) (status done addr : Nat) (ran : Bool) : State :=
  let s := (s.bump K.ctrDmaBytesMoved done).when ran (·.bump K.ctrDmaTransfers)
  let s := if status = dmAborted then s.bump K.ctrDmaAborts
    else if status ≠ dmOk then s.bump K.ctrDmaTransferErrors else s
  let s := s.when (decide (status = 5 ∨ status = 6)) (·.almanac 23 0x1102 4 [(1, ch), (8, addr)])
  s.putRecord ⟨ch, x, status, done, false⟩

/-! ### The commands -/

/-- DMA_PILOT_DOORBELL. R399. -/
def execDmaPilotDoorbell (ch : Fin 16) (d : BitVec 256) (pair : Fin 2) (s : State) : Host.Outcome State Fault Refusal :=
  .next ((s.doorbell ch.val ⟨d, 2, BitVec.ofNat 32 pair.val, none, 0, false⟩ true).status 0)

/-- DMA_ABORT: a QUEUED transfer is removed; a RUNNING one stops at its next destination boundary. R404. -/
def execDmaAbort (ch : Fin 16) (s : State) : Host.Outcome State Fault Refusal :=
  match tget none s.dma.chans ch.val with
  | none => .next (s.status 0)
  | some x =>
    if s.dma.running = some ch.val then .next ((s.setXfer ch.val (some { x with abort := true })).status 0)
    else if ch.val ∈ s.dma.queue then
      let s := { s with dma := { s.dma with queue := s.dma.queue.filter (· ≠ ch.val) } }
      .next ((s.endTransfer ch.val x dmAborted 0 0 false).status 0)
    else .next (s.status 0)

/-- TRANSFER_START: the idle mover takes the channel at the head of the start queue; an Orchard source gets owner bit 10. R400,
R403, R406. -/
def execTransferStart (s : State) : Host.Outcome State Fault Refusal :=
  match s.dma.queue with
  | ch :: r =>
    if s.dma.running.isSome ∨ !s.dma.held.isEmpty then .next s
    else
      let s := { s with dma := { s.dma with queue := r, running := some ch } }
      match tget none s.dma.chans ch with
      | none => .next s
      | some x =>
        let s := s.setXfer ch (some { x with start := s.domainNs 0 % 2 ^ 64 })
        let h := opLoc (dmaSrc x.desc) % 2 ^ 24
        let c := s.cell h
        .next (if opSpace (dmaSrc x.desc) = 4 ∧ s.isBufferCell h ∧ c.allocated ∧ c.head ∧ !c.quarantined then
            s.setOwners h (c.owners ||| (1#16 <<< ownDma)) else s)
  | [] => .next s

/-- TRANSFER_COMPLETE: the running transfer's bytes are moved and it ends. R403 to R405. -/
def execTransferComplete (s : State) : Host.Outcome State Fault Refusal :=
  match s.dma.running with
  | none => .next s
  | some ch => match tget none s.dma.chans ch with
    | none => .next s
    | some x =>
      if s.dma.held.any fun r => decide (r.ch = ch) && !r.refused then .next s
      else
        let d := x.desc
        let src := dmaSrc d
        let h := opLoc src % 2 ^ 24
        let orchard := decide (opSpace src = 4)
        let own := orchard && s.isBufferCell h && (s.cell h).allocated && (s.cell h).owners.getLsbD ownDma
        let n := if x.abort then s.abortedBytes (dmaDst d) (dmaLen d) else dmaLen d
        let s := if x.abort then s.tick else s
        let r : Nat × Nat × Nat × State :=
          if orchard ∧ !own then (dmGone, 0, 0, s)
          else if orchard ∧ 256 * (s.cell h).count < opLoc src / 2 ^ 24 + dmaLen d then (dmOutOfRange, 0, 0, s)
          else s.move ch (n + 1) src (dmaDst d) n 0
        let s := if own then r.2.2.2.release h ownDma else r.2.2.2
        .next (s.endTransfer ch x (if r.1 = dmOk ∧ x.abort then dmAborted else r.1) r.2.1 r.2.2.1 true)

/-- CQ_TAIL_WRITE: slots are freed and held records written. A tail outside the ring is refused. R406. -/
def execCqTailWrite (v : BitVec 16) (s : State) : Host.Outcome State Fault Refusal :=
  .next (if s.rd K.dmaCqEntries ≤ v.toNat then s.aborted Abort.valueRange
    else
      let s := s.wr K.dmaCqTail v.toNat
      (State.flushRecords s.dma.held.length s).aborted Abort.ok)

/-- CQ_FULL_TIMEOUT: a record has been held for 1 ms. R406. -/
def execCqFullTimeout (s : State) : Host.Outcome State Fault Refusal :=
  .next (if !s.dma.held.isEmpty ∧ !s.dma.told ∧ s.dma.heldAt + 10 ^ 6 ≤ s.now then
      ({ s with dma := { s.dma with told := true } } : State).almanac 23 0x1103 4 else s)

end Sys2Proof.Machine
end

