-- ==== Sys2Proof/Machine/Oru.lean ====
section
/-! DEFINITION. The Ordered Release Unit (07_ordering_replay.md, R149 to R175): tickets, commit posts, release, the window copies
around a packet's run (R75, R162, R180), faults and replay. -/

namespace Sys2Proof.Machine

/-! ### Tickets (R149, R150, R128) -/

/-- TICKET_ISSUE: the oldest descriptor in the crossing from PC, when it is port p's, gets its ticket and a journal entry, whichever is
free (log entry 5), and its PACKET item is enqueued, or it ends as a drop when its level is full. With no free entry it waits. R18, R21,
R128, R149, R150, R305. -/
def execTicketIssue (p : Fin 8) (s : State) : Host.Outcome State Fault Refusal :=
  match s.pc.toDx with
  | [] => .next s
  | d :: rest =>
    if 4096 ≤ s.oru.journal.length ∨ d.ingressPort.toNat ≠ p.val then .next s
    else match s.findJournal (s.oru.journal.length + 1) (s.free 4096) with
      | none => .next s
      | some j =>
        let s := s.tick
        let dom := d.orderDomain.toNat
        let tk := tget 0 s.oru.next dom
        let d := { d with ticket := BitVec.ofNat 16 tk }
        let s := { s with pc := { s.pc with toDx := rest },
                          oru := { s.oru with next := tset 0 s.oru.next dom ((tk + 1) % 65536) } }
        let s := s.setOwners d.firstCell.toNat (1#16 <<< ownOru)
        let s := ((s.bump K.ctrOruTicketsIssued).journey d jpIngress p.val 0xFFFF d.ingressTs.toNat)
        let lvl := d.level.toNat
        if s.levelFull lvl then
          let s := (s.setJentry j { JEntry.zero with st := .ended, desc := d, endKind := 2 }).journalGauge
          let s := (s.bump K.ctrDispQueueFullDrop).bump (K.ctrLvlQueueFullDrop lvl)
          .next ((s.almanacFirst 17 0x0601 3 lvl [(1, lvl)]).noteReady j)
        else
          let s := (s.setJentry j { JEntry.zero with st := .queued, desc := d }).journalGauge
          .next (s.enqueue ⟨.packet, lvl, s.flowAffinity d.flowClass.toNat, 0#32, j, 0, 0⟩)

/-! ### Commit posts (R154, R155) -/

def cpOk : Nat := 0
def cpListFull : Nat := 1
def cpPayloadFull : Nat := 2
def cpBadAction : Nat := 3
def cpNoPacket : Nat := 4

/-- Bits `hi` to `lo` set. -/
def span (hi lo : Nat) : Nat := (2 ^ (hi + 1 - lo) - 1) * 2 ^ lo

/-- The bits of an action slot that an opcode names. R155. -/
def namedBits (op : Nat) : Nat :=
  span 127 120 + (match op with
    | 1 | 2 => span 108 96 + span 63 0
    | 3 => span 105 88 + span 63 0
    | 4 => span 105 96 + span 15 0
    | 5 => span 107 96
    | 6 => span 105 96
    | 7 => span 99 96 + span 91 88
    | 8 | 9 => span 97 96 + span 91 87
    | 10 => span 103 96
    | _ => span 98 96 + span 63 0)

def actOp (a : BitVec 128) : Nat := bits a.toNat 127 120

/-- Payload units an action's operand takes. R155. -/
def actUnits (a : BitVec 128) : Nat :=
  match actOp a with
  | 3 => if 2 < bits a.toNat 95 92 then 2 else 0
  | 7 => 2
  | 8 | 9 => if a.getLsbD 87 then 4 else 2
  | _ => 0

/-- An action that gets BAD_ACTION, given the actions before it and the payload units that came with it. R154, R155, R246. -/
def badAction (before : List (BitVec 128)) (a : BitVec 128) (units : Nat) : Bool :=
  let n := a.toNat
  let op := actOp a
  decide (op = 0) || decide (11 < op) || decide (n &&& namedBits op ≠ n)
    || ((decide (op = 3) || decide (op = 7) || decide (op = 8) || decide (op = 9)) && decide (bits n 91 88 ≠ 0))
    || (decide (op = 3) && (decide (bits n 95 92 = 0) || decide (8 < bits n 95 92)))
    || (decide (op = 4) && decide (bits n 15 0 = 0))
    || ((decide (op = 8) || decide (op = 9)) && decide (bits n 97 96 = 0))
    || (decide (op = 11) && before.any fun b => decide (actOp b = 11))
    || decide (units ≠ actUnits a)

/-- The status of a post and the entry after it. R154. -/
def JEntry.post (e : JEntry) (a : BitVec 128) (payload : List Byte) : Nat × JEntry :=
  let units := payload.length / 16
  let used := e.payload.length / 16
  if badAction e.actions a units then (cpBadAction, e)
  else if 16 ≤ e.actions.length then (cpListFull, e)
  else if 12 < used + units then (cpPayloadFull, e)
  else
    let a := if units = 0 then a else a ||| BitVec.ofNat 128 (used * 2 ^ 88)
    (cpOk, { e with actions := e.actions ++ [a], payload := e.payload ++ payload })

/-- COMMIT_POST: a post of the thread stands at the head of its crossing. R18, R154. -/
def execCommitPost (t : Fin 512) (s : State) : Host.Outcome State Fault Refusal :=
  match s.headDx t.val with
  | some (.post j second rp slot payload) => .next (s.popDx t.val fun s =>
    let r : Nat × State := match j with
      | none => (cpNoPacket, s)
      | some j =>
        let e := s.jentry j
        if e.st = .running ∧ e.thread = t.val then
          let r := e.post slot payload
          (r.1, s.setJentry j r.2)
        else (cpNoPacket, s)
    let s := if r.1 = cpOk then r.2 else r.2.bump K.ctrOruPostRefused
    match s.rp t.val second rp with
      | .out .post _ _ => s.reply_ t.val second rp 3 r.1 wsArrived 0#32
      | _ => s)
  | _ => .next s

/-! ### The end of a packet's run (R153, R159, R162) -/

/-- A lock a LOCKREL of the list names. R159. -/
def lockNamed (e : JEntry) (l : Nat) : Bool :=
  e.actions.any fun a => decide (actOp a = 5) && decide (bits a.toNat 107 96 = l)

/-- PACKET_END_SAMPLED: the entry becomes ENDED; each lock its thread holds goes to the journal when a LOCKREL names it, else it is
released. A packet that found no window cell becomes FAILED now. R18, R153, R159, R162. -/
def execPacketEndSampled (t : Fin 512) (s : State) : Host.Outcome State Fault Refusal :=
  match s.headDx t.val with
  | some (.finish j kind arg) => .next (s.popDx t.val fun s =>
    let e := s.jentry j
    if e.thread ≠ t.val ∨ e.st ≠ .running then s
    else
      let s := (s.locksOf (.requester t.val false)).foldl (fun s l =>
        if lockNamed e l then s.setLock l { s.lock l with holder := some (.journal j) }
        else (s.freeLock l).bump K.ctrOruReleaseOnEnd) s
      let s := s.journeyNow e.desc jpEnd t.val
      let copying := match (s.thread t.val).st, (s.thread t.val).item with
        | .ending, some i => decide (i.journal = j)
        | _, _ => false
      let s := s.setJentry j { e with st := .ended, endKind := kind, endArg := arg, copying := copying }
      if e.noCell then s.failEntry j else s.noteReady j)
  | _ => .next s

/-- WINDOW_CELL_COPY_DONE: the window is in its cell and the thread becomes idle. R162, R179. -/
def execWindowCellCopyDone (t : Fin 512) (s : State) : Host.Outcome State Fault Refusal :=
  let x := s.thread t.val
  match x.st, x.item with
  | .ending, some i => .next ((s.finishWindow t.val i.journal).idleThread t.val)
  | _, _ => .next s

/-- WINDOW_COPY_DONE: the header window is complete and the thread READY. An uncorrectable error in an original cell is a fault on
a first run and loses the packet on a replay. R75, R171, R177, R180, R208. -/
def execWindowCopyDone (t : Fin 512) (s : State) : Host.Outcome State Fault Refusal :=
  let x := s.thread t.val
  match x.st, x.item with
  | .starting, some i =>
    let e := s.jentry i.journal
    let d := e.desc
    let w := min d.window d.frameLength.toNat
    let s := s.readLinks d.firstCell.toNat ownOru
    let cells := (s.chain d.firstCell.toNat).take (cdiv w 256)
    match cells.find? (· ∈ s.orch.badData) with
    | some c =>
      let s := s.cellEcc c
      if i.kind = .replay then
        let s := ((s.bump K.ctrOruOriginalCellLost).almanac 17 0x0704 5 [(2, d.ticket.toNat), (2, d.orderDomain.toNat)]).failEntry
          i.journal
        .next (s.idleThread t.val)
      else .next (s.eccFault t.val 1 (256 * c))
    | none =>
      .next ((s.fixCells cells).setThread t.val { x with
        st := .ready, window := slice (s.frameBytes d.firstCell.toNat w) 0 d.window, desc := some d })
  | _, _ => .next s

/-! ### Release (R156 to R161) -/

/-- An action that failed: counted, with a record for the first of an interval. R158. -/
def State.actionFail (s : State) (e : JEntry) (slot status : Nat) : State :=
  (s.bump K.ctrOruActionFail).almanacFirst 17 0x0703 4 0
    [(2, e.desc.ticket.toNat), (2, e.desc.orderDomain.toNat), (1, slot), (1, status)]

/-- The payload of an action. R155. -/
def JEntry.operand (e : JEntry) (a : BitVec 128) : List Byte := slice e.payload (16 * bits a.toNat 91 88) (16 * actUnits a)

/-- The words of a CHPOST. R155. -/
def JEntry.words (e : JEntry) (a : BitVec 128) : List Word :=
  let n := a.toNat
  let p := e.operand a
  ([BitVec.ofNat 32 n, BitVec.ofNat 32 (n / 2 ^ 32)] ++ (List.range 6).map fun i => BitVec.ofNat 32 (leAt p (4 * i) 4)).take
    (bits n 95 92)

/-- An image whose profile and key alone count, for DELETE: profile and key, or none when they make no entry. R102, R155. -/
def State.brDelImage (s : State) (bs : List Byte) : Option (Nat × Nat) :=
  let e := slotDecode (bs.take 32)
  let wide := s.brWide e.profile
  let key := e.key + (if wide then 2 ^ 160 * bits (ofLE (bs.drop 32)) 159 0 else 0)
  if e.profile = 6 ∨ e.profile = 7 ∨ e.half ≠ b2n wide ∨ bs.length ≠ 32 + 32 * b2n wide ∨ 2 ^ s.brWidth e.profile ≤ key then none
  else some (e.profile, key)

/-- A Bramble operation of a commit list: its status. The results of the table domain are left alone. R102, R155. -/
def State.commitBramble (s : State) (target : Nat) (f : State → Bool → Nat × State) : Nat × State :=
  let r := s.brBoth target fun s w => let x := f s w; (x.1, [], x.2)
  (r.opStatus, { r with opStatus := s.opStatus, reply := s.reply })

/-- DMASTART: the doorbell of the packet's core. R155, R404. -/
def State.applyDma (s : State) (e : JEntry) (a : BitVec 128) : State :=
  let who := e.desc.orderDomain.toNat * 65536 + e.desc.ticket.toNat
  let right := decide (bit (s.rd (K.rtRights (s.lower (e.thread / 8)))) 1 = 1)
  s.doorbell (bits a.toNat 99 96) ⟨BitVec.ofNat 256 (ofLE (e.operand a)), 1, BitVec.ofNat 32 who, none, 0, false⟩ right

/-- BRINS and BRDEL. R102, R155. -/
def State.applyBramble (s : State) (e : JEntry) (a : BitVec 128) (insert : Bool) : Nat × State :=
  let target := bits a.toNat 97 96
  if insert then
    match s.brImage (e.operand a) with
    | some (en, key) => s.commitBramble target fun s w => s.brOpInsert w en key
    | none => (5, s)
  else
    match s.brDelImage (e.operand a) with
    | some (p, key) => s.commitBramble target fun s w => s.brOpDelete w p key
    | none => (5, s)

/-- LOCKREL. R159. -/
def State.applyLockRel (s : State) (j l : Nat) : Nat × State :=
  if (s.lock l).holder = some (.journal j) then (0, s.freeLock l) else (rvNotHolder, s)

/-- CTRADD and ATOMSET. R155, R286. -/
def State.applyAtomic (s : State) (w : Nat) (f : BitVec 64 → BitVec 64) : Nat × State :=
  let r := s.atomicCommit w f
  (if r.1 then rvEccError else 0, r.2)

/-- One action applied in slot order: the status of a failure, 0 for none. The LAUNCH and SETSECY actions act on the handover.
R155, R157, R158. -/
def State.applyAction (s : State) (j : Nat) (e : JEntry) (a : BitVec 128) : Nat × State :=
  let n := a.toNat
  let op := actOp a
  if op = 1 then s.applyAtomic (bits n 108 96) fun v => v + BitVec.ofNat 64 n
  else if op = 2 then s.applyAtomic (bits n 108 96) fun _ => BitVec.ofNat 64 n
  else if op = 3 then
    match s.placeMsg (bits n 105 96) (e.words a) with
    | some s => (0, s)
    | none => (rvChFull, s)
  else if op = 4 then
    let r := s.semAdd (bits n 105 96) (bits n 15 0)
    (if r.1 then rvSemSaturated else 0, r.2)
  else if op = 5 then s.applyLockRel j (bits n 107 96)
  else if op = 6 then (0, s.evSet (bits n 105 96))
  else if op = 7 then (0, s.applyDma e a)
  else if op = 8 ∨ op = 9 then
    let r := s.applyBramble e a (decide (op = 8))
    (if r.1 ≤ 2 then 0 else r.1, r.2)
  else (0, s)

/-- An action whose target lies across a crossing: it takes effect after those on targets in DX. R157. -/
def actSent (a : BitVec 128) : Bool := decide (actOp a = 7) || decide (actOp a = 8) || decide (actOp a = 9)

/-- The actions of one kind, sent or in DX, applied in slot order from slot k. R157, R158. -/
def State.applyKind (s : State) (j : Nat) (e : JEntry) (sent : Bool) : Nat → List (BitVec 128) → State
  | _, [] => s
  | k, a :: r =>
    if actSent a = sent then
      let x := s.applyAction j e a
      let s := x.2.bump K.ctrOruActionsApplied
      (if x.1 = 0 then s else s.actionFail e k x.1).applyKind j e sent (k + 1) r
    else s.applyKind j e sent (k + 1) r

/-- The whole list applied. R157. -/
def State.applyList (s : State) (j : Nat) (e : JEntry) : State := (s.applyKind j e false 0 e.actions).applyKind j e true 0 e.actions

/-- The drop of a packet: its cells go back once no other owner is left. R161. -/
def State.dropPacket (s : State) (e : JEntry) : State :=
  ((s.release e.desc.firstCell.toNat ownOru).bump K.ctrOruReleasedDrop).journeyNow e.desc jpDrop 0xFFFF

/-- The packet's ports, class and stream queue from EndArg; a multicast packet is given stream queue 0 (log entry 29). R153,
R161. -/
def State.endPorts (s : State) (e : JEntry) : List Nat × Nat × Nat :=
  let a := e.endArg.toNat
  if e.endKind = 1 then ([bits a 15 13], bits a 12 10, bits a 9 4)
  else ((List.range 8).filter fun p => (tget 0#8 s.oru.mcast (bits a 9 0)).getLsbD p, bits a 15 13, 0)

/-- The handover of a PKTFWD or PKTMC packet, with its LAUNCH insertion. R160, R161, R305, R345. -/
def State.handOver (s : State) (e : JEntry) : State :=
  let r := s.endPorts e
  let h := e.desc.firstCell.toNat
  let secy := e.actions.foldl (fun y a => if actOp a = 10 then BitVec.ofNat 8 (bits a.toNat 103 96) else y) e.desc.egressSecY
  let d := { e.desc with egressSecY := secy }
  match r.1 with
  | [] => (s.bump K.ctrOruMcEmpty).dropPacket e
  | p :: _ =>
    let launch := (e.actions.find? fun a => decide (actOp a = 11)).map fun a => (bits a.toNat 98 96, bits a.toNat 63 0)
    let ins : Nat × State := match launch with
      | some (l, T) =>
        let r := s.delayInsert l (BitVec.ofNat 128 (T * 2 ^ 64 + 2 ^ 44 + p * 2 ^ 24 + h))
        (r.1, r.2.2)
      | none => (dlOk, s)
    if ins.1 ≠ dlOk ∧ ins.1 ≠ dlLate then (ins.2.bump K.ctrOruLaunchRefused).dropPacket e
    else
      let s := ins.2
      let mask := r.1.foldl (fun m p => m ||| (1#16 <<< p)) (s.cell h).owners
      let s := (s.setOwners h mask).release h ownOru
      let out : Handover := ⟨d, h, none, r.1.map fun p => (p, r.2.1, r.2.2), launch⟩
      let s := { s with tm := { s.tm with inbox := s.tm.inbox ++ [out] }, orch := { s.orch with order := s.orch.order ++ [h] } }
      (s.bump (if e.endKind = 1 then K.ctrOruReleased else K.ctrOruReleasedMc)).journeyNow e.desc jpRelease 0xFFFF

/-- An uncorrectable error of the journal entry at release: the packet is FAILED; eight such errors within 1 s are a fault of the
JOURNAL. R170, R504. -/
def State.journalError (s : State) (j : Nat) : State :=
  let e := s.jentry j
  let s := (s.bump K.ctrOruJournalEccError).almanac 17 0x0706 5 [(2, e.desc.ticket.toNat), (2, e.desc.orderDomain.toNat)]
  let recent := s.now :: s.oru.eccAt.filter fun t => decide (s.now < t + 10 ^ 9)
  let s := { s with oru := { s.oru with eccAt := recent } }
  (s.when (decide (8 ≤ recent.length)) (·.reportFault 8 0)).setJentry j { e with st := .failed, actions := [], payload := [] }

/-- The entry becomes FREE, HeadTicket rises, locks not released are abandoned, and the next packet of the domain is looked at.
R149, R156, R157, R280. -/
def State.endRelease (s : State) (j : Nat) : State :=
  let dom := (s.jentry j).desc.orderDomain.toNat
  let s := (s.abandonJournal j).setJentry j JEntry.zero
  let head := (s.headTicket dom + 1) % 65536
  let s := { s with oru := { s.oru with head := tset 0 s.oru.head dom head } }
  let s := s.journalGauge
  match s.oru.journal.find? fun kj =>
      decide (kj.2.desc.orderDomain.toNat = dom) && decide (kj.2.desc.ticket.toNat = head) with
  | some kj => s.noteReady kj.1
  | none => s

/-- PACKET_RELEASE: the release engine takes the packet that became releasable first. R156 to R161, R170. -/
def execPacketRelease (s : State) : Host.Outcome State Fault Refusal :=
  match s.oru.ready with
  | [] => .next s
  | j :: rest =>
    let s := { s with oru := { s.oru with ready := rest } }
    let s := if (s.jentry j).bad then s.journalError j else s
    let e := s.jentry j
    if e.st = .failed then .next ((s.dropPacket e).endRelease j)
    else
      let s := s.applyList j e
      let s := if e.endKind = 2 then
          let reason := bits e.endArg.toNat 7 0
          let s := if e.firstGrant.isSome then
              { s with oru := { s.oru with reasons := tmod 0 s.oru.reasons reason (· + 1) } } else s
          s.dropPacket e
        else s.handOver e
      .next (s.endRelease j)

/-! ### Faults and replay (R163 to R168) -/

/-- FAULT_REPORT: a fault report of the thread stands at the head of its crossing. R18, R164, R165, R168. -/
def execFaultReport (t : Fin 512) (s : State) : Host.Outcome State Fault Refusal :=
  match s.headDx t.val with
  | some (.fault j code) => .next (s.popDx t.val fun s =>
    let e := s.jentry j
    if e.st ≠ .running ∨ e.thread ≠ t.val then s
    else
      let e := { e with lastFault := code, actions := [], payload := [] }
      let d := e.desc
      let detail := [(2, d.ticket.toNat), (2, d.orderDomain.toNat), (2, t.val), (1, code)]
      if s.rd K.oruReplayLimit ≤ e.replayCount then
        let s := (s.setJentry j e).bump K.ctrOruReplayExhausted
        (s.almanac 17 0x0702 5 detail).failEntry j
      else
        let s := (s.setJentry j { e with st := .replay, replayCount := e.replayCount + 1, fence := true }).bump K.ctrOruReplays
        ((s.almanac 17 0x0701 3 detail).journeyNow d jpReplay t.val).reportFault 1 t.val)
  | _ => .next s

/-- DRAIN_FENCE_DONE: the REPLAY item is enqueued at the head of its level. R126, R165. -/
def execDrainFenceDone (j : Fin 4096) (s : State) : Host.Outcome State Fault Refusal :=
  let e := s.jentry j.val
  if e.st = .replay ∧ e.fence then
    let s := s.setJentry j.val { e with fence := false }
    .next (s.enqueue ⟨.replay, e.desc.level.toNat, s.flowAffinity e.desc.flowClass.toNat, 0#32, j.val, 0, 0⟩)
  else .next s

/-- MULTICAST_GROUP_WRITE: the mask is in bits 7 to 0 of the group's image; the others are reserved. R161, R471. -/
def execMulticastGroupWrite (g : Fin 1024) (image : BitVec 64) (s : State) : Host.Outcome State Fault Refusal :=
  .next (if 256 ≤ image.toNat then s.status opRefused
    else
      let mask := BitVec.ofNat 8 image.toNat
      (({ s with oru := { s.oru with mcast := tset 0#8 s.oru.mcast g.val mask } } : State).bump K.cmtStagedWrites).status 0)

end Sys2Proof.Machine
end

