-- ==== Sys2Proof/Machine/Operands.lean ====
section
/-! DEFINITION. Where a thread's loads, stores and bit instructions reach (09_wenkin_programming_model.md, R208 to R215; R357): the
data address maps, the access checks in their order, and the bit address space. -/

namespace Sys2Proof.Machine

/-! ### Data address space (R208 to R212, R357) -/

/-- Regions of the data address maps. -/
inductive Region_ where
  | ram | window | desc | shared | code | atomic | dict
deriving DecidableEq, Repr

/-- The region an address lies in, its first address and the first one beyond it. R208, R357. -/
def regionAtAddr (t a : Nat) : Option (Region_ × Nat × Nat) :=
  let common : Option (Region_ × Nat × Nat) :=
    if 0x20000000 ≤ a ∧ a < 0x20010000 then some (.atomic, 0x20000000, 0x20010000)
    else if 0x40000000 ≤ a ∧ a < 0x48000000 then some (.dict, 0x40000000, 0x48000000)
    else none
  if a < ramTop t then some (.ram, 0, ramTop t)
  else if t < 512 then
    if 0x10000 ≤ a ∧ a < 0x10100 then some (.window, 0x10000, 0x10100)
    else if 0x10100 ≤ a ∧ a < 0x10130 then some (.desc, 0x10100, 0x10130)
    else if 0x20000 ≤ a ∧ a < 0x60000 then some (.shared, 0x20000, 0x60000)
    else if 0x08000000 ≤ a ∧ a < 0x08040000 then some (.code, 0x08000000, 0x08040000)
    else common
  else if t < 576 then
    if 0x08000000 ≤ a ∧ a < 0x08010000 then some (.code, 0x08000000, 0x08010000) else common
  else common

/-- The DICT right: a Wenkin-P core always has it, a barrel thread never. R211, R228, R357. -/
def State.dictRight (s : State) (t : Nat) : Bool :=
  if t < 512 then decide (bit (s.rd (K.rtRights (s.lower (t / 8)))) 0 = 1) else isPilotThread t

/-- Bytes of the header window a thread may reach. R210. -/
def State.windowBytes (s : State) (t : Nat) : Nat :=
  let x := s.thread t
  match x.item with
  | some i => if i.isPacket then (match x.desc with
    | some d => d.window
    | none => 0) else 0
  | none => 0

/-- What an access of `n` bytes at `a` raises, or nothing: exception code and cause. Access faults come before misalignment (R209);
among the causes the order is this definition's (log entry 30). R208 to R212. -/
def State.accessFault (s : State) (t a n : Nat) (store : Bool) : Option (Nat × Nat) :=
  match regionAtAddr t a with
  | none => some (excAccess, causeUnmapped)
  | some (r, lo, hi) =>
    let w := s.windowBytes t
    if r = .code then some (excAccess, causeCode)
    else if r = .dict ∧ !s.dictRight t then some (excAccess, causeRights)
    else if hi < a + n then some (excAccess, causeUnmapped)
    else if (r = .dict ∧ n ≠ 8) ∨ (r = .atomic ∧ n < 4) then some (excAccess, causeSize)
    else if r = .desc ∧ store then some (excAccess, causeReadOnly)
    else if r = .desc ∧ w = 0 then some (excAccess, causeWindow)
    else if r = .window ∧ w < a - lo + n then some (excAccess, causeWindow)
    else if r ≠ .window ∧ r ≠ .desc ∧ a % n ≠ 0 then some (excMisaligned, 0)
    else none

/-- The descriptor's 48 bytes. R74, R208. -/
def Thread.descBytes (x : Thread) : List Byte := toLE 48 ((x.desc.map Desc.toNat).getD 0)

/-! ### Bit address space (R213 to R215) -/

/-- Regions of the bit address space: first address and the first one beyond. -/
def bitRegion (b : Nat) : Option (Nat × Nat × Nat) :=
  if b < 0x800 then some (0, 0, 0x800)
  else if b < 0x980 then some (1, 0x800, 0x980)
  else if 0x1000 ≤ b ∧ b < 0x1400 then some (2, 0x1000, 0x1400)
  else if 0x1400 ≤ b ∧ b < 0x1420 then some (3, 0x1400, 0x1420)
  else none

/-- TSW bits a bit write may reach. R213. -/
def tswWritable (i : Nat) : Bool := decide (i < 5) || decide (i = 21) || decide (i = 22)

/-- The cause a field access of width `w` raises, or nothing. A thread of another kind has no window and no descriptor. R210, R213
to R215, R241. -/
def State.bitFault (s : State) (t b w : Nat) (write : Bool) : Option Nat :=
  match bitRegion b with
  | none => some causeBitRegion
  | some (r, lo, hi) =>
    let n := s.windowBytes t
    if hi < b + w then some causeBitRegion
    else if r < 2 ∧ 512 ≤ t then some causeBitRegion
    else if r = 1 ∧ write then some causeReadOnly
    else if (r = 0 ∧ 8 * n < b + w) ∨ (r = 1 ∧ n = 0) then some causeWindow
    else if r = 3 ∧ write ∧ !((List.range w).all fun i => tswWritable (b - lo + i)) then some causeReservedBits
    else none

/-- The general registers as one number, w0 in bits 31 to 0. R213. -/
def Thread.regBits (x : Thread) : Nat :=
  (List.range 32).foldl (fun a i => a + (x.reg i).toNat * 2 ^ (32 * i)) 0

/-- A field read. In the window bit b is the most significant bit, elsewhere the least significant. R214. -/
def Thread.bitGet (x : Thread) (b w : Nat) : Word :=
  BitVec.ofNat 32 (match bitRegion b with
    | some (0, _, _) => bits (beAt x.window (b / 8) 5) (39 - b % 8) (40 - b % 8 - w)
    | some (1, _, _) => bits ((x.desc.map Desc.toNat).getD 0) (b - 0x800 + w - 1) (b - 0x800)
    | some (2, _, _) => bits x.regBits (b - 0x1000 + w - 1) (b - 0x1000)
    | some (3, _, _) => bits x.tsw.toNat (b - 0x1400 + w - 1) (b - 0x1400)
    | _ => 0)

/-- A number with the field of width `w` at bit `lo` replaced. -/
def putField (n lo w v : Nat) : Nat := n - bits n (lo + w - 1) lo * 2 ^ lo + v % 2 ^ w * 2 ^ lo

/-- A field written; a write into w0 is discarded. R213, R214, R241. -/
def Thread.bitPut (x : Thread) (b w : Nat) (v : Word) : Thread :=
  match bitRegion b with
  | some (0, _, _) =>
    let n := putField (beAt x.window (b / 8) 5) (40 - b % 8 - w) w v.toNat
    let l := (b + w - 1) / 8 + 1 - b / 8
    x.windowPut (b / 8) ((toBE 5 n).take l)
  | some (2, _, _) =>
    let n := putField x.regBits (b - 0x1000) w v.toNat
    (List.range 32).foldl (fun x i => x.setReg i (BitVec.ofNat 32 (n / 2 ^ (32 * i)))) x
  | some (3, _, _) => { x with tsw := BitVec.ofNat 32 (putField x.tsw.toNat (b - 0x1400) w v.toNat) }
  | _ => x

end Sys2Proof.Machine
end

