-- ==== Sys2Proof/Machine/Wenkin.lean ====
section
/-! DEFINITION. The issue and the outcome of a Wenkin instruction (08, 09, 10): what every instruction does before and after its own
operation. A command names the thread that issues the instruction at its PC, and the instruction's fields; it comes about when the
word in code memory there is that instruction's (log entry 31). -/

namespace Sys2Proof.Machine

/-- ILLEGAL_INSTRUCTION that a thread's state causes. R219. -/
def State.illegal (s : State) (t cause word : Nat) : State :=
  s.raise t excIllegal cause (BitVec.ofNat 32 word) (s.thread t).pc

/-- ACCESS_FAULT of the instruction at the PC. -/
def State.fault_ (s : State) (t code cause addr : Nat) : State :=
  s.raise t code cause (BitVec.ofNat 32 addr) (s.thread t).pc

/-! ### Issue (R180 to R185, R354) -/

/-- The thread waits in its state; the instruction at the PC has not retired. -/
def State.park (s : State) (t : Nat) (st : TState) : State := s.setThread t { s.thread t with st := st }

/-- Where the word at a thread's PC lies in code memory; a Wenkin-P core's code is not laid out by the manual. R226, R352. -/
def State.codeKey (s : State) (t : Nat) : Option Nat :=
  let pc := (s.thread t).pc
  if t < 512 then some (memKey .code (131072 * (2 * clusterOf t + (s.thread t).codeBank) + pc))
  else if t < 576 then some (memKey .barrelCode (65536 * ((t - 512) / 16) + pc))
  else none

/-- The word a thread issues: of packet and barrel threads the one in code memory at the PC, read with bits 7 to 0 at the lowest
address; of a Pilot core the commanded one. R226, R231, R352; log entry 31. -/
def State.fetchWord (s : State) (t w : Nat) : Nat :=
  match s.codeKey t with
  | some k => ofLE (mread s.mem k 4)
  | none => w

def State.turn (s : State) (c : Nat) : Turn := tget Turn.zero s.cores.turns c

/-- The owner of slot n of a core: a thread's number, or none for a dynamic slot. R181, R182, R354. -/
def State.slotOwner (s : State) (t n : Nat) : Option Nat :=
  if t < 512 then
    let k := bits (s.rd (K.thrSlotTable (s.lower (t / 8)))) (4 * n + 3) (4 * n)
    if k < 8 then some k else none
  else some n

/-- A barrel thread of mode STRICT, which never takes an idle slot. R354. -/
def State.strict (s : State) (t : Nat) : Bool :=
  decide (512 ≤ t) && decide (t < 576) && decide (s.barrelMode t = 1)

/-- The cycle in which a thread issues, and its counts: the cycles since the core's last issue in which no thread issued are idle,
and how many they are is timing, a free value, but that a STRICT thread issues in its own slot; an issue in another's or a dynamic
slot moves LastDynamic or LastElastic (log entry 32). R181, R182, R201, R354, R373. -/
def State.countIssue (s : State) (t : Nat) : State :=
  let c := s.turn (coreOf t)
  let gap := if s.strict t then (t % 16 + 16 - c.slot % 16) % 16 + 16 * s.free (2 ^ 12) else s.free (2 ^ 16)
  let n := (c.slot + gap) % 16
  let own := decide (s.slotOwner t n = some (lane t))
  let s := { s.tick with cores := { s.cores with
    turns := tset Turn.zero s.cores.turns (coreOf t) ⟨(n + 1) % 16, if own then c.lastDyn else lane t⟩ } }
  if t < 512 then (s.bump (K.ctrCoreIdleCycles (t / 8)) gap).bump (K.ctrCoreIssueCycles (t / 8))
  else if t < 576 then
    let p := (t - 512) / 16
    ((s.bump (K.ctrBiopIdleSlots p) gap).bump (K.ctrBiopIssueSlots p)).when (!own) (·.bump (K.ctrBiopElasticSlots p))
  else s

/-- Issue in a packet thread's cluster stands still while its operating point changes; a rise that waits for VDD_CORE lets it go
on at the old point. R16, R517. -/
def State.issueStopped (s : State) (t : Nat) : Bool :=
  let n := clusterOf t
  decide (t < 512) && decide (s.rd (K.cluOperatingPoint n) ≠ s.rd (K.cluOperatingPointActive n)) && !s.boot.avsWait.contains n

/-- A READY thread issues the instruction of word w, which stands at its PC; any other thread issues nothing, and nor does one whose word
is another instruction's. The fetch may lie beyond code; a reserved word traps; then comes an uncorrectable error of the fetch. `hold`
is the state a thread waits in without issuing. R177, R181, R188, R216, R219, R227. -/
def State.issueOr (s : State) (t w : Nat) (hold : State → Option TState) (body : State → State) :
    Host.Outcome State Fault Refusal :=
  let x := s.thread t
  .next (
    if x.st ≠ .ready ∨ s.issueStopped t then s
    else if codeTop t < x.pc then (s.countIssue t).fault_ t excAccess causeFetch x.pc
    else
      let v := s.fetchWord t w
      let base := memKey (if t < 512 then .code else .barrelCode) 0
      let at_ (k : Nat) : Nat := (k - base) % (if t < 512 then 262144 else 65536) / 4
      match reservedCause t v with
      | some cause => (s.countIssue t).raise t excIllegal cause (BitVec.ofNat 32 v) x.pc
      | none =>
        if v ≠ w then s
        else match hold s, (s.codeKey t).bind fun k => s.badIn k 4 with
          | some st, _ => s.park t st
          | none, some k => (s.countIssue t).eccFault t 4 (at_ k)
          | none, none => body (match s.codeKey t with
            | some k => (s.countIssue t).correct t 4 k 4 at_
            | none => s.countIssue t))

/-- The same of an instruction that no state of the thread's registers keeps from issuing. -/
def State.issue (s : State) (t w : Nat) (body : State → State) : Host.Outcome State Fault Refusal :=
  s.issueOr t w (fun _ => none) body

/-! ### The header window's errors (R177) -/

/-- The MemoryId that records of the header window buffer carry: R495 numbers none for it (log entry 48). -/
def windowId : Nat := 0

/-- The correctable errors of bytes of a window that are read: corrected and counted. R177. -/
def State.fixWindow (s : State) (t off n : Nat) : State :=
  let x := s.thread t
  let l := x.wfix.filter fun w => decide (4 * w < off + n) && decide (off < 4 * w + 4)
  (s.setThread t { x with wfix := x.wfix.filter fun w => decide (w ∉ l) }).countFixed t windowId l

/-- A thread reads bytes of its window: an uncorrectable error resets it, correctable ones are corrected. R177. -/
def State.readWindow (s : State) (t off n : Nat) (k : State → State) : State :=
  match (s.thread t).windowBad off n with
  | some w => s.eccFault t windowId w
  | none => k (s.fixWindow t off n)

/-- A thread writes its window; a word replaced in part is read first. R177. -/
def State.writeWindow (s : State) (t off n : Nat) (whole : Bool) (k : State → State) : State :=
  match (s.thread t).windowMerge off n whole with
  | some w => s.eccFault t windowId w
  | none => k s

/-! ### Outcomes -/

/-- The instruction retires and the thread goes on at the next one. -/
def State.done (s : State) (t : Nat) : State := s.retire t ((s.thread t).pc + 4)

/-- A register written, then retirement. -/
def State.writeReg (s : State) (t rd : Nat) (v : Word) : State := (s.setThread t ((s.thread t).setReg rd v)).done t

/-- A control transfer: the PC becomes the target unless a loop's body ends here; bodies left free their loop-buffer entries. A
target beyond code raises FETCH instead. R194, R219, R242 to R244. -/
def State.jump (s : State) (t target cause : Nat) : State :=
  if codeTop t < target then s.fault_ t excAccess causeFetch target
  else
    let pc := (s.thread t).pc
    let s := s.retire t target
    let x := s.thread t
    let s := if x.pc = target then s.traceFlow t pc target cause else s
    s.setThread t { s.thread t with loops := leaveBodies x.pc x.loops }

/-- A branch: taken or not. R242. -/
def State.branch (s : State) (t : Nat) (taken : Bool) (off : Int) : State :=
  if taken then s.jump t (BitVec.ofInt 32 ((s.thread t).pc + 4 * off)).toNat flBranch else s.done t

/-- A request's reply register is still in use: the thread is BLOCKED on it. R187, R188. -/
def State.rpBusy (s : State) (t m : Nat) : Option TState :=
  if s.rp t (s.thread t).second m = .empty then none else some (.blocked (.busy m))

/-- A thread issues a request that replies into RPm. R187, R188. -/
def State.ask (s : State) (t w : Nat) (m : Nat) (body : State → State) : Host.Outcome State Fault Refusal :=
  s.issueOr t w (fun s => s.rpBusy t m) body

/-- A register's value. -/
def State.reg (s : State) (t r : Nat) : Word := (s.thread t).reg r

/-- The time-out of a wait: honoured in Control-class work, and always on barrel threads and Pilot cores. R141, R247, R356. -/
def State.timeoutOf (s : State) (t r : Nat) : Nat :=
  let n := (s.reg t r).toNat % 65536
  if t < 512 then
    match (s.thread t).item with
    | some i => if s.classOf i.level = 2 then n else 0
    | none => 0
  else n

/-! ### Arithmetic instructions (R235, R236, R238) -/

/-- A three-register instruction with an S bit. R235. -/
def State.alu (s : State) (t w : Nat) (rd ra rb : Fin 32) (flags : Bool)
    (f : BitVec 32 → Word → Word → Word × BitVec 32) : Host.Outcome State Fault Refusal :=
  s.issue t w fun s =>
    let x := s.thread t
    let r := f x.tsw (x.reg ra.val) (x.reg rb.val)
    (s.setThread t { x with tsw := if flags then r.2 else x.tsw }).writeReg t rd.val r.1

/-- An instruction that writes one register from its operands and no flag. -/
def State.pure1 (s : State) (t w : Nat) (rd ra : Fin 32) (f : Word → Word) : Host.Outcome State Fault Refusal :=
  s.issue t w fun s => s.writeReg t rd.val (f (s.reg t ra.val))

def State.pure2 (s : State) (t w : Nat) (rd ra rb : Fin 32) (f : Word → Word → Word) : Host.Outcome State Fault Refusal :=
  s.issue t w fun s => s.writeReg t rd.val (f (s.reg t ra.val) (s.reg t rb.val))

/-- A decimal instruction. R225, R239. -/
def State.decimal (s : State) (t w : Nat) (rd : Fin 32) (f : Thread → DecRes) : Host.Outcome State Fault Refusal :=
  s.issue t w fun s =>
    let x := s.thread t
    let r := f x
    let s := if r.invalid then s.bumpCore t K.ctrExcDecimalInvalid else s
    (s.setThread t { x with tsw := r.tsw x.tsw }).writeReg t rd.val r.v

end Sys2Proof.Machine
end

