-- ==== Sys2Proof/Machine/Arithmetic.lean ====
section
/-! DEFINITION. The integer, logical, multiply, divide, immediate and decimal instructions (10_wenkin_encoding.md, R236 to R239) and
the end of a divide (R193). -/

namespace Sys2Proof.Machine

/-! ### ALU (R236) -/

/-- ADD. R236. -/
def execAdd (t : Fin 580) (rd ra rb : Fin 32) (f : Bool) (s : State) : Host.Outcome State Fault Refusal :=
  s.alu t.val (wordR 1 rd ra rb f 0x01) rd ra rb f (addRes false)

/-- ADDC. R236. -/
def execAddc (t : Fin 580) (rd ra rb : Fin 32) (f : Bool) (s : State) : Host.Outcome State Fault Refusal :=
  s.alu t.val (wordR 1 rd ra rb f 0x02) rd ra rb f fun w => addRes (flagC w) w

/-- SUB. R236. -/
def execSub (t : Fin 580) (rd ra rb : Fin 32) (f : Bool) (s : State) : Host.Outcome State Fault Refusal :=
  s.alu t.val (wordR 1 rd ra rb f 0x03) rd ra rb f (subRes false)

/-- SUBB. R236. -/
def execSubb (t : Fin 580) (rd ra rb : Fin 32) (f : Bool) (s : State) : Host.Outcome State Fault Refusal :=
  s.alu t.val (wordR 1 rd ra rb f 0x04) rd ra rb f fun w => subRes (flagC w) w

/-- NEG: 0 - ra. R222, R236. -/
def execNeg (t : Fin 580) (rd ra : Fin 32) (f : Bool) (s : State) : Host.Outcome State Fault Refusal :=
  s.alu t.val (wordR 1 rd ra 0 f 0x05) rd ra 0 f fun w a _ => subRes false w 0#32 a

/-- CMP: the flags of ra - rb. R236. -/
def execCmp (t : Fin 580) (ra rb : Fin 32) (s : State) : Host.Outcome State Fault Refusal :=
  s.alu t.val (wordR 1 0 ra rb false 0x06) 0 ra rb true (subRes false)

/-- AND. R236. -/
def execAnd (t : Fin 580) (rd ra rb : Fin 32) (f : Bool) (s : State) : Host.Outcome State Fault Refusal :=
  s.alu t.val (wordR 1 rd ra rb f 0x07) rd ra rb f fun w a b => logicRes w (a &&& b)

/-- OR. R236. -/
def execOr (t : Fin 580) (rd ra rb : Fin 32) (f : Bool) (s : State) : Host.Outcome State Fault Refusal :=
  s.alu t.val (wordR 1 rd ra rb f 0x08) rd ra rb f fun w a b => logicRes w (a ||| b)

/-- XOR. R236. -/
def execXor (t : Fin 580) (rd ra rb : Fin 32) (f : Bool) (s : State) : Host.Outcome State Fault Refusal :=
  s.alu t.val (wordR 1 rd ra rb f 0x09) rd ra rb f fun w a b => logicRes w (a ^^^ b)

/-- ANDN. R236. -/
def execAndn (t : Fin 580) (rd ra rb : Fin 32) (f : Bool) (s : State) : Host.Outcome State Fault Refusal :=
  s.alu t.val (wordR 1 rd ra rb f 0x0A) rd ra rb f fun w a b => logicRes w (a &&& ~~~b)

/-- NOT. R236. -/
def execNot (t : Fin 580) (rd ra : Fin 32) (f : Bool) (s : State) : Host.Outcome State Fault Refusal :=
  s.alu t.val (wordR 1 rd ra 0 f 0x0B) rd ra 0 f fun w a _ => logicRes w (~~~a)

/-- SHL by rb. R224, R236. -/
def execShl (t : Fin 580) (rd ra rb : Fin 32) (f : Bool) (s : State) : Host.Outcome State Fault Refusal :=
  s.alu t.val (wordR 1 rd ra rb f 0x0C) rd ra rb f fun w a b => shlRes w a b.toNat

/-- SHR by rb. R224, R236. -/
def execShr (t : Fin 580) (rd ra rb : Fin 32) (f : Bool) (s : State) : Host.Outcome State Fault Refusal :=
  s.alu t.val (wordR 1 rd ra rb f 0x0D) rd ra rb f fun w a b => shrRes w a b.toNat

/-- ASR by rb. R224, R236. -/
def execAsr (t : Fin 580) (rd ra rb : Fin 32) (f : Bool) (s : State) : Host.Outcome State Fault Refusal :=
  s.alu t.val (wordR 1 rd ra rb f 0x0E) rd ra rb f fun w a b => asrRes w a b.toNat

/-- ROR by rb. R224, R236. -/
def execRor (t : Fin 580) (rd ra rb : Fin 32) (f : Bool) (s : State) : Host.Outcome State Fault Refusal :=
  s.alu t.val (wordR 1 rd ra rb f 0x0F) rd ra rb f fun w a b => rorRes w a b.toNat

/-- ROL by rb. R224, R236. -/
def execRol (t : Fin 580) (rd ra rb : Fin 32) (f : Bool) (s : State) : Host.Outcome State Fault Refusal :=
  s.alu t.val (wordR 1 rd ra rb f 0x10) rd ra rb f fun w a b => rolRes w a b.toNat

/-- MIN. R236. -/
def execMin (t : Fin 580) (rd ra rb : Fin 32) (s : State) : Host.Outcome State Fault Refusal :=
  s.pure2 t.val (wordR 1 rd ra rb false 0x11) rd ra rb fun a b => if a.slt b then a else b

/-- MAX. R236. -/
def execMax (t : Fin 580) (rd ra rb : Fin 32) (s : State) : Host.Outcome State Fault Refusal :=
  s.pure2 t.val (wordR 1 rd ra rb false 0x12) rd ra rb fun a b => if a.slt b then b else a

/-- MINU. R236. -/
def execMinu (t : Fin 580) (rd ra rb : Fin 32) (s : State) : Host.Outcome State Fault Refusal :=
  s.pure2 t.val (wordR 1 rd ra rb false 0x13) rd ra rb fun a b => if a.ult b then a else b

/-- MAXU. R236. -/
def execMaxu (t : Fin 580) (rd ra rb : Fin 32) (s : State) : Host.Outcome State Fault Refusal :=
  s.pure2 t.val (wordR 1 rd ra rb false 0x14) rd ra rb fun a b => if a.ult b then b else a

/-- SLT. R236. -/
def execSlt (t : Fin 580) (rd ra rb : Fin 32) (s : State) : Host.Outcome State Fault Refusal :=
  s.pure2 t.val (wordR 1 rd ra rb false 0x15) rd ra rb fun a b => if a.slt b then 1#32 else 0#32

/-- SLTU. R236. -/
def execSltu (t : Fin 580) (rd ra rb : Fin 32) (s : State) : Host.Outcome State Fault Refusal :=
  s.pure2 t.val (wordR 1 rd ra rb false 0x16) rd ra rb fun a b => if a.ult b then 1#32 else 0#32

/-- CLZ. R236. -/
def execClz (t : Fin 580) (rd ra : Fin 32) (s : State) : Host.Outcome State Fault Refusal :=
  s.pure1 t.val (wordR 1 rd ra 0 false 0x17) rd ra fun a => BitVec.ofNat 32 (clz32 a)

/-- POPC. R236. -/
def execPopc (t : Fin 580) (rd ra : Fin 32) (s : State) : Host.Outcome State Fault Refusal :=
  s.pure1 t.val (wordR 1 rd ra 0 false 0x18) rd ra fun a => BitVec.ofNat 32 (popCount 32 a.toNat)

/-- BSWAP. R236. -/
def execBswap (t : Fin 580) (rd ra : Fin 32) (s : State) : Host.Outcome State Fault Refusal :=
  s.pure1 t.val (wordR 1 rd ra 0 false 0x19) rd ra bswap32

/-- BSWAPH. R236. -/
def execBswaph (t : Fin 580) (rd ra : Fin 32) (s : State) : Host.Outcome State Fault Refusal :=
  s.pure1 t.val (wordR 1 rd ra 0 false 0x1A) rd ra bswapH

/-- SEXTB. R236. -/
def execSextb (t : Fin 580) (rd ra : Fin 32) (s : State) : Host.Outcome State Fault Refusal :=
  s.pure1 t.val (wordR 1 rd ra 0 false 0x1B) rd ra fun a => (a.setWidth 8).signExtend 32

/-- SEXTH. R236. -/
def execSexth (t : Fin 580) (rd ra : Fin 32) (s : State) : Host.Outcome State Fault Refusal :=
  s.pure1 t.val (wordR 1 rd ra 0 false 0x1C) rd ra fun a => (a.setWidth 16).signExtend 32

/-- ZEXTH. R236. -/
def execZexth (t : Fin 580) (rd ra : Fin 32) (s : State) : Host.Outcome State Fault Refusal :=
  s.pure1 t.val (wordR 1 rd ra 0 false 0x1D) rd ra fun a => (a.setWidth 16).setWidth 32

/-! ### MULDIV (R193, R222, R223, R237) -/

/-- MUL: the low word of the product. R223, R237. -/
def execMul (t : Fin 580) (rd ra rb : Fin 32) (f : Bool) (s : State) : Host.Outcome State Fault Refusal :=
  s.alu t.val (wordR 2 rd ra rb f 1) rd ra rb f mulRes

/-- MULH: the high word of the signed product. R223, R237. -/
def execMulh (t : Fin 580) (rd ra rb : Fin 32) (s : State) : Host.Outcome State Fault Refusal :=
  s.pure2 t.val (wordR 2 rd ra rb false 2) rd ra rb mulhRes

/-- MULHU: the high word of the unsigned product. R223, R237. -/
def execMulhu (t : Fin 580) (rd ra rb : Fin 32) (s : State) : Host.Outcome State Fault Refusal :=
  s.pure2 t.val (wordR 2 rd ra rb false 3) rd ra rb mulhuRes

/-- A divide starts: the core's divider takes it, or the thread is HELD until it frees. R193, R237. -/
def State.startDivide (s : State) (t w : Nat) (rd ra rb : Fin 32) (signed : Bool) : Host.Outcome State Fault Refusal :=
  s.issueOr t w (fun s => if (s.core (coreOf t)).div.isSome then some (.held .divider) else none) fun s =>
    let c := s.core (coreOf t)
    ((s.setCore (coreOf t) { c with div := some ⟨t, rd.val, s.reg t ra.val, s.reg t rb.val, signed⟩ }).park t
      (.held .dividing)).bumpCore t K.ctrCoreDivideStarts

/-- DIV. R237. -/
def execDiv (t : Fin 580) (rd ra rb : Fin 32) (s : State) : Host.Outcome State Fault Refusal :=
  s.startDivide t.val (wordR 2 rd ra rb false 4) rd ra rb true

/-- DIVU. R237. -/
def execDivu (t : Fin 580) (rd ra rb : Fin 32) (s : State) : Host.Outcome State Fault Refusal :=
  s.startDivide t.val (wordR 2 rd ra rb false 5) rd ra rb false

/-- DIVIDE_COMPLETE: the divider of a core ends its divide: core c, BIOPp as 64 + p, Pilot core i as 68 + i. A division by zero with
TRAP_DZ 1 writes DZ and raises DIVIDE_TRAP. R193, R222, R237. -/
def execDivideComplete (c : Fin 72) (s : State) : Host.Outcome State Fault Refusal :=
  match (s.core c.val).div with
  | none => .next s
  | some d =>
    let t := d.tid
    let s := s.freeDivider c.val
    let x := s.thread t
    let r := divRes d.signed x.tsw d.a d.b
    let s := if d.b = 0#32 then s.bumpCore t K.ctrExcDivideByZero else s
    if d.b = 0#32 ∧ x.trapDz then
      .next ((s.setThread t { x with st := .ready, tsw := setDZ x.tsw true }).raise t excDivide 0 0#32 x.pc)
    else .next ((s.setThread t { (x.setReg d.rd r.1).setReg (d.rd + 1) r.2.1 with tsw := r.2.2 }).done t)

/-! ### Immediates (R238) -/

/-- ADDI. R238. -/
def execAddi (t : Fin 580) (rd ra : Fin 32) (imm : BitVec 16) (s : State) : Host.Outcome State Fault Refusal :=
  s.pure1 t.val (wordI 0x04 rd ra imm) rd ra fun a => a + imm.signExtend 32

/-- ANDI. R238. -/
def execAndi (t : Fin 580) (rd ra : Fin 32) (imm : BitVec 16) (s : State) : Host.Outcome State Fault Refusal :=
  s.pure1 t.val (wordI 0x05 rd ra imm) rd ra fun a => a &&& imm.setWidth 32

/-- ORI. R238. -/
def execOri (t : Fin 580) (rd ra : Fin 32) (imm : BitVec 16) (s : State) : Host.Outcome State Fault Refusal :=
  s.pure1 t.val (wordI 0x06 rd ra imm) rd ra fun a => a ||| imm.setWidth 32

/-- XORI. R238. -/
def execXori (t : Fin 580) (rd ra : Fin 32) (imm : BitVec 16) (s : State) : Host.Outcome State Fault Refusal :=
  s.pure1 t.val (wordI 0x07 rd ra imm) rd ra fun a => a ^^^ imm.setWidth 32

/-- SHLI. R238. -/
def execShli (t : Fin 580) (rd ra : Fin 32) (imm : BitVec 16) (s : State) : Host.Outcome State Fault Refusal :=
  s.pure1 t.val (wordI 0x08 rd ra imm) rd ra fun a => (shlRes 0#32 a imm.toNat).1

/-- SHRI. R238. -/
def execShri (t : Fin 580) (rd ra : Fin 32) (imm : BitVec 16) (s : State) : Host.Outcome State Fault Refusal :=
  s.pure1 t.val (wordI 0x09 rd ra imm) rd ra fun a => (shrRes 0#32 a imm.toNat).1

/-- ASRI. R238. -/
def execAsri (t : Fin 580) (rd ra : Fin 32) (imm : BitVec 16) (s : State) : Host.Outcome State Fault Refusal :=
  s.pure1 t.val (wordI 0x0A rd ra imm) rd ra fun a => (asrRes 0#32 a imm.toNat).1

/-- RORI. R238. -/
def execRori (t : Fin 580) (rd ra : Fin 32) (imm : BitVec 16) (s : State) : Host.Outcome State Fault Refusal :=
  s.pure1 t.val (wordI 0x0B rd ra imm) rd ra fun a => (rorRes 0#32 a imm.toNat).1

/-- LUI. R238. -/
def execLui (t : Fin 580) (rd : Fin 32) (imm : BitVec 16) (s : State) : Host.Outcome State Fault Refusal :=
  s.pure1 t.val (wordI 0x0C rd 0 imm) rd 0 fun _ => imm.setWidth 32 <<< 16

/-- CMPI: the flags of ra - sext(imm16). R238. -/
def execCmpi (t : Fin 580) (ra : Fin 32) (imm : BitVec 16) (s : State) : Host.Outcome State Fault Refusal :=
  s.alu t.val (wordI 0x0D 0 ra imm) 0 ra 0 true fun w a _ => subRes false w a (imm.signExtend 32)

/-! ### Decimal (R225, R239) -/

/-- DADD. R225. -/
def execDadd (t : Fin 580) (rd ra rb : Fin 32) (s : State) : Host.Outcome State Fault Refusal :=
  s.decimal t.val (wordR 3 rd ra rb false 1) rd fun x => dadd false (x.reg ra.val) (x.reg rb.val)

/-- DADDC. R225. -/
def execDaddc (t : Fin 580) (rd ra rb : Fin 32) (s : State) : Host.Outcome State Fault Refusal :=
  s.decimal t.val (wordR 3 rd ra rb false 2) rd fun x => dadd (flagC x.tsw) (x.reg ra.val) (x.reg rb.val)

/-- DSUB. R225. -/
def execDsub (t : Fin 580) (rd ra rb : Fin 32) (s : State) : Host.Outcome State Fault Refusal :=
  s.decimal t.val (wordR 3 rd ra rb false 3) rd fun x => dsub (x.reg ra.val) (x.reg rb.val)

/-- BIN2BCD. R225. -/
def execBin2bcd (t : Fin 580) (rd ra : Fin 32) (s : State) : Host.Outcome State Fault Refusal :=
  s.decimal t.val (wordR 3 rd ra 0 false 4) rd fun x => bin2bcd (x.reg ra.val)

/-- BCD2BIN. R225. -/
def execBcd2bin (t : Fin 580) (rd ra : Fin 32) (s : State) : Host.Outcome State Fault Refusal :=
  s.decimal t.val (wordR 3 rd ra 0 false 5) rd fun x => bcd2bin (x.reg ra.val)

/-- DIGASC. R225. -/
def execDigasc (t : Fin 580) (rd ra : Fin 32) (s : State) : Host.Outcome State Fault Refusal :=
  s.decimal t.val (wordR 3 rd ra 0 false 6) rd fun x => digasc (x.reg ra.val)

/-- ASCDIG. R225. -/
def execAscdig (t : Fin 580) (rd ra : Fin 32) (s : State) : Host.Outcome State Fault Refusal :=
  s.decimal t.val (wordR 3 rd ra 0 false 7) rd fun x => ascdig (x.reg ra.val)

end Sys2Proof.Machine
end

