-- ==== Sys2Proof/Machine/Curve448.lean ====
section
/-! DEFINITION. The remaining standard algorithms Binnacle uses: Ed448 (RFC 8032) and X448 (RFC 7748), AES decryption, AES-CMAC
(SP 800-38B), the key wrap of RFC 3394 and the key derivation of IEEE 802.1X. PRESUMED from those standards (log entry 10). -/

namespace Sys2Proof.Machine

/-! ### The field and the curve -/

/-- The prime of both curves. -/
def p448 : Nat := 2 ^ 448 - 2 ^ 224 - 1

/-- The order of the Ed448 base point. -/
def order448 : Nat := 2 ^ 446 - 13818066809895115352007386748515426880336692474882178609894547503885

/-- Modular power by squaring over `n` exponent bits, from the top. -/
def powMod (m b e : Nat) : Nat → Nat
  | 0 => 1 % m
  | n + 1 =>
    let r := powMod m b (e / 2) n
    let q := r * r % m
    if e % 2 = 1 then q * b % m else q

/-- Field subtraction. -/
def fsub (a b : Nat) : Nat := (a + p448 - b % p448) % p448

/-- Field inverse. -/
def finv (a : Nat) : Nat := powMod p448 a (p448 - 2) 448

/-- The curve constant d = −39081. -/
def d448 : Nat := p448 - 39081

/-- A point in projective coordinates. -/
structure Pt where
  x : Nat
  y : Nat
  z : Nat
deriving DecidableEq, Repr

/-- The base point. RFC 8032. -/
def base448 : Pt :=
  ⟨224580040295924300187604334099896036246789641632564134246125461686950415467406032909029192869357953282578032075146446173674602635247710,
   298819210078481492676017930443930673437544040154080242095928241372331506189835876003536878655418784733982303233503462500531545062832660, 1⟩

/-- Point addition, complete on this curve. RFC 8032. -/
def Pt.add (p q : Pt) : Pt :=
  let a := p.z * q.z % p448
  let b := a * a % p448
  let c := p.x * q.x % p448
  let d := p.y * q.y % p448
  let e := d448 * (c * d % p448) % p448
  let f := fsub b e
  let g := (b + e) % p448
  let h := (p.x + p.y) * (q.x + q.y) % p448
  ⟨a * f % p448 * fsub (fsub h c) d % p448, a * g % p448 * fsub d c % p448, f * g % p448⟩

/-- Scalar multiplication over `n` scalar bits. -/
def Pt.mul (p : Pt) (k : Nat) : Nat → Pt
  | 0 => ⟨0, 1, 1⟩
  | n + 1 =>
    let r := p.mul (k / 2) n
    let q := r.add r
    if k % 2 = 1 then q.add p else q

/-- A point as 57 bytes: y with the lowest bit of x above it. -/
def Pt.encode (p : Pt) : List Byte :=
  let i := finv p.z
  toLE 57 (p.y * i % p448 + (p.x * i % p448) % 2 * 2 ^ 455)

/-- The point 57 bytes name. RFC 8032. -/
def Pt.decode (bs : List Byte) : Option Pt :=
  let n := ofLE bs
  let y := n % 2 ^ 455
  let u := fsub (y * y % p448) 1
  let v := fsub (d448 * (y * y % p448) % p448) 1
  let x := powMod p448 (u * finv v % p448) ((p448 + 1) / 4) 448
  if bs.length ≠ 57 ∨ p448 ≤ y ∨ v * (x * x % p448) % p448 ≠ u then none
  else if x = 0 ∧ n / 2 ^ 455 = 1 then none
  else some ⟨if x % 2 = n / 2 ^ 455 then x else fsub 0 x, y, 1⟩

/-! ### Ed448 -/

/-- SHAKE256 of the domain prefix, the context and a message, 114 bytes. RFC 8032. -/
def hash448 (ctx m : List Byte) : Nat :=
  ofLE (shake256 (ascii "SigEd448" ++ [0#8, BitVec.ofNat 8 ctx.length] ++ ctx ++ m) 114)

/-- The scalar and the prefix of a 57-byte seed. -/
def seed448 (seed : List Byte) : Nat × List Byte :=
  let h := shake256 seed 114
  let n := ofLE (h.take 56)
  (n / 4 * 4 % 2 ^ 447 + 2 ^ 447, h.drop 57)

/-- The public key of a seed. -/
def ed448Public (seed : List Byte) : List Byte := (base448.mul (seed448 seed).1 448).encode

/-- The signature of a message under a seed and a context. -/
def ed448Sign (seed ctx m : List Byte) : List Byte :=
  let s := seed448 seed
  let a := ed448Public seed
  let r := hash448 ctx (s.2 ++ m) % order448
  let rp := (base448.mul r 448).encode
  let k := hash448 ctx (rp ++ a ++ m) % order448
  rp ++ toLE 57 ((r + k * s.1) % order448)

/-- A signature of a message under a public key and a context verifies. -/
def ed448Verify (key ctx m sig : List Byte) : Bool :=
  match Pt.decode key, Pt.decode (sig.take 57) with
  | some a, some r =>
    let s := ofLE (sig.drop 57)
    let k := hash448 ctx (sig.take 57 ++ key ++ m) % order448
    decide (sig.length = 114) && decide (s < order448)
      && decide ((base448.mul s 448).encode = (r.add (a.mul k 448)).encode)
  | _, _ => false

/-! ### X448 -/

/-- The ladder over `n` scalar bits from the top. RFC 7748. -/
def ladder448 (x1 k : Nat) : Nat → Nat × Nat × Nat × Nat → Nat × Nat × Nat × Nat
  | 0, s => s
  | n + 1, (x2, z2, x3, z3) =>
    let b := bit k n = 1
    let q := if b then (x3, z3, x2, z2) else (x2, z2, x3, z3)
    let a := (q.1 + q.2.1) % p448
    let m := fsub q.1 q.2.1
    let aa := a * a % p448
    let mm := m * m % p448
    let e := fsub aa mm
    let da := fsub q.2.2.1 q.2.2.2 * a % p448
    let cb := (q.2.2.1 + q.2.2.2) * m % p448
    let y3 := (da + cb) * (da + cb) % p448
    let w3 := x1 * (fsub da cb * fsub da cb % p448) % p448
    let y2 := aa * mm % p448
    let w2 := e * ((aa + 39081 * e) % p448) % p448
    ladder448 x1 k n (if b then (y3, w3, y2, w2) else (y2, w2, y3, w3))

/-- X448 of a scalar and a u-coordinate, 56 bytes each. RFC 7748. -/
def x448 (k u : List Byte) : List Byte :=
  let n := ofLE k
  let x := ofLE u % p448
  let r := ladder448 x (n / 4 * 4 % 2 ^ 447 + 2 ^ 447) 448 (1, 0, x, 1)
  toLE 56 (r.1 * finv r.2.1 % p448)

/-! ### AES decryption, CMAC, key wrap, key derivation -/

/-- The inverse S-box. FIPS 197. -/
def invSbox (x : Nat) : Nat := ((List.range 256).find? fun i => decide (sbox i = x)).getD 0

/-- InvShiftRows. -/
def invShiftRows (s : List Nat) : List Nat :=
  (List.range 16).map fun i => s.getD ((i % 4) + 4 * ((i / 4 + 4 - i % 4) % 4)) 0

/-- InvMixColumns of one column: MixColumns three times more. -/
def invMixColumn (c : List Nat) : List Nat := mixColumn (mixColumn (mixColumn c))

/-- The rounds of decryption over the round keys, last first. -/
def invRounds : List (List Nat) → List Nat → List Nat
  | [], s => s
  | [k], s => xorList ((invShiftRows s).map invSbox) k
  | k :: k2 :: ks, s =>
    invRounds (k2 :: ks) ((chunks 4 4 (xorList ((invShiftRows s).map invSbox) k)).map invMixColumn).flatten

/-- AES decryption of one 16-byte block under round keys. -/
def aesInverse (ks : List (List Nat)) (b : List Nat) : List Nat :=
  match ks.reverse with
  | [] => b
  | k :: r => invRounds r (xorList b k)

/-- One block encrypted, as a number. -/
def aesNat (ks : List (List Nat)) (x : Nat) : Nat :=
  (aesBlock ks ((toBE 16 x).map (·.toNat))).foldl (fun a b => a * 256 + b) 0

/-- Doubling in GF(2^128) for CMAC subkeys. -/
def cmacDouble (x : Nat) : Nat := if x < 2 ^ 127 then 2 * x else (2 * x) % 2 ^ 128 ^^^ 0x87

/-- AES-CMAC, 16 bytes. SP 800-38B. -/
def aesCmac (key m : List Byte) : List Byte :=
  let ks := aesKeys key
  let k1 := cmacDouble (aesNat ks 0)
  let k2 := cmacDouble k1
  let whole := decide (m.length % 16 = 0) && decide (m ≠ [])
  let padded := if whole then m else m ++ [0x80#8] ++ List.replicate ((15 - m.length % 16)) 0#8
  let bs := (blocks16 padded).map ofBE
  let lastB := bs.getLastD 0 ^^^ (if whole then k1 else k2)
  toBE 16 (aesNat ks ((bs.dropLast.foldl (fun a b => aesNat ks (a ^^^ b)) 0) ^^^ lastB))

/-- The initial value of the key wrap. RFC 3394. -/
def wrapIv : Nat := 0xA6A6A6A6A6A6A6A6

/-- One step of the wrap on a 64-bit register and n 64-bit words. -/
def wrapStep (ks : List (List Nat)) (s : Nat × List Nat) (t : Nat) : Nat × List Nat :=
  let n := s.2.length
  let i := (t - 1) % n
  let b := aesNat ks (s.1 * 2 ^ 64 + s.2.getD i 0)
  (b / 2 ^ 64 ^^^ t, s.2.set i (b % 2 ^ 64))

/-- A key of 16 or 32 bytes wrapped. RFC 3394. -/
def keyWrap (kek key : List Byte) : List Byte :=
  let ks := aesKeys kek
  let words := (chunks 8 (key.length / 8) key).map ofBE
  let r := ((List.range (6 * words.length)).map (· + 1)).foldl (wrapStep ks) (wrapIv, words)
  toBE 8 r.1 ++ r.2.flatMap (toBE 8)

/-- One step of the unwrap. -/
def unwrapStep (ks : List (List Nat)) (s : Nat × List Nat) (t : Nat) : Nat × List Nat :=
  let n := s.2.length
  let i := (t - 1) % n
  let b := (aesInverse ks ((toBE 8 (s.1 ^^^ t) ++ toBE 8 (s.2.getD i 0)).map (·.toNat))).foldl (fun a b => a * 256 + b) 0
  (b / 2 ^ 64, s.2.set i (b % 2 ^ 64))

/-- A wrapped key unwrapped, when its check value is right. RFC 3394. -/
def keyUnwrap (kek wrapped : List Byte) : Option (List Byte) :=
  let ks := aesKeys kek
  let all := (chunks 8 (wrapped.length / 8) wrapped).map ofBE
  match all with
  | a :: words =>
    let r := (((List.range (6 * words.length)).map (· + 1)).reverse).foldl (unwrapStep ks) (a, words)
    if (wrapped.length = 24 ∨ wrapped.length = 40) ∧ r.1 = wrapIv then some (r.2.flatMap (toBE 8)) else none
  | [] => none

/-- The key derivation of IEEE 802.1X-2020: `n` bytes from a key, a 12-byte label and a 16-byte context. -/
def kdf8021x (key label ctx : List Byte) (n : Nat) : List Byte :=
  ((List.range (cdiv n 16)).flatMap fun i =>
    aesCmac key ([BitVec.ofNat 8 (i + 1)] ++ label ++ [0#8] ++ slice ctx 0 16 ++ toBE 2 (8 * n))).take n

end Sys2Proof.Machine
end

