-- ==== Sys2Proof/Machine/Reset.lean ====
section
/-! DEFINITION. Taking a device reset (23_power_reset_boot.md, R521, R522): the causes, what AON keeps, and the wait for AON's own
writes. The commands that raise causes are in Boot.lean, Safety.lean and Binnacle.lean. -/

namespace Sys2Proof.Machine

def causePowerOn : Nat := 0
def causePorst : Nat := 1
def causeSoftware : Nat := 2
def causeSafeState : Nat := 3
def causeDeviceWatchdog : Nat := 4
def causeTamper : Nat := 5
def causeFullTest : Nat := 6
def causeFullTestEnd : Nat := 7
def causePowerFail : Nat := 8

/-- The order in which coinciding causes are recorded. R522. -/
def causeOrder : List Nat := [0, 8, 5, 4, 3, 1, 7, 6, 2]

/-- The recorded cause of several sampled in one AON cycle. R522. -/
def firstCause (l : List Nat) : Nat := (causeOrder.find? fun c => l.contains c).getD 0

/-- The mask of the other causes. R521. -/
def otherCauses (l : List Nat) : Nat :=
  let c := firstCause l
  (List.range 9).foldl (fun m k => if k ≠ c ∧ l.contains k then m + 2 ^ k else m) 0

/-- The dictionary keys AON keeps through a device reset: the Almanac's record, its counters and those of Binnacle and the Safety
Manager, the latched life-cycle state and the reset record's own counts. R478, R485, R521. -/
def keptKey (k : Nat) : Bool :=
  let i := k / 256
  decide (i = 0x5800) || decide (i = 0x62B0) || decide (i = 0x62B1) || decide (i = 0x62C1) || decide (i = 0x6290)
    || decide (k = K.binLifeCycle) || decide (k = K.rstLastResetCause) || decide (k = K.rstResetCount)
    || decide (k = K.rstPowerFailLatched)

/-- The memories that hold nothing after a device reset: code RAM and atomic memory. R226, R302, R353. -/
def clearedByReset (k : Nat) : Bool :=
  let sp := k / 2 ^ 48
  decide (sp = 4) || decide (sp = 7) || decide (sp = 8)

/-- Every island but AON back at its reset values. R521. -/
def State.islandsReset (s : State) : State :=
  let z := State.reset
  { z with
    variant := s.variant, now := s.now, freeCtr := s.freeCtr, pending := s.pending, firsts := s.firsts
    opStatus := s.opStatus, reply := s.reply, abort := s.abort
    dict := s.dict.filter fun x => keptKey x.1
    mem := s.mem.filter fun x => !clearedByReset x.1
    alm := s.alm
    snd := { z.snd with spares := s.snd.spares, repairs := s.snd.repairs, results := s.snd.results, resultAt := s.snd.resultAt }
    bin := { z.bin with
      otp := s.bin.otp, rngFails := s.bin.rngFails, trips := s.bin.trips
      store := tmap KeyEntry.zero (fun _ e => { KeyEntry.zero with gen := e.gen + b2n e.used }) s.bin.store }
    boot := { z.boot with
      porst := s.boot.porst, pwrfail := s.boot.pwrfail, pwrHighAt := s.boot.pwrHighAt, tapHeld := s.boot.tapHeld } }

/-- Internal reset is asserted with the causes sampled together; SAFE_A_N, SAFE_B_N and RSTOUT_N are low in the state it leaves.
The power-fail latch outlives a reset only while the flush it started runs on. R522, R528, R529. -/
def State.assertReset (s : State) (causes : List Nat) : State :=
  let c := firstCause causes
  let s := s.islandsReset.when (decide (c = causePowerFail) || !s.alm.urgent) (·.wr K.rstPowerFailLatched 0)
  { s with boot := { s.boot with
    asserted := true, cause := c, mask := otherCauses causes, at_ := s.now, powerFail := decide (c = causePowerFail)
    fullTest := decide (c = causeFullTest) } }

/-- AON has a life-cycle or rollback write or a zeroisation to complete before a reset. R522. -/
def State.aonBusy (s : State) : Bool := s.bin.lcTarget.isSome || !s.bin.rollback.isEmpty || s.bin.zeroWait.isSome

/-- A reset cause is sampled: it joins those of the same AON cycle (here: the same instant), waits for AON's writes, or asserts
reset. R522. -/
def State.sampleCause (s : State) (c : Nat) : State :=
  if s.boot.asserted then
    if s.boot.at_ = s.now then
      let l := c :: s.boot.cause :: setBits 9 s.boot.mask
      let f := firstCause l
      { s with boot := { s.boot with
        cause := f, mask := otherCauses l, powerFail := decide (f = causePowerFail), fullTest := decide (f = causeFullTest) } }
    else s
  else if s.aonBusy then { s with boot := { s.boot with waiting := s.boot.waiting ++ [(c, s.now)] } }
  else s.assertReset [c]

/-- A reset that waited for AON's writes is asserted once they have completed. R522. -/
def State.resetProceeds (s : State) : State :=
  match s.boot.waiting with
  | [] => s
  | (_, t) :: _ =>
    if s.aonBusy then s else s.assertReset ((s.boot.waiting.filter fun x => x.2 = t).map Prod.fst)

end Sys2Proof.Machine
end

