-- ==== Sys2Proof/Machine/Binnacle.lean ====
section
/-! DEFINITION. Binnacle (18_binnacle.md, R410 to R438): OTP and life cycle, the key ladder and key store, its services, image
verification and measurement, quotes, tamper responses and zeroisation. Keys of named standards follow those standards
(log entry 10). -/

namespace Sys2Proof.Machine

/-! ### Statuses (R419) -/

def bsOk : Nat := 0
def bsBadHandle : Nat := 1
def bsUsage : Nat := 2
def bsUnwrapFail : Nat := 3
def bsStoreFull : Nat := 4
def bsBadTarget : Nat := 5
def bsZeroised : Nat := 6
def bsRngFail : Nat := 7
def bsBadSignature : Nat := 8
def bsBadDigest : Nat := 9
def bsRollback : Nat := 10
def bsKeyRevoked : Nat := 11
def bsNotPermitted : Nat := 12
def bsBadImage : Nat := 13

/-! ### OTP (R413, R414) -/

/-- A 32-bit word of OTP. -/
def State.otpWord (s : State) (w : Nat) : Nat := tget 0 s.bin.otp w

/-- Bits set in a word of OTP; no bit is ever cleared. R414. -/
def State.otpSet (s : State) (w v : Nat) : State :=
  { s with bin := { s.bin with otp := tset 0 s.bin.otp w (s.otpWord w ||| v % 2 ^ 32) } }

/-- `n` words of OTP as bytes, little-endian. -/
def State.otpBytes (s : State) (w n : Nat) : List Byte := (List.range n).flatMap fun i => toLE 4 (s.otpWord (w + i))

def State.deviceSeed (s : State) : List Byte := s.otpBytes 8 8
def State.rootHash (s : State) : List Byte := s.otpBytes 80 16
def State.oemHash (s : State) (i : Nat) : List Byte := s.otpBytes (96 + 16 * i) 16
def State.oemRevoked (s : State) (i : Nat) : Bool := decide (bit (s.otpWord 160) i = 1)
def State.deviceSerial (s : State) : List Byte := s.otpBytes 240 4
def State.tamperFloor (s : State) (d : Nat) : Nat := bits (s.otpWord 232) (2 * d + 1) (2 * d)

/-- The bits set in rollback counter j. R427. -/
def State.rollbackValue (s : State) (j : Nat) : Nat :=
  ((List.range 8).map fun i => popCount 32 (s.otpWord (168 + 8 * j + i))).foldl (· + ·) 0

/-- An OEM key is usable: its hash is written and its revocation bit clear. -/
def State.oemUsable (s : State) (i : Nat) : Bool := decide (ofLE (s.oemHash i) ≠ 0) && !s.oemRevoked i

/-- The set groups of the LifeCycle area, as an 8-bit map. R413. -/
def State.lifeMap (s : State) : Nat :=
  (List.range 8).foldl (fun m g => if 24 ≤ popCount 32 (s.otpWord g) then m + 2 ^ g else m) 0

/-- The state a map of set groups stands for, and whether the pattern is consistent. R413. -/
def lifeOf (m : Nat) : Nat × Bool :=
  if m = 255 then (5, true)
  else if m = 0 then (0, true) else if m = 1 then (1, true) else if m = 3 then (2, true)
  else if m = 7 then (3, true) else if m = 15 then (4, true) else (5, false)

/-- The life-cycle state in force: 0 BLANK to 4 RETURNED, 5 SCRAPPED. -/
def State.life (s : State) : Nat := s.rd K.binLifeCycle

/-- The entries that show OTP follow it. R436. -/
def State.showOtp (s : State) : State :=
  let s := (List.range 8).foldl (fun s j => s.wr (K.binRollbackCounter j) (s.rollbackValue j)) s
  (s.wr K.binOemKeyRevoke (s.otpWord 160)).setOctets K.binDeviceSerial s.deviceSerial

/-! ### Keys (R415, R416, R419) -/

/-- A key derived from a parent. R415. -/
def childKey (parent : List Byte) (label : String) (context : List Byte) : List Byte := kmac256 parent (ascii label ++ context) 32 []

/-- The device root key of the state in force: none in BLANK and SCRAPPED. R415. -/
def State.formDrk (s : State) : List Byte :=
  if s.life = 0 ∨ s.life = 5 then []
  else shake256 (toLE 32 Config.pufKey.toNat ++ s.deviceSeed ++ toLE 1 (if s.life = 4 then 1 else 0)) 32

def State.devIdSeed (s : State) : List Byte := childKey s.bin.drk "DEVID" []
def State.attestSeed (s : State) : List Byte := childKey s.bin.drk "ATTEST" []
def State.kwk (s : State) : List Byte := childKey s.bin.drk "KWK" []

def State.keyEntry (s : State) (i : Nat) : KeyEntry := tget KeyEntry.zero s.bin.store i
def State.setKeyEntry (s : State) (i : Nat) (e : KeyEntry) : State :=
  { s with bin := { s.bin with store := tset KeyEntry.zero s.bin.store i e } }

/-- The handle of a slot. R419. -/
def handleOf (i gen : Nat) : Nat := gen % 2 ^ 24 * 256 + i

/-- The entry a handle names; none when the handle is stale or the slot unused. R419. -/
def State.byHandle (s : State) (h : Nat) : Option KeyEntry :=
  let e := s.keyEntry (h % 256)
  if e.used ∧ e.gen % 2 ^ 24 = h / 256 then some e else none

/-- The entry as it is freed: its generation rises. -/
def KeyEntry.freed (e : KeyEntry) : KeyEntry := { KeyEntry.zero with gen := e.gen + b2n e.used }

/-- A key put into a free slot (which of them is a free value): its handle. None when the store is full. R419. -/
def State.storeKey (s : State) (usage keyId : Nat) (key : List Byte) : Option (Nat × State) :=
  match s.pick ((List.range 256).filter fun i => !(s.keyEntry i).used) with
  | none => none
  | some (i, s) =>
    let g := (s.keyEntry i).gen
    some (handleOf i g, s.setKeyEntry i ⟨true, g, usage, keyId, key⟩)

/-- The TRNG can serve a request. R420. -/
def State.trngOk (s : State) : Bool := !s.bin.rngBad

/-- A service's answer: a status and result bytes. -/
def State.answer (s : State) (status : Nat) (r : List Byte := []) : State := { s with opStatus := status, reply := r }

/-- Binnacle is zeroised. R435. -/
def State.zeroised (s : State) : Bool := decide (s.rd K.binBinnacleState = 1)

/-- A service in a state and condition that permit it. R410, R435. -/
def State.service (s : State) (keys : Bool) (f : State → State) : State :=
  if s.zeroised then s.answer bsZeroised
  else if keys ∧ (s.life = 0 ∨ s.life = 5) then s.answer bsNotPermitted
  else f s

/-- A service on a key of one of the usages given. R419. -/
def State.withKey (s : State) (h : Nat) (usages : List Nat) (f : KeyEntry → State → State) : State :=
  match s.byHandle h with
  | none => s.answer bsBadHandle
  | some e => if e.usage ∈ usages then f e s else s.answer bsUsage

/-! ### The services (R419) -/

/-- RNG: 1 to 64 bytes. -/
def execRng (n : Fin 64) (s : State) : Host.Outcome State Fault Refusal :=
  .next (s.service false fun s =>
    if !s.trngOk then s.answer bsRngFail else (s.answer bsOk (s.randomBytes (n.val + 1))).tick)

/-- The key of a blob, with its identifier and usage; none when it does not verify. R417. -/
def State.openBlob (s : State) (b : List Byte) : Option (Nat × Nat × List Byte) :=
  let usage := leAt b 2 1
  let len := leAt b 3 1
  if usage = 0 ∨ 4 < usage ∨ (len ≠ 16 ∧ len ≠ 32) then none
  else match gcmOpen s.kwk (slice b 4 12) (slice b 0 16) (slice b 16 32) (slice b 48 16) with
    | some k => some (leAt b 0 2, usage, k.take len)
    | none => none

/-- LOAD_BLOB of 64 bytes. R417, R419. -/
def State.loadBlob (s : State) (b : List Byte) : State :=
  s.service true fun s =>
    match s.openBlob b with
    | none => s.answer bsUnwrapFail
    | some (id, usage, k) => match s.storeKey usage id k with
      | none => s.answer bsStoreFull
      | some (h, s) => s.answer bsOk (toLE 4 h)

/-- LOAD_BLOB. -/
def execLoadBlob (blob : BitVec 512) (s : State) : Host.Outcome State Fault Refusal :=
  .next (s.loadBlob (toLE 64 blob.toNat))

/-- MKA_DERIVE: KEK and ICK of a CAK and a CKN of 1 to 32 bytes (the CKN's first 16 bytes, padded with zeros, are the context).
R419. -/
def execMkaDerive (h : BitVec 32) (ckn : BitVec 256) (len : Fin 32) (s : State) : Host.Outcome State Fault Refusal :=
  .next (s.service false fun s => s.withKey h.toNat [1] fun e s =>
    let ctx := slice ((toLE 32 ckn.toNat).take (len.val + 1)) 0 16
    let n := e.bytes.length
    match s.storeKey 5 e.keyId (kdf8021x e.bytes (ascii "IEEE8021 KEK") ctx n) with
    | none => s.answer bsStoreFull
    | some (kek, s1) => match s1.storeKey 6 e.keyId (kdf8021x e.bytes (ascii "IEEE8021 ICK") ctx n) with
      | none => s.answer bsStoreFull
      | some (ick, s2) => s2.answer bsOk (toLE 4 kek ++ toLE 4 ick))

/-- MKA_ICV of an MKPDU of up to 1,500 bytes. R419. -/
def execMkaIcv (h : BitVec 32) (mkpdu : List (BitVec 8)) (s : State) : Host.Outcome State Fault Refusal :=
  .next (s.service false fun s => s.withKey h.toNat [6] fun e s => s.answer bsOk (aesCmac e.bytes (mkpdu.take 1500)))

/-- SAK_NEW of 16 or 32 bytes: a handle and the key wrapped under the KEK. R419. -/
def execSakNew (h : BitVec 32) (long : Bool) (s : State) : Host.Outcome State Fault Refusal :=
  .next (s.service false fun s => s.withKey h.toNat [5] fun e s =>
    if !s.trngOk then s.answer bsRngFail
    else
      let sak := s.randomBytes (if long then 32 else 16)
      match s.tick.storeKey 7 0 sak with
      | none => s.answer bsStoreFull
      | some (k, s) => s.answer bsOk (toLE 4 k ++ keyWrap e.bytes sak))

/-- SAK_UNWRAP of a wrapped SAK of 24 or 40 bytes. R419. -/
def execSakUnwrap (h : BitVec 32) (wrapped : List (BitVec 8)) (s : State) : Host.Outcome State Fault Refusal :=
  .next (s.service false fun s => s.withKey h.toNat [5] fun e s =>
    match (if wrapped.length = 24 ∨ wrapped.length = 40 then keyUnwrap e.bytes wrapped else none) with
    | none => s.answer bsUnwrapFail
    | some sak => match s.storeKey 7 0 sak with
      | none => s.answer bsStoreFull
      | some (k, s) => s.answer bsOk (toLE 4 k))

/-- A delivery refused: counted. R422, R437. -/
def State.keyRefused (s : State) (status : Nat) : State := (s.bump K.ctrBinKeyRefusals).answer status

/-- The key bus refuses a SAK: no association is installed. R57, R422. -/
def State.sakRefused (s : State) (p secy an status : Nat) : State :=
  (s.almanac 0 0x0213 5 [(1, p), (1, secy), (1, an)]).keyRefused status

/-- INSTALL_SA: the key bus delivers a SAK, with salt and SSCI for an XPN suite, to an association; a delivery the engine refuses
is recorded by it. R48, R57, R419, R422. -/
def execInstallSa (h : BitVec 32) (p secy sc an : BitVec 8) (salt : BitVec 96) (ssci : BitVec 32) (s : State) :
    Host.Outcome State Fault Refusal :=
  let refused := fun st => s.sakRefused p.toNat secy.toNat an.toNat st
  .next (if s.zeroised then refused bsZeroised
    else match s.byHandle h.toNat with
      | none => refused bsBadHandle
      | some e =>
        if e.usage ≠ 7 then refused bsUsage
        else
          let c := s.chan p.toNat sc.toNat
          let suite := s.rd (K.secyCipherSuite (secyIx p.toNat secy.toNat))
          let ok := decide (p.toNat < 7) && decide (secy.toNat < secyCount p.toNat) && decide (sc.toNat < scCount p.toNat)
            && decide (an.toNat < 4) && c.used && decide (c.secy = secy.toNat)
            && decide (e.bytes.length = if suite % 2 = 1 then 16 else 32)
          if !ok then refused bsBadTarget
          else
            let k := 4 * scKey p.toNat sc.toNat + an.toNat
            let x := xpnSuite suite
            ((s.setSa k { Sa.zero with
                installed := true, key := e.bytes, salt := if x then toLE 12 salt.toNat else []
                ssci := if x then ssci else 0#32, nextPn := 1, lowestPn := 1, ctrs := (s.sa k).ctrs }).bump
              K.ctrBinKeyDeliveries).answer bsOk)

/-- LOAD_SLOT: the key bus delivers an AES or KMAC key to a cluster key slot. R264, R419, R422. -/
def execLoadSlot (h : BitVec 32) (cluster slot : BitVec 8) (s : State) : Host.Outcome State Fault Refusal :=
  .next (if s.zeroised then s.keyRefused bsZeroised
    else match s.byHandle h.toNat with
      | none => s.keyRefused bsBadHandle
      | some e =>
        if e.usage ≠ 2 ∧ e.usage ≠ 3 then s.keyRefused bsUsage
        else if 16 ≤ cluster.toNat ∨ 16 ≤ slot.toNat then s.keyRefused bsBadTarget
        else
          let s := { s with cores := { s.cores with
            keys := tset KeySlot.zero s.cores.keys (16 * cluster.toNat + slot.toNat) ⟨true, e.bytes⟩ } }
          ((s.wr (K.hlpKeySlotsLoaded cluster.toNat) (s.rd (K.hlpKeySlotsLoaded cluster.toNat) ||| 2 ^ slot.toNat)).bump
            K.ctrBinKeyDeliveries).answer bsOk)

/-- DESTROY: the slot is cleared and freed; keys already delivered stay. R419, R422. -/
def execDestroy (h : BitVec 32) (s : State) : Host.Outcome State Fault Refusal :=
  .next (s.service false fun s => match s.byHandle h.toNat with
    | none => s.answer bsBadHandle
    | some e => (s.setKeyEntry (h.toNat % 256) e.freed).answer bsOk)

/-! ### Images (R424 to R427, R430) -/

def imgType (b : List Byte) : Nat := leAt b 6 1
def imgSigner (b : List Byte) : Nat := leAt b 7 1
def imgSequence (b : List Byte) : Nat := leAt b 8 8
def imgRollback (b : List Byte) : Nat := leAt b 16 1
def imgAdvance (b : List Byte) : Bool := decide (bit (leAt b 17 1) 0 = 1)
def imgVersion (b : List Byte) : Nat := leAt b 18 2
def imgLength (b : List Byte) : Nat := leAt b 20 4
def imgTargets (b : List Byte) : Nat := leAt b 24 4
def imgDigest (b : List Byte) : List Byte := slice b 32 64
def imgKey (b : List Byte) : List Byte := slice b 96 57
def imgSignature (b : List Byte) : List Byte := slice b 160 114
def imgBody (b : List Byte) : List Byte := (b.drop 288).take (imgLength b)

/-- The most body bytes of an image type. R424. -/
def imgMax (ty : Nat) : Nat := if ty = 1 then 2 ^ 21 else if ty = 2 then 2 ^ 20 else if ty = 3 then 2 ^ 17 else 2 ^ 16

/-- The header follows R424. -/
def headerOk (b : List Byte) : Bool :=
  let ty := imgType b
  let rb := imgRollback b
  decide (288 ≤ b.length) && decide (leAt b 0 4 = 0x4D494843) && decide (leAt b 4 2 = 1) && decide (1 ≤ ty) && decide (ty ≤ 4)
    && decide (imgSigner b ≤ 5) && (decide (rb < 8) || decide (rb = 0xFF)) && decide (leAt b 17 1 ≤ 1)
    && decide (imgVersion b ≤ 256) && decide (imgLength b ≤ imgMax ty)
    && decide (imgTargets b < (if ty = 3 then 65536 else if ty = 4 then 16 else 1))
    && decide (leAt b 28 4 = 0) && decide (leAt b 153 7 = 0) && decide (leAt b 274 14 = 0)
    && (decide (imgSigner b ≠ 0) || (decide (ofLE (imgKey b) = 0) && decide (ofLE (imgSignature b) = 0)))

/-- The signer policy. R410, R425. -/
def signerOk (life ty signer : Nat) : Bool :=
  if life = 1 ∨ life = 4 then true
  else if life = 2 ∨ life = 3 then
    (if ty = 1 then decide (signer = 1) else if ty = 4 then decide (1 ≤ signer) else decide (2 ≤ signer))
  else false

/-- The six checks of an image, at the first failure its status; a public key of another hash is BAD_SIGNATURE (log entry 71). R425. -/
def State.imageStatus (s : State) (b : List Byte) : Nat :=
  let sg := imgSigner b
  if !headerOk b then bsBadImage
  else if !signerOk s.life (imgType b) sg then bsNotPermitted
  else
    let slot := sg - 2
    if sg ≠ 0 ∧ shake256 (imgKey b) 64 ≠ (if sg = 1 then s.rootHash else s.oemHash slot) then bsBadSignature
    else if 2 ≤ sg ∧ s.oemRevoked slot then bsKeyRevoked
    else if 2 ≤ sg ∧ ofLE (s.oemHash slot) = 0 then bsBadSignature
    else if sg ≠ 0 ∧ !ed448Verify (imgKey b) (ascii "CHATIA-IMG") (b.take 160) (imgSignature b) then bsBadSignature
    else if (imgBody b).length ≠ imgLength b ∨ shake256 (imgBody b) 64 ≠ imgDigest b then bsBadDigest
    else if imgRollback b ≠ 0xFF ∧ imgVersion b < s.rollbackValue (imgRollback b) then bsRollback
    else bsOk

/-- A measurement register extended. R430. -/
def State.extend (s : State) (i : Nat) (digest : List Byte) : State :=
  s.setOctets (K.binMR i) (shake256 (slice (s.octetsOf (K.binMR i)) 0 64 ++ digest) 64)

/-- An image verified: its status, counters, record, and its measurement, which waits while a quote is formed. R425, R430,
R432. -/
def State.verifyImage (s : State) (b : List Byte) : Nat × State :=
  let v := s.imageStatus b
  if v = bsOk then
    let s := s.bump K.ctrBinImageVerifyOk
    let i := imgType b - 1
    (v, if s.bin.quote.isSome then { s with bin := { s.bin with mrWait := s.bin.mrWait ++ [(i, imgDigest b)] } }
        else s.extend i (imgDigest b))
  else
    (v, ((s.bump K.ctrBinImageVerifyFail).when (decide (v = bsRollback)) (·.bump K.ctrBinRollbackRefused)).almanac 24 0x1201 5
      [(1, imgType b), (1, v), (8, imgSequence b)])

/-- VERIFY as other units ask for it: ZEROISED after zeroisation. R425, R435. -/
def State.verifyService (s : State) (b : List Byte) : Nat × State := if s.zeroised then (bsZeroised, s) else s.verifyImage b

/-- VERIFY: header and body of an image. R419, R425. -/
def execVerify (image : List (BitVec 8)) (s : State) : Host.Outcome State Fault Refusal :=
  .next (s.service false fun s =>
    let r := s.verifyImage image
    r.2.answer r.1)

/-- A selected image whose Advance flag is 1 begins to raise its rollback counter. R427. -/
def State.advanceRollback (s : State) (b : List Byte) : State :=
  let j := imgRollback b
  if imgAdvance b ∧ j < 8 ∧ s.rollbackValue j < imgVersion b then
    { s with bin := { s.bin with rollback := s.bin.rollback ++ [(j, imgVersion b)] } }
  else s

/-! ### Quotes (R431, R432) and the KWK export (R418) -/

/-- The 416 signed bytes of a quote. R431. -/
def State.quoteHead (s : State) (nonce : List Byte) (count : Nat) : List Byte :=
  toLE 4 0x54514843 ++ toLE 2 1 ++ toLE 1 s.life ++ toLE 1 (if s.variant = .a2s then 1 else 0) ++ s.deviceSerial
    ++ slice nonce 0 32 ++ toLE 8 (s.domainNs 0) ++ toLE 8 count
    ++ (List.range 8).flatMap (fun j => toLE 2 (s.rollbackValue j)) ++ toLE 8 (s.rd K.idConfigSequence)
    ++ (List.range 4).flatMap (fun i => slice (s.octetsOf (K.binMR i)) 0 64)
    ++ slice (s.octetsOf K.binAttestPublicKey) 0 57 ++ List.replicate 7 0#8

/-- QUOTE: the quote is formed and signed; measurements that waited for it follow. R419, R431, R432. -/
def execQuote (nonce : BitVec 256) (s : State) : Host.Outcome State Fault Refusal :=
  .next (s.service true fun s =>
    let n := s.bin.quotes + 1
    let h := s.quoteHead (toLE 32 nonce.toNat) n
    let q := h ++ ed448Sign s.attestSeed (ascii "CHATIA-QUOTE") h ++ List.replicate 14 0#8
    let s := (s.setOctets K.binQuote q).bump K.ctrBinQuotesIssued
    let wait := s.bin.mrWait
    let s := { s with bin := { s.bin with quotes := n, quote := none, mrWait := [] } }
    (wait.foldl (fun s x => s.extend x.1 x.2) s).answer bsOk q)

/-- A write of QuoteNonce, with its abort code: the Pilot then requests QUOTE. R431, R432. -/
def State.quoteNonce (s : State) (nonce : List Byte) : State :=
  if s.bin.quote.isSome then s.aborted Abort.busy
  else if s.zeroised then s.aborted (Abort.security bsZeroised)
  else if s.life = 0 ∨ s.life = 5 then s.aborted (Abort.security bsNotPermitted)
  else ({ s with bin := { s.bin with quote := some nonce } } : State).aborted Abort.ok

/-- QUOTE_NONCE_WRITE. -/
def execQuoteNonceWrite (nonce : BitVec 256) (s : State) : Host.Outcome State Fault Refusal :=
  .next (s.quoteNonce (toLE 32 nonce.toNat))

/-- KWK_EXPORT to a recipient's X448 public key; the base point is the 9 of R418's text (log entry 70). R418, R419. -/
def execKwkExport (recipient : BitVec 448) (s : State) : Host.Outcome State Fault Refusal :=
  .next (s.service false fun s =>
    if s.life ≠ 1 ∧ s.life ≠ 4 then s.answer bsNotPermitted
    else if !s.trngOk then s.answer bsRngFail
    else
      let r := toLE 56 recipient.toNat
      let e := s.randomBytes 56
      let pub := x448 e (toLE 56 9)
      let k := kmac256 (x448 e r) (ascii "KWKX" ++ pub ++ r ++ s.deviceSerial) 32 (ascii "CHATIA-KWX")
      let c := gcmSeal k (List.replicate 12 0#8) s.deviceSerial s.kwk
      let out := pub ++ c.1 ++ c.2
      let s := { s.tick with bin := { s.bin with recipient := none } }
      (((s.setOctets K.binKwkExport out).bump K.ctrBinKwkExports).almanac 24 0x120B 3 [(8, ofLE (r.take 8))]).answer bsOk out)

/-- A write of KwkExportRecipient in a session of a role (3 MANUFACTURER), with its abort code. R418. -/
def State.kwkRecipient (s : State) (key : List Byte) (role : Nat) : State :=
  if role < 3 ∨ (s.life ≠ 1 ∧ s.life ≠ 4) then s.aborted (Abort.security bsNotPermitted)
  else ({ s with bin := { s.bin with recipient := some key } } : State).aborted Abort.ok

/-- KWK_EXPORT_RECIPIENT_WRITE. -/
def execKwkExportRecipientWrite (key : BitVec 448) (role : Fin 4) (s : State) : Host.Outcome State Fault Refusal :=
  .next (s.kwkRecipient (toLE 56 key.toNat) role.val)

/-! ### Zeroisation and tamper (R433 to R435) -/

/-- Keys of a running helper operation are gone. R264. -/
def HOp.cutKey (o : HOp) : HOp := if o.started then { o with cut := true, key := [] } else o

/-- Every running operation that reads a key slot stops at its next 16-byte boundary, with what it has written. R264. -/
def State.cutOps (s : State) : State :=
  let s := (s.cores.ops.flatMap (·.2)).foldl State.stopOp s
  { s with cores := { s.cores with ops := tmap [] (fun _ l => l.map HOp.cutKey) s.cores.ops } }

/-- Zeroisation, with the model's number of its cause. R394, R435, R450, R485. -/
def State.zeroiseNow (s : State) (cause : Nat) : State :=
  let s := (s.bin.mrWait.foldl (fun s x => s.extend x.1 x.2) s).cutOps
  let s := { s with
    bin := { s.bin with drk := [], store := tmap KeyEntry.zero (fun _ e => e.freed) s.bin.store, zeroWait := none, quote := none
                        mrWait := [], recipient := none }
    px := { s.px with sas := tmap Sa.zero (fun _ a => { a with installed := false, key := [], salt := [] }) s.px.sas
                      zeroised := true }
    cores := { s.cores with keys := [] }
    dram := { s.dram with keys := [] }
    uda := { s.uda with sessions := [] } }
  let s := (List.range 16).foldl (fun s n => s.wr (K.hlpKeySlotsLoaded n) 0) s
  let s := (s.wr K.binBinnacleState 1).bump K.ctrBinZeroisations
  (s.almanac 24 0x1206 6 [(1, Config.zeroiseCause cause % 256)]).urgentFlush

/-- A life-cycle or rollback write is in progress. R413, R427. -/
def State.otpWriting (s : State) : Bool := s.bin.lcTarget.isSome || !s.bin.rollback.isEmpty

/-- A request to zeroise: it waits for an OTP write in progress, and one that waits absorbs a second, which is counted. R435. -/
def State.zeroise (s : State) (cause : Nat) : State :=
  if s.bin.zeroWait.isSome then s.bump K.ctrBinZeroisations
  else if s.otpWriting then { s with bin := { s.bin with zeroWait := some cause } }
  else s.zeroiseNow cause

/-- A detector's action is applied, then reported to the Safety Manager. R433, R504. -/
def State.tamperAct (s : State) (d : Nat) : State :=
  let a := s.rd (K.binTamperAction d)
  let s := s.reportFault 10 d
  if a = 2 then s.zeroise d else if a = 1 then s.sampleCause causeTamper else s

/-- A detector trips; its response waits for a life-cycle or rollback write in progress. R413, R433. -/
def State.tamperTrip (s : State) (d : Nat) : State :=
  let s := (s.bump K.ctrBinTamperEvents).almanac 24 0x1205 6 [(1, d), (1, s.rd (K.binTamperAction d))]
  if s.otpWriting then { s with bin := { s.bin with trips := s.bin.trips ++ [d] } } else s.tamperAct d

/-- TAMPER_TRIP. The DRAM detector trips when IntegrityFailures has risen by 16 within 1 s, and then counts anew; what the others
measure lies outside the model. R433. -/
def execTamperTrip (d : Fin 7) (s : State) : Host.Outcome State Fault Refusal :=
  let l := s.dram.failedAt.filter fun t => decide (s.now < t + 10 ^ 9)
  .next (if d.val ≠ 6 then s.tamperTrip d.val
    else if l.length < 16 then s
    else ({ s with dram := { s.dram with failedAt := [] } } : State).tamperTrip 6)

/-- ZEROISE: a write of Zeroise, 1 or 0. R435. -/
def execZeroise (v : Bool) (s : State) : Host.Outcome State Fault Refusal :=
  .next ((if v then s.zeroise 7 else s).aborted Abort.ok)

/-- What waited for an OTP write proceeds at its end: zeroisation, tamper responses, a reset. R413, R427, R435, R522. -/
def State.otpWritten (s : State) : State :=
  if s.otpWriting then s
  else
    let s := match s.bin.zeroWait with
      | some c => s.zeroiseNow c
      | none => s
    let trips := s.bin.trips
    (trips.foldl State.tamperAct { s with bin := { s.bin with trips := [] } }).resetProceeds

/-- A raw sample fails a health test; the third failure within 1 s trips the TRNG detector. R420. -/
def State.trngFail (s : State) : State :=
  let l := s.now :: s.bin.rngFails.filter fun t => decide (s.now < t + 10 ^ 9)
  let s := ({ s with bin := { s.bin with rngBad := true, rngFails := if 3 ≤ l.length then [] else l } } : State).bump
    K.ctrBinTrngHealthFailures
  let s := s.almanac 24 0x1207 5
  if 3 ≤ l.length then s.tamperTrip 5 else s

/-- TRNG_HEALTH_FAIL. R420. -/
def execTrngHealthFail (s : State) : Host.Outcome State Fault Refusal := .next s.trngFail

/-- TRNG_HEALTH_RECOVERY: 1,024 consecutive samples have passed. R420. -/
def execTrngHealthRecovery (s : State) : Host.Outcome State Fault Refusal :=
  .next { s with bin := { s.bin with rngBad := false } }

/-- A write of TamperAction, with its abort code: not weaker than the floor. R434, R436. -/
def State.tamperAction (s : State) (d v : Nat) : State :=
  if 2 < v ∨ v < s.tamperFloor d then s.aborted Abort.valueRange else (s.wrP (K.binTamperAction d) v).aborted Abort.ok

/-- TAMPER_ACTION_WRITE. -/
def execTamperActionWrite (d : Fin 7) (v : BitVec 8) (s : State) : Host.Outcome State Fault Refusal :=
  .next (s.tamperAction d.val v.toNat)

/-! ### Life cycle (R411 to R413) -/

/-- LifeCycleNonce drawn anew. R412. -/
def State.newLcNonce (s : State) : State := (s.setOctets K.binLifeCycleNonce (s.randomBytes 8)).tick

/-- The two signatures of ReturnAuthorisation verify. R412. -/
def State.returnAuthorised (s : State) : Bool :=
  let a := s.octetsOf K.binReturnAuthorisation
  let m := s.deviceSerial ++ slice (s.octetsOf K.binLifeCycleNonce) 0 8
  let good := fun (h : List Byte) (off : Nat) =>
    ed448Verify (toLE 57 (Config.publicKeyOf (ofLE h)).toNat) (ascii "CHATIA-RETURN") m (slice a off 114)
  good s.rootHash 0 && (List.range 4).any fun i => s.oemUsable i && good (s.oemHash i) 114

/-- A transition of *Life-cycle transitions* whose role and conditions hold. R411. -/
def State.transitionOk (s : State) (target role : Nat) : Bool :=
  if target = 5 then decide (s.life ≠ 5) && decide (2 ≤ role) && decide (slice (s.octetsOf K.binScrapConfirm) 0 16 = s.deviceSerial)
  else if s.life = 0 ∧ target = 1 then decide (3 ≤ role) && decide (ofLE s.rootHash ≠ 0) && decide (ofLE s.deviceSerial ≠ 0)
  else if s.life = 1 ∧ target = 2 then decide (3 ≤ role) && (List.range 4).any s.oemUsable
  else if s.life = 2 ∧ target = 3 then decide (3 ≤ role) && decide (2 ≤ s.boot.bankSigner) && decide (s.boot.bankSigner ≤ 5)
  else if s.life = 3 ∧ target = 4 then decide (2 ≤ role) && s.returnAuthorised
  else false

/-- A write of LifeCycleRequest in a session of a role, with its abort code. R411 to R413. -/
def State.lifeRequest (s : State) (target role : Nat) : State :=
  if role < 2 then s.newLcNonce.aborted Abort.role
  else if 5 < target then s.newLcNonce.aborted Abort.valueRange
  else if s.bin.lcTarget.isSome then s.newLcNonce.aborted Abort.busy
  else if !s.transitionOk target role then s.newLcNonce.aborted (Abort.security bsNotPermitted)
  else if target = 1 ∧ !s.trngOk then s.newLcNonce.aborted (Abort.security bsRngFail)
  else
    let s := if target = 1 then
        ((List.range 8).foldl (fun s i => s.otpSet (8 + i) (leAt (s.randomBytes 32) (4 * i) 4)) s).tick
      else s
    let s := ({ s with bin := { s.bin with lcTarget := some target } } : State)
    (if s.zeroised then s else s.wr K.binBinnacleState 2).aborted Abort.ok

/-- LIFE_CYCLE_REQUEST. -/
def execLifeCycleRequest (target : BitVec 8) (role : Fin 4) (s : State) : Host.Outcome State Fault Refusal :=
  .next (s.lifeRequest target.toNat role.val)

/-- The OTP bits of a transition: groups 0 to target - 1, or all of them and DeviceSeed for SCRAPPED. R413. -/
def State.writeLife (s : State) (target : Nat) : State :=
  if target = 5 then (List.range 16).foldl (fun s w => s.otpSet w 0xFFFFFFFF) s
  else (List.range target).foldl (fun s w => s.otpSet w 0xFFFFFFFF) s

/-- LC_WRITE_DONE: a transition write completes in AON; the new state takes effect at the next reset. R413. -/
def execLcWriteDone (s : State) : Host.Outcome State Fault Refusal :=
  match s.bin.lcTarget with
  | none => .next s
  | some t =>
    let s := { s.writeLife t with bin := { (s.writeLife t).bin with lcTarget := none } }
    let s := if s.zeroised then s else s.wr K.binBinnacleState 0
    .next ((s.almanac 24 0x1204 3 [(1, s.life), (1, t)]).otpWritten)

/-- Bits of rollback counter j set from its value up to a value. R427. -/
def State.setRollback (s : State) (j v : Nat) : State :=
  (List.range 256).foldl (fun s b =>
    if s.rollbackValue j < v ∧ bit (s.otpWord (168 + 8 * j + b / 32)) (b % 32) = 0 then s.otpSet (168 + 8 * j + b / 32) (2 ^ (b % 32))
    else s) s

/-- ROLLBACK_WRITE_DONE: the bits of the advance under way are written. R427. -/
def execRollbackWriteDone (s : State) : Host.Outcome State Fault Refusal :=
  match s.bin.rollback with
  | [] => .next s
  | (j, v) :: r =>
    let s := (({ s with bin := { s.bin with rollback := r } } : State).setRollback j v).showOtp
    .next (((s.bump K.ctrBinRollbackAdvances).almanac 24 0x1203 2 [(1, j), (2, v)]).otpWritten)

/-! ### OTP through the dictionary (R414) -/

/-- The role a life-cycle state asks for a write of OTP. R411, R414. -/
def State.otpRole (s : State) : Nat := if s.life = 3 then 2 else 3

/-- A revocation leaves no unrevoked OEM key. R414. -/
def State.revokesLast (s : State) (v : Nat) : Bool :=
  (List.range 4).any s.oemUsable && !(List.range 4).any fun i => s.oemUsable i && decide (bit v i = 0)

/-- OEM keys revoked: OTP bits set, one record for each new one. R414, R438. -/
def State.revoke (s : State) (v : Nat) : State :=
  let old := s.otpWord 160
  let s := (s.otpSet 160 v).showOtp
  (List.range 4).foldl (fun s i => if bit v i = 1 ∧ bit old i = 0 then s.almanac 24 0x1202 3 [(1, i)] else s) s

/-- A write of OemKeyRevoke in a session of a role, with its abort code. R414, R436. -/
def State.oemRevoke (s : State) (v role : Nat) : State :=
  if (s.life ≠ 2 ∧ s.life ≠ 3) then s.aborted (Abort.security bsNotPermitted)
  else if role < s.otpRole then s.aborted Abort.role
  else if 16 ≤ v then s.aborted Abort.reservedBits
  else if s.revokesLast v then s.aborted Abort.valueRange
  else (s.revoke v).aborted Abort.ok

/-- OEM_KEY_REVOKE. -/
def execOemKeyRevoke (v : BitVec 32) (role : Fin 4) (s : State) : Host.Outcome State Fault Refusal :=
  .next (s.oemRevoke v.toNat role.val)

/-- A life-cycle state in which a word of OTP may be written through the OTP domain. R414. -/
def otpWritable (w life : Nat) : Bool :=
  if 16 ≤ w ∧ w < 96 then decide (life = 0)
  else if 96 ≤ w ∧ w < 160 then decide (life = 1)
  else if w = 160 then decide (life = 2) || decide (life = 3)
  else if (232 ≤ w ∧ w < 240) ∨ (256 ≤ w ∧ w < 384) then decide (life = 1) || decide (life = 2)
  else if 240 ≤ w ∧ w < 244 then decide (life = 0)
  else false

/-- A WRITE to the OTP domain sets bits, with its OpStatus. R414, R471. -/
def State.otpWrite (s : State) (w v role : Nat) : State :=
  if !otpWritable w s.life ∨ role < s.otpRole then s.status opRefused
  else if w = 160 then (if 16 ≤ v ∨ s.revokesLast v then s.status opRefused else (s.revoke v).status 0)
  else ((s.otpSet w v).showOtp).status 0

/-- OTP_WRITE. -/
def execOtpWrite (w : Fin 512) (v : BitVec 32) (role : Fin 4) (s : State) : Host.Outcome State Fault Refusal :=
  .next (s.otpWrite w.val v.toNat role.val)

/-- A persistent table domain's staged item. R473. -/
def State.domItem (s : State) (d pos : Nat) : List Byte := tget [] (tget [] s.uda.domains d) pos
def State.setDomItem (s : State) (d pos : Nat) (b : List Byte) : State :=
  { s with uda := { s.uda with domains := tmod [] s.uda.domains d fun l => tset [] l pos b } }

/-- KEY_BLOB_WRITE: a blob of the configuration bank, loaded at boot. R417, R471. -/
def execKeyBlobWrite (pos : Fin 256) (blob : BitVec 512) (s : State) : Host.Outcome State Fault Refusal :=
  .next (((s.setDomItem 0x70C2 pos.val (toLE 64 blob.toNat)).bump K.cmtStagedWrites).status 0)

/-! ### Boot (R428) -/

/-- Pilot pair i is released: its lower core runs, from the boot ROM's first instruction, and its watchdog counts from here. R12,
R428, R507. -/
def State.releasePilot (s : State) (pair : Nat) : State :=
  let s := s.setThread (576 + 2 * pair) { Thread.zero with st := .ready }
  { s with saf := { s.saf with kicks := tset 0 s.saf.kicks pair s.now } }

/-- BINNACLE_BOOT: OTP and life cycle, DRK and its public keys, TRNG start-up tests, nonces, release of Pilot pair 0. R410, R412,
R413, R415, R420, R428, R431. -/
def execBinnacleBoot (trng : Bool) (s : State) : Host.Outcome State Fault Refusal :=
  .next (if s.boot.asserted ∨ s.boot.step ≠ 1 then s
    else
      let m := s.lifeMap
      let s := (s.wr K.binLifeCycle (lifeOf m).1).when (!(lifeOf m).2) (·.almanac 24 0x120A 7 [(1, m)])
      let s := s.showOtp
      let s := { s with bin := { s.bin with drk := s.formDrk, bootNonce := s.randomBytes 16, rngBad := !trng } }
      let s := s.tick.newLcNonce
      let s := s.when (!trng) State.trngFail
      let s := if s.bin.drk.isEmpty then s
        else
          let a := ed448Public s.attestSeed
          ((s.setOctets K.binDevIdPublicKey (ed448Public s.devIdSeed)).setOctets K.binAttestPublicKey a).setOctets
            K.binAttestCertificate (ed448Sign s.devIdSeed (ascii "CHATIA-QUOTE") a)
      let s := { s with boot := { s.boot with step := 2 } }
      s.releasePilot 0)

end Sys2Proof.Machine
end

