-- ==== Sys2Proof/Machine/Memory.lean ====
section
/-! DEFINITION. Loads and stores (R208 to R212, R240), the store buffer (R190, R191), blocking loads (R188) and the memory errors they
meet (R177). -/

namespace Sys2Proof.Machine

/-! ### Reading memory past the store buffer (R190) -/

/-- A store and an access share a byte. -/
def SbEntry.overlaps (e : SbEntry) (a n : Nat) : Bool := decide (e.addr < a + n) && decide (a < e.addr + e.data.length)

/-- What a read of a thread's data RAM gives: bytes (with a mark for a forward), the bad word it meets, or a partial overlap. -/
inductive RamRead where
  | bytes (bs : List Byte) (forwarded : Bool)
  | bad (word : Nat)
  | partial_
deriving DecidableEq, Repr

/-- The first keys of the data RAMs a thread's loads and stores reach: its core's, and in lockstep the checker's. R195, R197. -/
def State.ramKeys (s : State) (t : Nat) : List Nat :=
  if t < 512 then (s.ramCopies (t / 8)).map fun c => memKey .coreData (65536 * c) else [memKey (ramBase t).1 (ramBase t).2]

/-- The word of a span of a thread's data RAM that holds an uncorrectable error, in either core of a pair. R177, R197. -/
def State.badRam (s : State) (t a n : Nat) : Option Nat :=
  (s.ramKeys t).findSome? fun b => (s.badIn (b + a) n).map fun k => (k - b) / 4

/-- A read of `n` bytes of the data RAM of a thread; only a packet core has a store buffer. R177, R190. -/
def State.readRam (s : State) (t a n : Nat) : RamRead :=
  let b := ramBase t
  let mem : RamRead := match s.badRam t a n with
    | some w => .bad w
    | none => .bytes (s.loadBytes b.1 (b.2 + a) n) false
  if 512 ≤ t then mem
  else match (s.core (t / 8)).sb.reverse.find? (·.overlaps a n) with
    | none => mem
    | some e => if e.addr ≤ a ∧ a + n ≤ e.addr + e.data.length then .bytes (slice e.data (a - e.addr) n) true else .partial_

/-- The MemoryId of a thread's data RAM. R495. -/
def ramId (t : Nat) : Nat := if t < 512 then 3 else if t < 576 then 9 else 6

/-- The correctable errors that a read of a thread's data RAM meets. R177. -/
def State.fixRam (s : State) (t a n : Nat) : State :=
  (s.ramKeys t).foldl (fun s b => s.correct t (ramId t) (b + a) n fun k => (k - b) / 4) s

/-- A read that the store buffer forwards, or one of memory. R177, R190. -/
def State.noteRead (s : State) (t a n : Nat) (forwarded : Bool) : State :=
  if forwarded then s.bumpCore t K.ctrCoreLoadForwards else s.fixRam t a n

/-- The thread is rewound to a load that overlaps a store in part. R190. -/
def State.holdOverlap (s : State) (t a n : Nat) : State :=
  ((s.squash t true).park t (.held (.overlap a n))).bumpCore t K.ctrCoreOverlapHolds

/-- The bytes of an image in data RAM that an instruction reads as LD reads doublewords; `k` goes on with them. R246. -/
def State.withImage (s : State) (t a : Nat) : Nat → List Byte → (State → List Byte → State) → State
  | 0, got, k => k s got
  | n + 1, got, k => match s.readRam t a 8 with
    | .bytes bs f => (s.noteRead t a 8 f).withImage t (a + 8) n (got ++ bs) k
    | .bad w => s.eccFault t (ramId t) w
    | .partial_ => s.holdOverlap t a 8

/-- The fault of an image of `n` bytes that is not 8-byte aligned or not wholly in data RAM. R246, R247. -/
def imageFault (t a n : Nat) : Option (Nat × Nat) :=
  if ramTop t < a + n then some (excAccess, causeUnmapped)
  else if a % 8 ≠ 0 then some (excMisaligned, 0)
  else none

/-! ### Loads (R188, R240) -/

/-- The registers after `n` loaded bytes. R203, R240. -/
def Thread.loaded (x : Thread) (rd n : Nat) (signed : Bool) (bs : List Byte) : Thread :=
  let v := ofLE bs
  if n = 8 then (x.setReg rd (BitVec.ofNat 32 v)).setReg (rd + 1) (BitVec.ofNat 32 (v / 2 ^ 32))
  else x.setReg rd (if signed then BitVec.ofInt 32 (toSigned (8 * n) v) else BitVec.ofNat 32 v)

/-- A load's data is in and it retires. -/
def State.finishLoad (s : State) (t rd n : Nat) (signed : Bool) (bs : List Byte) : State :=
  (s.setThread t ((s.thread t).loaded rd n signed bs)).done t

/-- A load of `n` bytes from an address that passes its checks. R190, R208 to R211. -/
def State.loadFrom (s : State) (t rd a n : Nat) (signed : Bool) : State :=
  let x := s.thread t
  match regionAtAddr t a with
  | some (.ram, _, _) => match s.readRam t a n with
    | .bytes bs f => (s.noteRead t a n f).finishLoad t rd n signed bs
    | .bad w => s.eccFault t (ramId t) w
    | .partial_ => s.holdOverlap t a n
  | some (.window, lo, _) => s.readWindow t (a - lo) n fun s => s.finishLoad t rd n signed (slice x.window (a - lo) n)
  | some (.desc, lo, _) => s.finishLoad t rd n signed (slice x.descBytes (a - lo) n)
  | some (.shared, lo, _) =>
    let off := 262144 * clusterOf t + (a - lo)
    let s := s.correct t 5 (memKey .shared off) n fun k => (k - memKey .shared (262144 * clusterOf t)) / 4
    let bad := (s.badIn (memKey .shared off) n).map fun k => (5, (k - memKey .shared (262144 * clusterOf t)) / 4)
    s.park t (.blocked (.load ⟨rd, signed, n, s.loadBytes .shared off n, bad⟩))
  | some (.atomic, lo, _) =>
    (s.park t (.blocked (.load ⟨rd, signed, n, [], none⟩))).sendDx t (.load (a - lo) n)
  | some (.dict, _, _) => s.park t (.blocked (.dictLoad a rd))
  | _ => s

/-- The address of a load or store. R240. -/
def State.address (s : State) (t : Nat) (ra : Fin 32) (imm : BitVec 16) : Nat := (s.reg t ra.val + imm.signExtend 32).toNat

/-- What an access waits for without issuing: RP3 still holds an unread reply (R211), or 8 stores of the core lie before the RAM
(R191). -/
def State.accessHold (s : State) (t a n : Nat) (store : Bool) : Option TState :=
  if s.accessFault t a n store ≠ none then none
  else match regionAtAddr t a with
    | some (.dict, _, _) => s.rpBusy t 3
    | some (.ram, _, _) => if store ∧ t < 512 ∧ 8 ≤ (s.core (t / 8)).sb.length then some (.held .storeFull) else none
    | _ => none

/-- A load instruction. R240. -/
def State.load (s : State) (t w : Nat) (rd ra : Fin 32) (imm : BitVec 16) (n : Nat) (signed : Bool) :
    Host.Outcome State Fault Refusal :=
  s.issueOr t w (fun s => s.accessHold t (s.address t ra imm) n false) fun s =>
    let a := s.address t ra imm
    match s.accessFault t a n false with
      | some (code, cause) => s.fault_ t code cause a
      | none => s.loadFrom t rd.val a n signed

/-! ### Stores (R190, R191, R240) -/

/-- The word of a thread's data RAM in error that a store of part of it meets. R177, R197. -/
def State.mergeRam (s : State) (t a : Nat) (bs : List Byte) : Option Nat := if bs.length < 4 then s.badRam t a bs.length else none

/-- The correctable error that a store of part of a word meets. R177. -/
def State.mergeFix (s : State) (t a : Nat) (bs : List Byte) : State := if bs.length < 4 then s.fixRam t a bs.length else s

/-- An uncorrectable error a merging store meets: against the storing thread while it holds the item, else a record alone. R177. -/
def State.mergeFault (s : State) (t memory word : Nat) (held : Bool) : State :=
  if held then s.eccFault t memory word else s.almanac (originOf t) 0x0803 4 [(1, memory), (4, word), (2, t)]

/-- The bytes a store writes. -/
def Thread.stored (x : Thread) (rd n : Nat) : List Byte :=
  toLE n ((x.reg rd).toNat + (if n = 8 then (x.reg (rd + 1)).toNat * 2 ^ 32 else 0))

/-- A store of bytes to an address that passes its checks. R190, R191, R211, R284. -/
def State.storeTo (s : State) (t a : Nat) (bs : List Byte) : State :=
  let x := s.thread t
  match regionAtAddr t a with
  | some (.ram, _, _) =>
    if t < 512 then
      let c := s.core (t / 8)
      (s.setCore (t / 8) { c with sb := c.sb ++ [⟨a, bs, t, x.seq⟩] }).done t
    else match s.mergeRam t a bs with
      | some w => s.mergeFault t (ramId t) w true
      | none => ((s.mergeFix t a bs).storeRam t a bs).done t
  | some (.window, lo, _) => s.writeWindow t (a - lo) bs.length true fun s =>
    (s.setThread t ((s.thread t).windowPut (a - lo) bs)).done t
  | some (.shared, lo, _) =>
    let off := 262144 * clusterOf t + (a - lo)
    if bs.length < 4 ∧ (s.badIn (memKey .shared off) bs.length).isSome then s.mergeFault t 5 ((a - lo) / 4) true
    else
      let s := if bs.length < 4 then s.correct t 5 (memKey .shared off) bs.length fun _ => (a - lo) / 4 else s
      (s.storeClean .shared off bs).done t
  | some (.atomic, lo, _) => (s.sendDx t (.store (a - lo) bs)).done t
  | some (.dict, _, _) => s.park t (.blocked (.dictStore a (BitVec.ofNat 64 (ofLE bs))))
  | _ => s

/-- A store instruction. R240. -/
def State.store (s : State) (t w : Nat) (rd ra : Fin 32) (imm : BitVec 16) (n : Nat) : Host.Outcome State Fault Refusal :=
  s.issueOr t w (fun s => s.accessHold t (s.address t ra imm) n true) fun s =>
    let a := s.address t ra imm
    match s.accessFault t a n true with
      | some (code, cause) => s.fault_ t code cause a
      | none => s.storeTo t a ((s.thread t).stored rd.val n)

/-! ### The instructions (R240) -/

/-- LB. R240. -/
def execLb (t : Fin 580) (rd ra : Fin 32) (imm : BitVec 16) (s : State) : Host.Outcome State Fault Refusal :=
  s.load t.val (wordI 0x10 rd ra imm) rd ra imm 1 true

/-- LBU. R240. -/
def execLbu (t : Fin 580) (rd ra : Fin 32) (imm : BitVec 16) (s : State) : Host.Outcome State Fault Refusal :=
  s.load t.val (wordI 0x11 rd ra imm) rd ra imm 1 false

/-- LH. R240. -/
def execLh (t : Fin 580) (rd ra : Fin 32) (imm : BitVec 16) (s : State) : Host.Outcome State Fault Refusal :=
  s.load t.val (wordI 0x12 rd ra imm) rd ra imm 2 true

/-- LHU. R240. -/
def execLhu (t : Fin 580) (rd ra : Fin 32) (imm : BitVec 16) (s : State) : Host.Outcome State Fault Refusal :=
  s.load t.val (wordI 0x13 rd ra imm) rd ra imm 2 false

/-- LW. R240. -/
def execLw (t : Fin 580) (rd ra : Fin 32) (imm : BitVec 16) (s : State) : Host.Outcome State Fault Refusal :=
  s.load t.val (wordI 0x14 rd ra imm) rd ra imm 4 false

/-- LD. R240. -/
def execLd (t : Fin 580) (rd ra : Fin 32) (imm : BitVec 16) (s : State) : Host.Outcome State Fault Refusal :=
  s.load t.val (wordI 0x15 rd ra imm) rd ra imm 8 false

/-- SB. R240. -/
def execSb (t : Fin 580) (rd ra : Fin 32) (imm : BitVec 16) (s : State) : Host.Outcome State Fault Refusal :=
  s.store t.val (wordI 0x18 rd ra imm) rd ra imm 1

/-- SH. R240. -/
def execSh (t : Fin 580) (rd ra : Fin 32) (imm : BitVec 16) (s : State) : Host.Outcome State Fault Refusal :=
  s.store t.val (wordI 0x19 rd ra imm) rd ra imm 2

/-- SW. R240. -/
def execSw (t : Fin 580) (rd ra : Fin 32) (imm : BitVec 16) (s : State) : Host.Outcome State Fault Refusal :=
  s.store t.val (wordI 0x1A rd ra imm) rd ra imm 4

/-- SD. R240. -/
def execSd (t : Fin 580) (rd ra : Fin 32) (imm : BitVec 16) (s : State) : Host.Outcome State Fault Refusal :=
  s.store t.val (wordI 0x1B rd ra imm) rd ra imm 8

/-! ### What follows them -/

/-- A thread's load still crosses to DX, or its data stands behind other events on the way back. R18, R284. -/
def State.loadCrosses (s : State) (t : Nat) : Bool :=
  !s.arrives t .loaded || (s.sent t).any fun m => match m with
    | .load _ _ => true
    | _ => false

/-- BLOCKING_LOAD_DATA: the data of a blocking load is sampled in the cluster: the load retires, or meets an uncorrectable error.
R177, R188, R284, R286. -/
def execBlockingLoadData (t : Fin 580) (s : State) : Host.Outcome State Fault Refusal :=
  .next (match (s.thread t.val).st, s.loadCrosses t.val with
    | .blocked (.load l), false =>
      let s := s.takeFromDx t.val .loaded
      match l.bad with
      | some (m, w) => s.eccFault t.val m w
      | none => s.finishLoad t.val l.rd l.size l.signed l.data
    | _, _ => s)

/-- A HELD thread whose condition the store buffer no longer meets is READY. R190, R191. -/
def sbRelease (sb : List SbEntry) (x : Thread) : Thread :=
  match x.st with
  | .held (.overlap a n) => if sb.any (·.overlaps a n) then x else { x with st := .ready }
  | .held .storeFull => if sb.length < 8 then { x with st := .ready } else x
  | _ => x

/-- STORE_BUFFER_DRAIN: the oldest store of a core is written to its data RAM. R177, R190, R191. -/
def execStoreBufferDrain (c : Fin 64) (s : State) : Host.Outcome State Fault Refusal :=
  let k := s.core c.val
  match k.sb with
  | [] => .next s
  | e :: r =>
    let s := s.setCore c.val { k with sb := r }
    let s := match s.mergeRam e.tid e.addr e.data with
      | some w =>
        let x := s.thread e.tid
        s.mergeFault e.tid 3 w (x.item.isSome && (decide (x.seq = e.seq) || (match x.saved with
          | some v => decide (v.seq = e.seq)
          | none => false)))
      | none => (s.mergeFix e.tid e.addr e.data).storeRam e.tid e.addr e.data
    .next ((List.range 8).foldl (fun s i => s.setThread (8 * c.val + i) (sbRelease r (s.thread (8 * c.val + i)))) s)

/-- HELPER_REFUSAL_HOLD_END: the 4-cycle hold after a helper's refusal ends. R192. -/
def execHelperRefusalHoldEnd (t : Fin 512) (s : State) : Host.Outcome State Fault Refusal :=
  .next (if (s.thread t.val).st = .held .refusal then s.park t.val .ready else s)

end Sys2Proof.Machine
end

