-- ==== Sys2Proof/Machine/Helpers.lean ====
section
/-! DEFINITION. The cluster helpers (11_helpers.md, R252 to R271): MFC and MTC, the operations' acceptance, start and completion,
and the key slots they use. MFC and MTC of a barrel thread reach the units of chapter 15, in Barrel.lean. -/

namespace Sys2Proof.Machine

/-! ### Registers (R253, R262, R265, R266, R268) -/

/-- The operand registers an operation latches. R253, R255. -/
def latchedRegs (n fn : Nat) : List Nat :=
  if n = 0 then
    if fn = 1 then [0, 1, 2, 3, 4, 5, 6, 7, 8] else if fn = 2 then [0, 1, 2, 3, 4, 5, 6, 7, 8, 0x10, 0x11, 0x12, 0x13]
    else if fn = 3 then [2, 3, 4, 5, 6, 7, 8] else if fn = 0x14 then [0, 2, 4, 5, 9]
    else if fn = 0x10 ∨ fn = 0x11 then [0, 2, 4, 9] else [0, 2, 4]
  else if n = 1 then
    if fn = 7 then [0, 2, 3, 4, 5, 6, 7, 8, 9] else if fn = 0x10 then [0, 2, 5] else if fn = 0x11 then [2, 5, 0xA, 0xB] else [0, 2]
  else if n = 2 then
    if fn = 2 then List.range 16 else if fn = 3 then List.range 10 ++ [0x10, 0x11] else List.range 10 ++ [0x10]
  else [0, 2, 3]

/-- The registers an operation writes besides STATUS. R255. -/
def resultRegs (n fn : Nat) : List Nat :=
  if n = 0 then (if fn = 1 ∨ fn = 3 then [0x10, 0x11, 0x12, 0x13] else if fn = 2 then [] else (List.range 16).map (0x20 + ·))
  else if n = 1 then [0x20, 0x21]
  else if n = 2 then (if fn = 1 then [0x20, 0x21, 0x22] else if fn = 2 then [0x20, 0x21] else [])
  else [0x20, 0x21]

/-- An uncorrectable error in a helper register. R253. -/
def State.regEcc (s : State) (t k : Nat) : State :=
  let n := clusterOf t
  ((s.bump (K.ctrHlpRegEccUncorrectable n)).almanac (originOf t) 0x0B01 4
    [(1, n), (1, k % 256 / 64), (1, k % 64), (2, t)]).resetThread t excEcc

/-- The correctable errors of registers that are read: corrected and counted. R253. -/
def State.regFix (s : State) (t : Nat) (ks : List Nat) : State :=
  let x := s.thread t
  let n := (x.hfix.filter (· ∈ ks)).length
  if n = 0 then s
  else (s.setThread t { x with hfix := x.hfix.filter (· ∉ ks) }).corrected (K.ctrHlpRegEccCorrected (clusterOf t)) n

/-- A register that is PENDING holds back the MFC that names it. R188, R258. -/
def State.helperHold (s : State) (t n x : Nat) : Option TState :=
  let th := s.thread t
  if hkey (b2n th.second) n x ∈ th.hpend then some (.blocked (.helper n x)) else none

/-- MFC of a packet thread. R248, R253, R258. -/
def State.mfcHelper (s : State) (t r n x : Nat) : State :=
  let th := s.thread t
  let k := hkey (b2n th.second) n x
  if k ∈ th.hbad then s.regEcc t k else (s.regFix t [k]).writeReg t r (th.hreg k)

/-- MTC of a packet thread. R248, R253. -/
def State.mtcHelper (s : State) (t r n x : Nat) : State :=
  let th := s.thread t
  (s.setThread t (th.setHreg (hkey (b2n th.second) n x) (th.reg r))).done t

/-! ### Acceptance (R255 to R257, R192) -/

/-- Operations a helper holds. R256. -/
def helperCapacity (n : Nat) : Nat := if n < 2 then 4 else if n = 2 then 16 else 2

/-- The refusal counter of a helper. R270. -/
def refusalKey (c n : Nat) : Nat :=
  if n = 0 then K.ctrHlpCryptoRefusals c else if n = 1 then K.ctrHlpCrcRefusals c else if n = 2 then K.ctrHlpLookupRefusals c
  else K.ctrHlpPatternRefusals c

def State.ops (s : State) (c : Nat) : List HOp := tget [] s.cores.ops c
def State.setOps (s : State) (c : Nat) (l : List HOp) : State := { s with cores := { s.cores with ops := tset [] s.cores.ops c l } }

/-- The helpers of a cluster are under a helper slice. R499. -/
def State.helperSlice (s : State) (n : Nat) : Bool :=
  match s.snd.slice with
  | some (c, ph) => decide (ph = 2) && decide (c / 4 = n)
  | none => false

/-- A helper refuses an operation: it is full, it holds one of the same thread and bank, or it is under test. R256, R499. -/
def State.refuses (s : State) (t n bank : Nat) : Bool :=
  let l := (s.ops (clusterOf t)).filter fun o => decide (o.helper = n)
  decide (helperCapacity n ≤ l.length) || s.helperSlice (clusterOf t) || l.any fun o => decide (o.tid = t) && decide (o.bank = bank)

/-- The latched operation of a thread. -/
def Thread.latch (x : Thread) (t bank n fn : Nat) : HOp :=
  let regs := (latchedRegs n fn).foldl (fun l r => tset 0#32 l r (x.hreg (hkey bank n r))) []
  ⟨t, bank, n, fn, regs, false, [], false, none, none, []⟩

/-- HOP: the operation is refused and the thread HELD, or it is accepted with its operands latched and its results PENDING; `go`
is what leaves at once for another island. R192, R253, R255, R256. -/
def State.hop (s : State) (t w : Nat) (n fn : Nat) (go : State → HOp → State × HOp) (then_ : State → State := id) :
    Host.Outcome State Fault Refusal :=
  s.issue t w fun s =>
    let x := s.thread t
    let bank := b2n x.second
    if s.refuses t n bank then
      (((s.squash t true).park t (.held .refusal)).bumpCore t K.ctrCoreHelperRetries).bump (refusalKey (clusterOf t) n)
    else match (latchedRegs n fn).find? fun r => decide (hkey bank n r ∈ x.hbad) with
      | some r => s.regEcc t (hkey bank n r)
      | none =>
        let y := go (s.regFix t ((latchedRegs n fn).map (hkey bank n))) (x.latch t bank n fn)
        let s := y.1.setOps (clusterOf t) (y.1.ops (clusterOf t) ++ [y.2])
        let z := s.thread t
        then_ ((s.setThread t { z with hpend := z.hpend ++ (resultRegs n fn ++ [0x3F]).map (hkey bank n) }).done t)

/-! ### Completion (R258) -/

/-- A status word. -/
def helperStatus (code table : Nat) : Word := BitVec.ofNat 32 (table * 256 + code)

/-- Values for result registers whose value the manual does not state. Log entry 33. -/
def State.freeRegs (s : State) : List Nat → State × List (Nat × Word)
  | [] => (s, [])
  | r :: l =>
    let y := s.tick.freeRegs l
    (y.1, (r, BitVec.ofNat 32 (s.free (2 ^ 32))) :: y.2)

/-- Result registers and STATUS are written, PENDING clears and the completion event is set in the operation's bank. R189, R258, R260. -/
def State.writeResults (s : State) (o : HOp) (out : List (Nat × Word)) : State :=
  let x := s.thread o.tid
  let x := out.foldl (fun x e => x.setHreg (hkey o.bank o.helper e.1) e.2) x
  let x := { x with hpend := x.hpend.filter fun k => decide (k / 64 ≠ hkey o.bank o.helper 0 / 64) }
  let s := (s.setThread o.tid x).pend o.tid (o.bank = 1) 0x40#7
  let y := s.thread o.tid
  match y.st with
  | .blocked (.helper n _) => if n = o.helper ∧ b2n y.second = o.bank then s.park o.tid .ready else s
  | _ => s

/-- The counts of a completed operation. R270. -/
def State.countOp (s : State) (o : HOp) : State :=
  let c := clusterOf o.tid
  if o.helper = 0 then (s.bump (K.ctrHlpCryptoOps c)).bump (K.ctrHlpCryptoBytes c) (o.reg 2 + o.reg 4)
  else if o.helper = 1 then (s.bump (K.ctrHlpCrcOps c)).bump (K.ctrHlpCrcBytes c) (o.reg 2)
  else if o.helper = 2 then
    s.bump (if o.fn = 1 then K.ctrHlpLookups c else if o.fn = 2 then K.ctrHlpRuleSearches c else K.ctrHlpBrambleWrites c)
  else s.bump (K.ctrHlpPatternScans c)

/-- Records of ECC_ERROR and AUTH_FAIL. The first ECC_ERROR of an interval is the one that is counted. R258, R263. -/
def State.noteStatus (s : State) (o : HOp) (code space : Nat) : State :=
  let c := clusterOf o.tid
  if code = hsEcc then
    (s.when (s.isFirst 0x0B02 c) (·.bump (K.ctrHlpSourceEccErrors c))).almanacFirst (1 + c) 0x0B02 4 c
      [(1, c), (1, o.helper), (1, space)]
  else if code = hsAuthFail then
    (s.bump (K.ctrHlpAuthFail c)).almanacFirst (1 + c) 0x0B03 3 c [(1, c), (1, o.reg 5)]
  else s

/-- An operation completes: it leaves its helper, and its registers are written. -/
def State.complete_ (s : State) (o : HOp) (code table space : Nat) (out : List (Nat × Word)) : State :=
  let c := clusterOf o.tid
  let s := s.setOps c ((s.ops c).filter (· ≠ o))
  ((s.countOp o).noteStatus o code space).writeResults o (out ++ [(0x3F, helperStatus code table)])

/-- An operation completes with a status that leaves its result registers unstated. -/
def State.completeBad (s : State) (o : HOp) (code space : Nat) : State :=
  let s := match (if code = hsEcc ∧ space = 3 then s.opDesc o else none) with
    | some d => s.cellEcc d.firstCell.toNat
    | none => s
  let y := s.freeRegs (resultRegs o.helper o.fn)
  y.1.complete_ o code 0 space y.2

/-- A byte string as result registers from x upward. -/
def asRegs (x n : Nat) (bs : List Byte) : List (Nat × Word) :=
  (List.range n).map fun i => (x + i, BitVec.ofNat 32 (leAt bs (4 * i) 4))

/-- The correctable errors of a source that is read. R177, R304. -/
def State.fixSrc (s : State) (o : HOp) (a n : Nat) : State :=
  let off := addrOff a
  if addrSpace a = 0 then s.fixRam o.tid off n
  else if addrSpace a = 1 then s.fixWindow o.tid off n
  else if addrSpace a = 2 then
    let b := memKey .shared (262144 * clusterOf o.tid)
    s.correct o.tid 5 (b + off) n fun k => (k - b) / 4
  else match s.opDesc o with
    | some d =>
      let h := d.firstCell.toNat
      (s.readLinks h ownOru).fixCells ((List.range n).map fun i => (s.chain h).getD ((off + i) / 256) noCell)
    | none => s

/-! ### Crypto helper (R262 to R264) -/

/-- GCM_ENC, GCM_DEC and GMAC. R262 to R264. -/
def State.finishGcm (s : State) (o : HOp) : State :=
  let bad := s.gcmOperands o
  let aad := o.reg 3
  let src := o.reg 0
  if bad ≠ hsOk then s.completeBad o bad 0
  else if o.cut then s.completeBad o hsNoKey 0
  else if o.key = [] then s.completeBad o hsNoKey 0
  else if (s.srcError o aad (o.reg 4)).isSome then s.completeBad o hsEcc (addrSpace aad)
  else if o.fn ≠ 3 ∧ (s.srcError o src (o.reg 2)).isSome then (s.stopOp o).completeBad o hsEcc (addrSpace src)
  else
    let s := (s.fixSrc o aad (o.reg 4)).when (decide (o.fn ≠ 3)) (·.fixSrc o src (o.reg 2))
    let a := s.srcBytes o aad (o.reg 4)
    let text := if o.fn = 3 then [] else s.gcmText o (o.reg 2)
    let ct := if o.fn = 1 then text else if o.fn = 2 then s.srcBytes o src (o.reg 2) else []
    let tag := gcmTag (aesKeys o.key) (o.bytes 6 3) a ct
    let s := if o.fn = 3 then s else s.dstWrite o (o.reg 1) text
    if o.fn = 2 then s.complete_ o (if tag = o.bytes 0x10 4 then hsOk else hsAuthFail) 0 0 []
    else s.complete_ o hsOk 0 0 (asRegs 0x10 4 tag)

/-- The output length of a hash function; none where OUTLEN is ignored. -/
def HOp.outLen (o : HOp) : Option Nat := if o.fn = 0x12 ∨ o.fn = 0x13 then none else some (o.reg 9)

/-- The digest of a hash function. R262. -/
def HOp.digest (o : HOp) (m : List Byte) : List Byte :=
  if o.fn = 0x10 then shake128 m (o.reg 9) else if o.fn = 0x11 then shake256 m (o.reg 9)
  else if o.fn = 0x12 then sha3_256 m else if o.fn = 0x13 then sha3_512 m else kmac256 o.key m (o.reg 9) []

/-- The hash functions. R262, R264. -/
def State.finishHash (s : State) (o : HOp) : State :=
  let lenOk := match o.outLen with
    | some n => decide (1 ≤ n) && decide (n ≤ 64)
    | none => true
  let bad := firstBad [if 9216 < o.reg 2 ∨ lenOk = false ∨ (o.fn = 0x14 ∧ 15 < o.reg 5) then hsBadOperand else hsOk,
    s.addrStatus o (o.reg 0) (o.reg 2) false]
  if bad ≠ hsOk then s.completeBad o bad 0
  else if o.fn = 0x14 ∧ (o.cut ∨ o.key = []) then s.completeBad o hsNoKey 0
  else if (s.srcError o (o.reg 0) (o.reg 2)).isSome then s.completeBad o hsEcc (addrSpace (o.reg 0))
  else (s.fixSrc o (o.reg 0) (o.reg 2)).complete_ o hsOk 0 0 (asRegs 0x20 16 (o.digest (s.srcBytes o (o.reg 0) (o.reg 2))))

/-! ### CRC and checksum helper (R265) -/

/-- The CRC functions' parameters: width, polynomial, initial value, reflections, final XOR. R265. -/
structure CrcDef where
  width : Nat
  poly : Nat
  init : Nat
  refIn : Bool
  refOut : Bool
  xorOut : Nat
deriving DecidableEq, Repr

/-- The parameters of a CRC function. R265. -/
def HOp.crcDef (o : HOp) : CrcDef :=
  if o.fn = 1 then ⟨32, 0x04C11DB7, 0xFFFFFFFF, true, true, 0xFFFFFFFF⟩
  else if o.fn = 2 then ⟨32, 0x1EDC6F41, 0xFFFFFFFF, true, true, 0xFFFFFFFF⟩
  else if o.fn = 3 then ⟨8, 0x1D, 0xFF, false, false, 0xFF⟩
  else if o.fn = 4 then ⟨16, 0x1021, 0xFFFF, false, false, 0⟩
  else if o.fn = 5 then ⟨32, 0xF4ACFB13, 0xFFFFFFFF, true, true, 0xFFFFFFFF⟩
  else if o.fn = 6 then ⟨64, 0x42F0E1EBA9EA3693, 0, false, false, 0⟩
  else
    let w := o.reg 9 % 128
    let field (lo : Nat) : Nat := (o.reg lo + 2 ^ 32 * o.reg (lo + 1)) % 2 ^ w
    ⟨w, field 3, field 5, decide (bit (o.reg 9) 12 = 1), decide (bit (o.reg 9) 13 = 1), field 7⟩

/-- Ones' complement addition of 16-bit words. -/
def onesAdd (a b : Nat) : Nat := (a + b) % 65536 + (a + b) / 65536

/-- RFC 1624 with old checksum, old word and new word: not(not HC + not m + m'). R265. -/
def csumUpdate (hc m m' : Nat) : Nat := 0xFFFF - onesAdd (onesAdd (0xFFFF - hc) (0xFFFF - m)) m'

/-- The result of a CRC or checksum function over its bytes. R265. -/
def HOp.sum (o : HOp) (bs : List Byte) : Nat :=
  if o.fn = 0x10 then onesSum bs (o.reg 5 % 65536)
  else if o.fn = 0x11 then csumUpdate (o.reg 5 % 65536) (o.reg 0xA % 65536) (o.reg 0xB % 65536)
  else
    let d := o.crcDef
    crc d.width d.poly d.init d.refIn d.refOut d.xorOut bs

/-- The CRC and checksum functions. R265. -/
def State.finishCrc (s : State) (o : HOp) : State :=
  let cfg := o.reg 9
  let cfgBad := o.fn = 7 ∧ (cfg % 128 < 8 ∨ 64 < cfg % 128 ∨ bits cfg 11 7 ≠ 0 ∨ bits cfg 31 14 ≠ 0)
  let len := if o.fn = 0x11 then 0 else o.reg 2
  let bad := firstBad [if 9216 < len ∨ cfgBad then hsBadOperand else hsOk,
    if o.fn = 0x11 then hsOk else s.addrStatus o (o.reg 0) len false]
  if bad ≠ hsOk then s.completeBad o bad 0
  else if len ≠ 0 ∧ (s.srcError o (o.reg 0) len).isSome then s.completeBad o hsEcc (addrSpace (o.reg 0))
  else
    let r := o.sum (if len = 0 then [] else s.srcBytes o (o.reg 0) len)
    (s.fixSrc o (o.reg 0) len).complete_ o hsOk 0 0 [(0x20, BitVec.ofNat 32 r), (0x21, BitVec.ofNat 32 (r / 2 ^ 32))]

/-! ### Lookup helper (R266, R267) -/

/-- KEY0 upward, as a number. -/
def HOp.key_ (o : HOp) (words : Nat) : Nat := ofLE (o.bytes 0 words)

/-- ENTRY is accepted. R266. -/
def HOp.entryOk (o : HOp) : Bool :=
  let e := o.reg 0x10
  decide (e / 64 = 0) && decide (bits e 5 4 ≠ 3) && decide (e % 16 ≠ 6) && decide (e % 16 ≠ 7)

/-- The Bramble key an operation names. R89, R266. -/
def State.opKey (s : State) (o : HOp) : Nat := o.key_ (if s.brWide (o.reg 0x10 % 16) then 10 else 5)

/-- The replica or rule-table copy of a thread's cluster. R266. -/
def HOp.west (o : HOp) : Bool := westCluster (clusterOf o.tid)

/-- An operation whose reply is known; it waits for its completion. -/
def HOp.answer (o : HOp) (out : List (Nat × Word)) (code table : Nat) : HOp :=
  { o with started := true, out := out ++ [(0x3F, helperStatus code table)] }

/-- A reply with unstated result registers. -/
def State.answerBad (s : State) (o : HOp) (code : Nat) : State × HOp :=
  let y := s.freeRegs (resultRegs o.helper o.fn)
  (y.1, o.answer y.2 code 0)

/-- WHERE. R266. -/
def whereWord (hit w : Bool) (slot : Nat) : Word := BitVec.ofNat 32 (b2n hit * 2 ^ 31 + b2n w * 2 ^ 30 + slot)

/-- A miss: WHERE[31] is 0 and nothing more is stated. R266. -/
def State.answerMiss (s : State) (o : HOp) : State × HOp :=
  let y := s.freeRegs (resultRegs 2 o.fn)
  (y.1, o.answer (y.2.map fun e => (e.1, if e.1 = 0x21 then e.2 &&& 0x7FFFFFFF#32 else e.2)) hsMiss 0)

/-- BR_FIND in the table. R90, R91, R103, R266, R267. -/
def State.opFind (s : State) (o : HOp) : State × HOp :=
  let w := o.west
  let p := o.reg 0x10 % 16
  let key := s.opKey o
  if !o.entryOk then s.answerBad o hsBadOperand
  else if s.brBad w (s.brReach w p key) ≠ [] then
    ((s.brEcc w (s.brReach w p key)).bump (K.ctrBrLookups (b2n w))).answerBad o hsEcc
  else
    let before := match s.brFind w p key with
      | some i => (s.brSlot w i).hitCount
      | none => 0
    match s.brLookup w p key with
    | (some (d, i), s) => (s, o.answer [(0x20, d), (0x21, whereWord true w i), (0x22, BitVec.ofNat 32 before)] hsOk 0)
    | (none, s) => s.answerMiss o

/-- RT_SEARCH in the table; no hit counter changes. R66, R71, R266, R267. -/
def State.opSearch (s : State) (o : HOp) : State × HOp :=
  let w := o.west
  if s.ruleErrors w ≠ [] then (s.ruleEcc w).answerBad o hsEcc
  else match s.ruleFind w (o.key_ 16) with
    | some (i, r) => (s, o.answer [(0x20, r.action), (0x21, whereWord true w i)] hsOk 0)
    | none => s.answerMiss o

/-- A Bramble write's reply: Code TABLE unless the table answers OK, UPDATED or DELETED. R258, R267. -/
def HOp.wrote (o : HOp) (st : Nat) : HOp := o.answer [] (if st = 0 ∨ st = 1 ∨ st = 2 then hsOk else hsTable) st

/-- BR_INSERT and BR_DELETE in the table. R102, R103, R266, R267. -/
def State.opBramble (s : State) (o : HOp) (f : State → Bool → Nat → Nat → Nat × State) : State × HOp :=
  let w := o.west
  let p := o.reg 0x10 % 16
  let key := s.opKey o
  if !o.entryOk then s.answerBad o hsBadOperand
  else if 2 ^ s.brWidth p ≤ key then (s, o.wrote 5)
  else
    let ecc := decide (s.brBad w (s.brReach w p key) ≠ []) && !s.swapping w
    let r := f s w p key
    (r.2, if ecc then o.answer [] hsEcc r.1 else o.wrote r.1)

/-! ### Pattern client (R268) -/

/-- What the client reads for a scan: a status, and the source's bytes. R268. -/
def State.scanSource (s : State) (o : HOp) : Nat × List Byte :=
  let len := o.reg 2
  let bad := firstBad [if len = 0 ∨ 2048 < len ∨ 255 < o.reg 3 then hsBadOperand else hsOk, s.addrStatus o (o.reg 0) len false]
  if bad ≠ hsOk then (bad, [])
  else if (s.srcError o (o.reg 0) len).isSome then (hsEcc, [])
  else (hsOk, s.srcBytes o (o.reg 0) len)

/-- SCAN: what the client reports of the bytes it has read. R77, R79, R80, R268. -/
def State.finishScan (s : State) (o : HOp) : State :=
  let r := o.src.getD (s.scanSource o)
  if r.1 ≠ hsOk then s.completeBad o r.1 (addrSpace (o.reg 0))
  else
    let bs := r.2
    let hits := s.pc.patterns.filter fun kp => kp.2.matches bs (BitVec.ofNat 8 (o.reg 3))
    match topMatch (hits.map fun kp => (kp.1, kp.2.action)) with
    | some (i, a) => s.complete_ o hsOk 0 0
        [(0x20, BitVec.ofNat 32 (2 ^ 31 + a * 2 ^ 28 + i)), (0x21, BitVec.ofNat 32 hits.length)]
    | none =>
      let y := s.freeRegs [0x20]
      y.1.complete_ o hsMiss 0 0 (y.2.map (fun e => (e.1, e.2 &&& 0x7FFFFFFF#32)) ++ [(0x21, 0#32)])

/-! ### HELPER_OP_START and HELPER_OP_COMPLETE -/

/-- An operation replaced by itself with a change. -/
def State.setOp (s : State) (o o' : HOp) : State :=
  let c := clusterOf o.tid
  s.setOps c ((s.ops c).map fun q => if q = o then o' else q)

/-- The client reads the source of a request that has room in the queue; one that it cannot read never crosses. R268. -/
def State.clientRead (s : State) (e : Nat × Nat) : State :=
  match (s.ops (clusterOf e.1)).find? fun o => decide (o.tid = e.1) && decide (o.bank = e.2) && decide (o.helper = 3) && o.src.isNone with
  | some o =>
    let r := s.scanSource o
    let s := s.setOp o { o with src := some r, started := decide (r.1 ≠ hsOk) }
    if r.1 = hsOk then s.fixSrc o (o.reg 0) (o.reg 2)
    else { s with cores := { s.cores with clientQ := s.cores.clientQ.filter (· ≠ e) } }
  | none => s

/-- The first 16 requests of the clients lie in the device's queue, their sources read. R268. -/
def State.fillClients (s : State) : State := (s.cores.clientQ.take 16).foldl State.clientRead s

/-- HELPER_OP_START: the oldest waiting operation of helper h of cluster n starts: of helpers 0 and 1 when none executes; of the
pattern client, the request at the head of the client queue, on a lane that takes it. An operation with a key reads its slot now.
R256, R264, R268. -/
def execHelperOpStart (n : Fin 16) (h : Fin 4) (s : State) : Host.Outcome State Fault Refusal :=
  let l := (s.ops n.val).filter fun o => decide (o.helper = h.val)
  if h.val < 2 then
    .next (match l with
    | o :: _ => if o.started then s else s.setOp o { o with
        started := true, key := if h.val = 0 then (s.keySlot n.val (o.reg 5 % 16)).bytes else [] }
    | [] => s)
  else if h.val = 3 then
    .next (match s.cores.clientQ with
    | (t, bank) :: rest =>
      let lane := (List.range 8).find? fun i =>
        !(s.laneBusy i) && (decide (tget [] s.pc.lanes i = []) || decide (16 ≤ tget 0 s.pc.runs i))
      match l.find? (fun o => decide (o.tid = t) && decide (o.bank = bank)), lane with
      | some o, some i =>
        let s := s.setOp o { o with started := true, lane := some i }
        ({ s with cores := { s.cores with clientQ := rest }, pc := { s.pc with runs := tset 0 s.pc.runs i 0 } } : State).fillClients
      | _, _ => s
    | [] => s)
  else .next s

/-- HELPER_OP_COMPLETE: the started operation of helper h in a bank of thread t completes. R258 to R268. -/
def execHelperOpComplete (t : Fin 512) (second : Bool) (h : Fin 4) (s : State) : Host.Outcome State Fault Refusal :=
  match (s.ops (clusterOf t.val)).find? fun o =>
      decide (o.tid = t.val) && decide (o.bank = b2n second) && decide (o.helper = h.val) && o.started with
  | none => .next s
  | some o => .next (
    if h.val = 0 then (if o.fn ≤ 3 then s.finishGcm o else s.finishHash o)
    else if h.val = 1 then s.finishCrc o
    else if h.val = 3 then s.finishScan o
    else
      let c := clusterOf o.tid
      let st := ((o.out.find? fun e => decide (e.1 = 0x3F)).map (·.2)).getD 0#32
      let s := s.setOps c ((s.ops c).filter (· ≠ o))
      ((s.countOp o).noteStatus o (st.toNat % 256) 0xFF).writeResults o o.out)

/-! ### The operations (HOP) -/

/-- Helpers 0 and 1: the operation waits for its start. -/
def State.hopWait (s : State) (t w : Nat) (n fn : Nat) : Host.Outcome State Fault Refusal := s.hop t w n fn fun s o => (s, o)

/-- GCM_ENC. R262. -/
def execGcmEnc (t : Fin 512) (s : State) : Host.Outcome State Fault Refusal := s.hopWait t.val (wordC 0 0 0 0x01 3) 0 0x01
/-- GCM_DEC. R262, R263. -/
def execGcmDec (t : Fin 512) (s : State) : Host.Outcome State Fault Refusal := s.hopWait t.val (wordC 0 0 0 0x02 3) 0 0x02
/-- GMAC. R262. -/
def execGmac (t : Fin 512) (s : State) : Host.Outcome State Fault Refusal := s.hopWait t.val (wordC 0 0 0 0x03 3) 0 0x03
/-- SHAKE128. R262. -/
def execShake128 (t : Fin 512) (s : State) : Host.Outcome State Fault Refusal := s.hopWait t.val (wordC 0 0 0 0x10 3) 0 0x10
/-- SHAKE256. R262. -/
def execShake256 (t : Fin 512) (s : State) : Host.Outcome State Fault Refusal := s.hopWait t.val (wordC 0 0 0 0x11 3) 0 0x11
/-- SHA3_256. R262. -/
def execSha3_256 (t : Fin 512) (s : State) : Host.Outcome State Fault Refusal := s.hopWait t.val (wordC 0 0 0 0x12 3) 0 0x12
/-- SHA3_512. R262. -/
def execSha3_512 (t : Fin 512) (s : State) : Host.Outcome State Fault Refusal := s.hopWait t.val (wordC 0 0 0 0x13 3) 0 0x13
/-- KMAC256. R262, R264. -/
def execKmac256 (t : Fin 512) (s : State) : Host.Outcome State Fault Refusal := s.hopWait t.val (wordC 0 0 0 0x14 3) 0 0x14
/-- CRC32. R265. -/
def execCrc32 (t : Fin 512) (s : State) : Host.Outcome State Fault Refusal := s.hopWait t.val (wordC 0 1 0 0x01 3) 1 0x01
/-- CRC32C. R265. -/
def execCrc32c (t : Fin 512) (s : State) : Host.Outcome State Fault Refusal := s.hopWait t.val (wordC 0 1 0 0x02 3) 1 0x02
/-- CRC8. R265. -/
def execCrc8 (t : Fin 512) (s : State) : Host.Outcome State Fault Refusal := s.hopWait t.val (wordC 0 1 0 0x03 3) 1 0x03
/-- CRC16. R265. -/
def execCrc16 (t : Fin 512) (s : State) : Host.Outcome State Fault Refusal := s.hopWait t.val (wordC 0 1 0 0x04 3) 1 0x04
/-- CRC32_F4AC. R265. -/
def execCrc32F4ac (t : Fin 512) (s : State) : Host.Outcome State Fault Refusal := s.hopWait t.val (wordC 0 1 0 0x05 3) 1 0x05
/-- CRC64. R265. -/
def execCrc64 (t : Fin 512) (s : State) : Host.Outcome State Fault Refusal := s.hopWait t.val (wordC 0 1 0 0x06 3) 1 0x06
/-- CRCPROG. R265. -/
def execCrcprog (t : Fin 512) (s : State) : Host.Outcome State Fault Refusal := s.hopWait t.val (wordC 0 1 0 0x07 3) 1 0x07
/-- CSUM. R265. -/
def execCsum (t : Fin 512) (s : State) : Host.Outcome State Fault Refusal := s.hopWait t.val (wordC 0 1 0 0x10 3) 1 0x10
/-- CSUMUPD. R265. -/
def execCsumupd (t : Fin 512) (s : State) : Host.Outcome State Fault Refusal := s.hopWait t.val (wordC 0 1 0 0x11 3) 1 0x11
/-- BR_FIND. R266. -/
def execBrFind (t : Fin 512) (s : State) : Host.Outcome State Fault Refusal := s.hop t.val (wordC 0 2 0 0x01 3) 2 0x01 State.opFind
/-- RT_SEARCH. R266. -/
def execRtSearch (t : Fin 512) (s : State) : Host.Outcome State Fault Refusal := s.hop t.val (wordC 0 2 0 0x02 3) 2 0x02 State.opSearch
/-- BR_INSERT: Hit 0 and Age 0. R266. -/
def execBrInsert (t : Fin 512) (s : State) : Host.Outcome State Fault Refusal :=
  s.hop t.val (wordC 0 2 0 0x03 3) 2 0x03 fun s o => s.opBramble o fun s w p key =>
    s.brOpInsert w { BrEntry.zero with etype := bits (o.reg 0x10) 5 4, profile := p, data := BitVec.ofNat 32 (o.reg 0x11) } key
/-- BR_DELETE. R266. -/
def execBrDelete (t : Fin 512) (s : State) : Host.Outcome State Fault Refusal :=
  s.hop t.val (wordC 0 2 0 0x04 3) 2 0x04 fun s o => s.opBramble o fun s w p key => s.brOpDelete w p key
/-- SCAN: the request joins the client queue. R268. -/
def execScan (t : Fin 512) (s : State) : Host.Outcome State Fault Refusal :=
  s.hop t.val (wordC 0 3 0 0x01 3) 3 0x01
    (fun s o => ({ s with cores := { s.cores with clientQ := s.cores.clientQ ++ [(t.val, o.bank)] } }, o)) State.fillClients

end Sys2Proof.Machine
end

