-- ==== Sys2Proof/Machine/Barrel.lean ====
section
/-! DEFINITION. The Barrel I/O Processors (15_barrel_io.md, R352 to R374): run control, the COP units (pin sequencer, bit-timing
assist, ACF bridge) with MFC and MTC, pins and their edges, and the bridge's uplink and downlink. A barrel thread B(p.k) is
thread 512 + 16p + k; the commands of this file name it by 16p + k. -/

namespace Sys2Proof.Machine

/-! ### BiTime and pins (R352, R360 to R362) -/

/-- BiTime: BI cycles (800 MHz) since the reset's release, modulo 2^32. R352. -/
def State.biTime (s : State) : BitVec 32 := BitVec.ofNat 32 ((s.now - s.boot.releasedAt) * 4 / 5)

/-- The reset value of a pin's configuration word. R360. -/
def pinDefault (i : Nat) : BitVec 32 := BitVec.ofNat 32 (0x40 + 16 * (i / 16))

/-- A pin's configuration word in force. R360. -/
def State.pinWord (s : State) (i : Nat) : Nat := (tget (pinDefault i) s.bio.pinLive i).toNat
def State.pinFunction (s : State) (i : Nat) : Nat := s.pinWord i % 4
def State.pinOwner (s : State) (i : Nat) : Nat := bits (s.pinWord i) 5 4
def State.pin (s : State) (i : Nat) : Pin := tget Pin.zero s.bio.pins i
def State.setPin (s : State) (i : Nat) (x : Pin) : State := { s with bio := { s.bio with pins := tset Pin.zero s.bio.pins i x } }

/-- A pin word the pin domain takes. R360. -/
def pinWordOk (w : Nat) : Bool := decide (w < 65536) && decide (bits w 7 6 ≠ 3)

/-- PIN_CONFIG_WRITE, with its OpStatus; it takes effect at reset. R360, R471. -/
def execPinConfigWrite (i : Fin 64) (w : BitVec 32) (s : State) : Host.Outcome State Fault Refusal :=
  .next (if !pinWordOk w.toNat then s.status opRefused
    else (({ s with bio := { s.bio with pinCfg := tset (pinDefault i.val) s.bio.pinCfg i.val w } } : State).bump
      K.cmtStagedWrites).status 0)

/-- The reset value of an entry of the pin tables: each pin has its own, so the table holds a word only where it differs. -/
def State.pinStaged (s : State) (i : Nat) : BitVec 32 := tget (pinDefault i) s.bio.pinCfg i

/-! ### Run control (R353, R358) -/

/-- HALT: every barrel thread is reset, the assist units stop, RunState is HALTED. R353, R358. -/
def State.haltBarrel (s : State) (p : Nat) : State :=
  let s := (List.range 16).foldl (fun s k =>
    let t := 512 + 16 * p + k
    let s := (s.clearBarrel t).bump (K.ctrBiopThreadResets p)
    s.setThread t { Thread.zero with st := .out, pc := s.rd (K.biopEntryPoint p k) }) s
  let s := { s with bio := { s.bio with
    units := (List.range 4).foldl (fun us i => tmod Assist.zero us (4 * p + i) fun a => { a with stopped := true }) s.bio.units } }
  (s.wr (K.biopRunState p) 1).almanac 22 0x0F05 2 [(1, p)]

/-- Every thread of a processor that is not OFF starts at its EntryPoint. R353. -/
def State.startProcessor (s : State) (p : Nat) : State :=
  (List.range 16).foldl (fun s k => s.startBarrel (512 + 16 * p + k)) (s.wr (K.biopRunState p) 0)

/-- A write of RunControl, with its abort code; a processor without verified code stays HALTED. R353, R426, R442. -/
def State.runControl (s : State) (p v : Nat) : State :=
  if v = 1 then (s.haltBarrel p).aborted Abort.ok
  else if v ≠ 2 then s.aborted Abort.valueRange
  else if !tget false s.boot.barrelOk p then s.aborted Abort.inconsistent
  else ((s.startProcessor p).almanac 22 0x0F05 2 [(1, p)]).aborted Abort.ok

/-- HALT. R353. -/
def execHalt (p : Fin 4) (s : State) : Host.Outcome State Fault Refusal := .next (s.runControl p.val 1)

/-- RUN. R353. -/
def execRun (p : Fin 4) (s : State) : Host.Outcome State Fault Refusal := .next (s.runControl p.val 2)

/-- A code image put into a processor's code RAM: held there, and usable once verified. R353, R426. -/
def State.putBarrelCode (s : State) (p : Nat) (image : List Byte) (ok : Bool) : State :=
  let s := s.storeBytes .barrelCode (65536 * p) ((imgBody image).take 65536)
  { s with boot := { s.boot with barrelOk := tset false s.boot.barrelOk p ok } }

/-- LOAD of a HALTED processor's code, with its OpStatus. R353, R471. -/
def State.loadBarrelCode (s : State) (p : Nat) (image : List Byte) : State :=
  if s.rd (K.biopRunState p) ≠ 1 then s.status opRefused
  else
    let r := s.verifyService image
    let v := if r.1 = bsOk ∧ (imgType image ≠ 4 ∨ bit (imgTargets image) p = 0) then bsBadImage else r.1
    (r.2.putBarrelCode p image (decide (v = bsOk))).status v

/-- BARREL_CODE_LOAD. R353. -/
def execBarrelCodeLoad (p : Fin 4) (image : List (BitVec 8)) (s : State) : Host.Outcome State Fault Refusal :=
  .next (s.loadBarrelCode p.val image)

/-- BARREL_WATCHDOG_EXPIRY: N + 1 microsecond strobes without a KICK. R358. -/
def execBarrelWatchdogExpiry (b : Fin 64) (s : State) : Host.Outcome State Fault Refusal :=
  let n := s.rd (K.biopWatchdogLimit (b.val / 16) (b.val % 16))
  let x := s.thread (512 + b.val)
  .next (if n = 0 ∨ x.st = .out ∨ x.st = .idle ∨ s.usStrobe < x.kickAt + n + 1 then s
    else s.resetBarrelThread (512 + b.val) excWatchdog)

/-! ### COP units: statuses and completion (R356, R361) -/

def copOk : Nat := 0
def copLate : Nat := 1
def copFull : Nat := 2
def copNotOwner : Nat := 3
def copBadOperand : Nat := 4
def copPinBusy : Nat := 5
def copOverflow : Nat := 6

/-- An operand register of a unit. -/
def State.cop (s : State) (t n x : Nat) : Nat := ((s.thread t).hreg (hkey 0 n x)).toNat

/-- The registers of a thread's own file that an operation of a unit leaves PENDING while it waits. -/
def copPending (n : Nat) : List Nat :=
  (if n = 0 then [0x20, 0x21, 0x3F] else if n = 1 then [0x20, 0x21, 0x3F] else [0x3F]).map (hkey 0 n)

def State.setWait (s : State) (t n v : Nat) : State :=
  { s with bio := { s.bio with waits := tset 0 s.bio.waits (4 * (t - 512) + n) v } }

/-- An operation of a unit completes: registers and STATUS written, PENDING cleared, the completion event set, a thread BLOCKED on
one of them released. R188, R189, R258. -/
def State.copDone (s : State) (t n status : Nat) (out : List (Nat × Word)) : State :=
  let x := s.thread t
  let x := (out ++ [(0x3F, BitVec.ofNat 32 status)]).foldl (fun (x : Thread) (e : Nat × Word) => x.setHreg (hkey 0 n e.1) e.2) x
  let x := { x with hpend := x.hpend.filter fun k => decide (k ∉ copPending n) }
  let s := ((s.setWait t n 0).setThread t x).pend t false 0x40#7
  match (s.thread t).st with
  | .blocked (.helper m _) => if m = n then s.park t .ready else s
  | _ => s

/-- An operation of a unit is issued; one of the same unit that still waits is given up. R356. -/
def State.copIssue (s : State) (b : Nat) (w : Nat) (n : Nat) (op : State → Nat → State) : Host.Outcome State Fault Refusal :=
  let t := 512 + b
  s.issue t w fun s => (op (s.setWait t n 0) t).done t

/-- An operation that waits for an event. -/
def State.copWait (s : State) (t n v : Nat) : State :=
  let x := s.thread t
  (s.setWait t n v).setThread t { x with hpend := x.hpend ++ (copPending n).filter (· ∉ x.hpend) }

/-- Result registers of an operation that did not succeed: the manual states none. Log entry 33. -/
def State.copFail (s : State) (t n status : Nat) (rs : List Nat) : State :=
  let y := s.freeRegs rs
  y.1.copDone t n status y.2

/-! ### Pin sequencer (R361, R362) -/

/-- The pin of PIN, with its faults: a reserved bit, or a pin of another processor. R360, R361. -/
def State.pinOperand (s : State) (t : Nat) : Nat × Nat :=
  let w := s.cop t 0 0
  let i := w % 64
  (i, if bits w 30 6 ≠ 0 then copBadOperand else if s.pinOwner i ≠ (t - 512) / 16 then copNotOwner else copOk)

/-- A timed SET is too near or too far behind: it applies 3 BI cycles after issue. R362. -/
def State.setLate (s : State) (when_ : Nat) : Bool := decide (toSigned 32 (when_ + 2 ^ 32 - s.biTime.toNat) < 4)

/-- A pin driven 3 BI cycles from now: that overrides the pending SETs that fall due by then. R361, R362. -/
def State.driveSoon (s : State) (p : Pin) (level : Bool) : Pin :=
  { p with out := level, sets := p.sets.filter fun e => decide (3 < toSigned 32 (e.1.toNat + 2 ^ 32 - s.biTime.toNat)) }

/-- SET of pins to levels, all at once, in the time and with the status of R361 and R362; one pin that cannot take it refuses all. -/
def State.setPins (s : State) (t : Nat) (l : List (Nat × Bool)) : State :=
  let timed := decide (bit (s.cop t 0 0) 31 = 1)
  let when_ := s.cop t 0 2
  let late := timed && s.setLate when_
  let status :=
    if l.any fun x => decide (s.pinOwner x.1 ≠ (t - 512) / 16) then copNotOwner
    else if l.any fun x => decide (s.pinFunction x.1 = 0 ∨ s.pinFunction x.1 = 3) then copPinBusy
    else if timed && !late && l.any fun x => decide (4 ≤ (s.pin x.1).sets.length) then copFull
    else if late then copLate else copOk
  let go := decide (status = copOk ∨ status = copLate)
  let s := if !go then s
    else l.foldl (fun s x =>
      let p := s.pin x.1
      s.setPin x.1 (if timed && !late then { p with sets := p.sets ++ [(BitVec.ofNat 32 when_, x.2, t)] } else s.driveSoon p x.2)) s
  s.copDone t 0 status []

/-- SET. R361. -/
def execSet (b : Fin 64) (s : State) : Host.Outcome State Fault Refusal :=
  s.copIssue b.val (wordC 0 0 0 0x01 3) 0 fun s t =>
    let p := s.pinOperand t
    if p.2 = copBadOperand then s.copDone t 0 copBadOperand [] else s.setPins t [(p.1, decide (s.cop t 0 1 % 2 = 1))]

/-- GSET: every MASK pin of the bank PIN[5:4]. R361. -/
def execGset (b : Fin 64) (s : State) : Host.Outcome State Fault Refusal :=
  s.copIssue b.val (wordC 0 0 0 0x04 3) 0 fun s t =>
    let w := s.cop t 0 0
    let m := s.cop t 0 3
    if bits w 30 6 ≠ 0 ∨ 65536 ≤ m then s.copDone t 0 copBadOperand []
    else s.setPins t ((setBits 16 m).map fun i => (16 * bits w 5 4 + i, decide (bit (s.cop t 0 1) i = 1)))

/-- GET. R361. -/
def execGet (b : Fin 64) (s : State) : Host.Outcome State Fault Refusal :=
  s.copIssue b.val (wordC 0 0 0 0x02 3) 0 fun s t =>
    let p := s.pinOperand t
    if p.2 = copOk then s.copDone t 0 copOk [(0x20, BitVec.ofNat 32 (b2n (s.pin p.1).level))]
    else s.copFail t 0 p.2 [0x20]

/-- NOW. R361. -/
def execNow (b : Fin 64) (s : State) : Host.Outcome State Fault Refusal :=
  s.copIssue b.val (wordC 0 0 0 0x05 3) 0 fun s t => s.copDone t 0 copOk [(0x20, s.biTime)]

/-- KICK: the watchdog restarts. R358, R361. -/
def execKick (b : Fin 64) (s : State) : Host.Outcome State Fault Refusal :=
  s.copIssue b.val (wordC 0 0 0 0x10 3) 0 fun s t => (s.setThread t { s.thread t with kickAt := s.usStrobe }).copDone t 0 copOk []

/-- An edge is of a kind: 1 rising, 2 falling, 3 either. R361. -/
def edgeOf (kind : Nat) (level : Bool) : Bool := if level then decide (bit kind 0 = 1) else decide (bit kind 1 = 1)

/-- An EDGE takes the oldest edge of its kind, discarding those before it, or waits. R361, R362. -/
def State.takeEdge (s : State) (t i kind : Nat) : State :=
  let p := s.pin i
  match p.edges.dropWhile fun e => !edgeOf kind e.1 with
  | [] => (s.setPin i { p with edges := [] }).copWait t 0 (1 + i + 64 * kind)
  | e :: r =>
    (s.setPin i { p with edges := r, overflow := false }).copDone t 0 (if p.overflow then copOverflow else copOk)
      [(0x20, e.2), (0x21, BitVec.ofNat 32 (b2n e.1))]

/-- EDGE. R361. -/
def execEdge (b : Fin 64) (s : State) : Host.Outcome State Fault Refusal :=
  s.copIssue b.val (wordC 0 0 0 0x03 3) 0 fun s t =>
    let p := s.pinOperand t
    let kind := s.cop t 0 1 % 4
    if p.2 ≠ copOk then s.copFail t 0 p.2 [0x20, 0x21]
    else if kind = 0 then s.copFail t 0 copBadOperand [0x20, 0x21]
    else s.takeEdge t p.1 kind

/-- A pending SET has fallen due. R362. -/
def State.setDue (s : State) (e : BitVec 32 × Bool × Nat) : Bool := decide (toSigned 32 (s.biTime.toNat + 2 ^ 32 - e.1.toNat) ≥ 0)

/-- The later of two pending SETs that are due: by WHEN, then by issue. -/
def laterSet (a b : BitVec 32 × Bool × Nat) : BitVec 32 × Bool × Nat :=
  if toSigned 32 (b.1.toNat + 2 ^ 32 - a.1.toNat) ≥ 0 then b else a

/-- TIMED_SET_APPLY: the pending SETs that are due drive their pins; of two due in one cycle the one issued later. R362. -/
def execTimedSetApply (s : State) : Host.Outcome State Fault Refusal :=
  .next (s.bio.pins.foldl (fun s kp =>
    match kp.2.sets.filter s.setDue with
    | [] => s
    | e :: r => s.setPin kp.1 { kp.2 with out := (r.foldl laterSet e).2.1, sets := kp.2.sets.filter fun e => !s.setDue e }) s)

/-- The barrel thread whose EDGE waits for an edge of a pin, lowest first. -/
def State.edgeWaiter (s : State) (i : Nat) (level : Bool) : Option (Nat × Nat) :=
  (s.bio.waits.find? fun w => decide (w.1 % 4 = 0) && decide ((w.2 - 1) % 64 = i) && edgeOf ((w.2 - 1) / 64) level).map
    fun w => (512 + w.1 / 4, (w.2 - 1) / 64)

/-- An EDGE waits at a pin. -/
def State.edgeAwaited (s : State) (i : Nat) : Bool := s.bio.waits.any fun w => decide (w.1 % 4 = 0) && decide ((w.2 - 1) % 64 = i)

/-- PIN_EDGE_CAPTURE: an edge at a pin's input, behind its glitch filter; one of another kind than a waiting EDGE takes is discarded by
it. R361, R362. -/
def execPinEdgeCapture (i : Fin 64) (level : Bool) (s : State) : Host.Outcome State Fault Refusal :=
  let p := s.pin i.val
  .next (if p.level = level then s
    else
      let s := s.setPin i.val { p with level := level }
      let p := s.pin i.val
      if bit (s.pinWord i.val) 2 = 0 then s
      else if 8 ≤ p.edges.length then
        (s.setPin i.val { p with overflow := true }).bump (K.ctrBiopEdgeOverflows (s.pinOwner i.val))
      else
        let s := s.setPin i.val { p with edges := p.edges ++ [(level, s.biTime)] }
        match s.edgeWaiter i.val level with
        | some (t, kind) => s.takeEdge t i.val kind
        | none => if s.edgeAwaited i.val then s.setPin i.val { s.pin i.val with edges := [] } else s)

/-! ### Bit-timing assist (R363 to R367) -/

def State.unit_ (s : State) (u : Nat) : Assist := tget Assist.zero s.bio.units u
def State.setUnit (s : State) (u : Nat) (a : Assist) : State :=
  { s with bio := { s.bio with units := tset Assist.zero s.bio.units u a } }

/-- The thread that owns an assist unit. R363. -/
def State.unitOwner (s : State) (u : Nat) : Nat := 512 + 16 * (u / 4) + s.rd (K.unitOwnerThread u)

/-- An operation on the unit of UNIT, by its OwnerThread. R363, R364. -/
def State.unitOp (s : State) (b : Nat) (w : Nat) (op : State → Nat → Nat → Assist → State) : Host.Outcome State Fault Refusal :=
  s.copIssue b w 1 fun s t =>
    let u := s.cop t 1 0
    if 16 ≤ u then s.copDone t 1 copBadOperand []
    else if s.unitOwner u ≠ t then s.copDone t 1 copNotOwner []
    else op s t u (s.unit_ u)

/-- TXPUSH. R364. -/
def execTxpush (b : Fin 64) (s : State) : Host.Outcome State Fault Refusal :=
  s.unitOp b.val (wordC 0 1 0 0x01 3) fun s t u a =>
    let w := s.cop t 1 2
    if 128 ≤ w ∨ w % 64 = 0 ∨ 32 < w % 64 then s.copDone t 1 copBadOperand []
    else if 4 ≤ a.tx.length then s.copDone t 1 copFull []
    else (s.setUnit u { a with tx := a.tx ++ [(BitVec.ofNat 32 (s.cop t 1 1), w % 64, decide (64 ≤ w))] }).copDone t 1 copOk []

/-- The oldest RX word moves to RXW and RXINFO, or the RXPOP waits. R364. -/
def State.takeRx (s : State) (t u : Nat) : State :=
  let a := s.unit_ u
  match a.rx with
  | [] => s.copWait t 1 (1 + u)
  | (w, n, last) :: r => (s.setUnit u { a with rx := r, rxw := w, rxinfo := BitVec.ofNat 32 (n + 64 * b2n last) }).copDone t 1 copOk []

/-- RXPOP. R364. -/
def execRxpop (b : Fin 64) (s : State) : Host.Outcome State Fault Refusal := s.unitOp b.val (wordC 0 1 0 0x02 3) fun s t u _ => s.takeRx t u

/-- ACKARM. R364, R367. -/
def execAckarm (b : Fin 64) (s : State) : Host.Outcome State Fault Refusal :=
  s.unitOp b.val (wordC 0 1 0 0x03 3) fun s t u a =>
    if a.crc = some false then s.copDone t 1 copBadOperand []
    else (s.setUnit u { a with armedAt := some s.biTime }).copDone t 1 copOk []

/-- SETSTATE: CTRL applies at the next bit boundary; a stopped unit starts again with it. R364. -/
def execSetstate (b : Fin 64) (s : State) : Host.Outcome State Fault Refusal :=
  s.unitOp b.val (wordC 0 1 0 0x04 3) fun s t u a =>
    if 3 ≤ s.cop t 1 3 then s.copDone t 1 copBadOperand []
    else (s.setUnit u { a with next := some (s.cop t 1 3), stopped := false }).copDone t 1 copOk []

/-- TXABORT. R364. -/
def execTxabort (b : Fin 64) (s : State) : Host.Outcome State Fault Refusal :=
  s.unitOp b.val (wordC 0 1 0 0x05 3) fun s t u a =>
    if a.sending then s.copDone t 1 copBadOperand [] else (s.setUnit u { a with tx := [] }).copDone t 1 copOk []

/-- An event of a unit: its EVENTS bit and its OwnerThread's pending bit. R363. -/
def State.raiseUnit (s : State) (u e : Nat) : State :=
  let a := s.unit_ u
  (s.setUnit u { a with events := a.events ||| BitVec.ofNat 14 (2 ^ e) }).pend (s.unitOwner u) false 0x40#7

/-- A bit boundary has passed: a SETSTATE that waited has applied. R364. -/
def State.unitBoundary (s : State) (u : Nat) : State :=
  let a := s.unit_ u
  match a.next with
  | some v => s.setUnit u { a with state := v, next := none }
  | none => s

/-- A word received: into the RX FIFO and to a waiting RXPOP, or lost with its frame. R364. -/
def State.rxWord (s : State) (u : Nat) (w : Word) (n : Nat) (last : Bool) : State :=
  let a := s.unit_ u
  if a.rxDrop then s
  else if 4 ≤ a.rx.length then
    (((s.setUnit u { a with rxDrop := true }).bump (K.ctrUnitRxOverruns u)).almanacFirst 22 0x0F03 3 u [(1, u)]).raiseUnit u 9
  else
    let s := (s.setUnit u { a with rx := a.rx ++ [(w, n, last)] }).when last (·.bump (K.ctrUnitFramesRx u))
    let s := s.raiseUnit u 0
    let t := s.unitOwner u
    if tget 0 s.bio.waits (4 * (t - 512) + 1) = 1 + u then s.takeRx t u else s

/-- A word of the TX FIFO is taken; one that empties it before a word marked last is an underrun. R364. -/
def State.txWord (s : State) (u : Nat) : State :=
  let a := s.unit_ u
  match a.tx with
  | [] => s
  | (_, _, last) :: r =>
    let s := s.setUnit u { a with tx := r }
    if r.isEmpty && !last then
      (((s.setUnit u { s.unit_ u with sending := false }).bump (K.ctrUnitTxUnderruns u)).almanacFirst 22 0x0F03 3 u
        [(1, u)]).raiseUnit u 10
    else s

/-- What a unit does at an event of its bus: 0 RX word, 1 CRCOK, 2 CRC error, 3 ARB_LOST, 4 bit, 5 stuff, 6 form and 7 ACK error,
8 TX done, 9 RX overrun, 10 TX underrun, 11 bus idle, 12 LIN break, 13 SENT pulse; and two that set no EVENTS bit: 14 SOF (of the
unit's own frame when `last`), 15 a TX word taken. R363 to R365, R373. -/
def State.assistEvent (s : State) (u e : Nat) (w : Word) (n : Nat) (last : Bool) : State :=
  let a := s.unit_ u
  if e = 0 then s.rxWord u w n last
  else if e = 1 then (s.setUnit u { a with crc := some true }).raiseUnit u 1
  else if e = 2 then ((s.setUnit u { a with crc := some false }).bump (K.ctrUnitCrcErrors u)).raiseUnit u 2
  else if e = 3 then ((s.setUnit u { a with sending := false }).bump (K.ctrUnitArbLost u)).raiseUnit u 3
  else if e = 4 then (s.bump (K.ctrUnitBitErrors u)).raiseUnit u 4
  else if e = 5 then (s.bump (K.ctrUnitStuffErrors u)).raiseUnit u 5
  else if e = 6 then (s.bump (K.ctrUnitFormErrors u)).raiseUnit u 6
  else if e = 7 then (s.bump (K.ctrUnitAckErrors u)).raiseUnit u 7
  else if e = 8 then ((s.setUnit u { a with sending := false }).bump (K.ctrUnitFramesTx u)).raiseUnit u 8
  else if e = 9 then ((s.bump (K.ctrUnitRxOverruns u)).almanacFirst 22 0x0F03 3 u [(1, u)]).raiseUnit u 9
  else if e = 10 then
    (((s.setUnit u { a with sending := false }).bump (K.ctrUnitTxUnderruns u)).almanacFirst 22 0x0F03 3 u [(1, u)]).raiseUnit u 10
  else if e = 13 then (s.rxWord u w n last).raiseUnit u 13
  else if e = 14 then
    s.setUnit u { a with sofTime := s.biTime, crc := none, armedAt := none, ack := false, rxDrop := false
                         sending := last && !a.tx.isEmpty }
  else if e = 15 then s.txWord u
  else s.raiseUnit u e

/-- A unit runs: it has a mode and is not stopped. R353, R358, R372. -/
def State.unitRuns (s : State) (u : Nat) : Bool := decide (s.rd (K.unitMode u) ≠ 0) && !(s.unit_ u).stopped

/-- ASSIST_EVENT: an event of a unit that runs. R363, R364. -/
def execAssistEvent (u e : Fin 16) (w : BitVec 32) (n : Fin 33) (last : Bool) (s : State) : Host.Outcome State Fault Refusal :=
  .next (if !s.unitRuns u.val then s else (s.unitBoundary u.val).assistEvent u.val e.val w n.val last)

/-- ACK_SLOT_START: the slot of a frame being received is driven dominant when ACKARM issued at least 4 BI cycles before it. R367. -/
def execAckSlotStart (u : Fin 16) (s : State) : Host.Outcome State Fault Refusal :=
  let s1 := s.unitBoundary u.val
  let a := s1.unit_ u.val
  let inTime := match a.armedAt with
    | some t => decide (4 ≤ (s.biTime - t).toNat)
    | none => false
  .next (if !s.unitRuns u.val then s
    else if a.sending then s1
    else if inTime then s1.setUnit u.val { a with ack := true, armedAt := none }
    else (s1.setUnit u.val { a with ack := false, armedAt := none }).bump (K.ctrUnitAckMissed u.val))

/-- The level the device drives at a pin: none while it is an input, or while its assist unit drives it bit by bit (of which the
model keeps the ACK slot). R360, R367. -/
def State.pinDrive (s : State) (i : Nat) : Option Bool :=
  let f := s.pinFunction i
  if f = 0 then none
  else if f < 3 then some (s.pin i).out
  else
    let us := (List.range 16).filter fun u => decide (s.rd (K.unitMode u) ≠ 0)
      && (decide (s.rd (K.unitRxPin u) = i) || decide (s.rd (K.unitTxPin u) = i) || decide (s.rd (K.unitAuxPin u) = i))
    if s.rd (K.biopRunState (s.pinOwner i)) = 1 ∨ us.all (fun u => (s.unit_ u).stopped) then some (decide (bit (s.pinWord i) 3 = 1))
    else if us.any fun u => (s.unit_ u).ack && decide (s.rd (K.unitTxPin u) = i) then some false
    else none

/-! ### ACF bridge: uplink (R369, R370) -/

/-- The payload lengths of a CAN frame. R369. -/
def canLength (fd : Bool) (n : Nat) : Bool :=
  decide (n ≤ 8) || (fd && (decide (n = 12) || decide (n = 16) || decide (n = 20) || decide (n = 24) || decide (n = 32)
    || decide (n = 48) || decide (n = 64)))

/-- An ACF CAN message. R370; field places of IEEE 1722 (log entry 15). -/
def UpMsg.bytes (m : UpMsg) (busId : Nat) : List Byte :=
  let n := m.payload.length
  let q := cdiv n 4
  let pad := 4 * q - n
  let f := m.flags.toNat
  let id := m.canId.toNat
  toBE 2 (1 * 512 + (4 + q)) ++ toBE 1 (pad * 64 + 32 + bit id 30 * 16 + bit id 29 * 8 + bit f 1 * 4 + bit f 0 * 2 + bit f 2)
    ++ toBE 1 (busId % 32) ++ toBE 8 m.ts.toNat ++ toBE 4 (id % 2 ^ 29) ++ m.payload ++ List.replicate pad 0#8

/-- The bytes a message adds to a frame. -/
def UpMsg.size (m : UpMsg) : Nat := 16 + 4 * cdiv m.payload.length 4

def State.upStream (s : State) (k : Nat) : UpStream := tget UpStream.zero s.bio.streams k
def State.setUpStream (s : State) (k : Nat) (x : UpStream) : State :=
  { s with bio := { s.bio with streams := tset UpStream.zero s.bio.streams k x } }

/-- The header bytes of a stream's frame, before its messages. R370. -/
def State.upHead (s : State) (k len : Nat) (seq : BitVec 8) : List Byte :=
  let tag := s.rd (K.bstrTagWord k)
  toBE 6 (s.rd (K.bstrDestinationMac k)) ++ toBE 6 (s.rd K.bridgeBridgeMac)
    ++ (if bit tag 12 = 1 then toBE 2 0x8100 ++ toBE 2 (bits tag 15 13 * 8192 + tag % 4096) else [])
    ++ toBE 2 0x22F0 ++ toBE 1 0x82 ++ toBE 2 (0x8000 + len % 2048) ++ toBE 1 seq.toNat ++ toBE 8 (s.rd (K.bstrStreamId k))

/-- A stream's queue leaves in one frame, injected into the M0 parse pipeline. R370. -/
def State.bridgeFlush (s : State) (k : Nat) : State :=
  let x := s.upStream k
  if x.queue.isEmpty then s
  else
    let msgs := x.queue.flatMap fun m => m.bytes (s.rd (K.bchBusId m.chan))
    let f := s.upHead k msgs.length x.seq ++ msgs
    let f := f ++ List.replicate (60 - f.length) 0#8
    let s := (s.setUpStream k { x with queue := [], seq := x.seq + 1 }).bump K.ctrAcfUpFrames
    let dom := s.tsDomainOf 7 (s.ingressPriority 7 f)
    { s with bio := { s.bio with
      inject := s.bio.inject ++ [⟨f, BitVec.ofNat 64 (s.domainUnits dom), dom, 0xFF#8, 0#3, false⟩] } }

/-- The bytes a stream's frame would have with one message more. R370. -/
def State.upLength (s : State) (k : Nat) (m : UpMsg) : Nat :=
  (s.upHead k 0 0#8).length + ((s.upStream k).queue.map UpMsg.size).foldl (· + ·) 0 + m.size

/-- A message joins its stream's queue; the queue leaves before it when the frame would pass MaxFrameBytes, and with it when
BatchTimeout is 0. R369, R370. -/
def State.upQueue (s : State) (k : Nat) (m : UpMsg) : State :=
  let s := if !(s.upStream k).queue.isEmpty ∧ s.rd (K.bstrMaxFrameBytes k) < s.upLength k m then s.bridgeFlush k else s
  let x := s.upStream k
  let s := (s.setUpStream k { x with queue := x.queue ++ [m], since := if x.queue.isEmpty then s.now else x.since }).bump
    K.ctrAcfUpMessages
  if s.rd (K.bstrBatchTimeout k) = 0 then s.bridgeFlush k else s

/-- The time of a SOF in a domain: now less the BI cycles since. R369. -/
def State.sofDomainTime (s : State) (d : Nat) (sof : BitVec 32) : BitVec 64 :=
  BitVec.ofInt 64 ((s.domainNs d : Int) - ((s.biTime - sof).toNat * 5 / 4 : Nat))

/-- UPSUB by the OwnerThread of a CAN channel. R369. -/
def execUpsub (b : Fin 64) (s : State) : Host.Outcome State Fault Refusal :=
  s.copIssue b.val (wordC 0 2 0 0x01 3) 2 fun s t =>
    let c := s.cop t 2 0
    let id := s.cop t 2 1
    let fl := s.cop t 2 2
    let len := s.cop t 2 3
    let src := s.cop t 2 4
    let k := s.rd (K.bchUpStream c)
    if 8 ≤ c ∨ 8 ≤ k ∨ !s.on (K.bstrEnable k) ∨ 2 ^ 31 ≤ id ∨ 8 ≤ fl ∨ !canLength (decide (bit fl 0 = 1)) len ∨ src % 8 ≠ 0
        ∨ 32768 < src + len then s.copDone t 2 copBadOperand []
    else if s.unitOwner (s.rd (K.bchUnit c)) ≠ t then s.copDone t 2 copNotOwner []
    else if 64 ≤ (s.upStream k).queue.length then (s.bump K.ctrAcfUpQueueFull).copDone t 2 copFull []
    else
      let m : UpMsg := ⟨c, BitVec.ofNat 32 id, BitVec.ofNat 3 fl, s.loadBytes .barrelData (32768 * ((t - 512) / 16) + src) len,
        s.sofDomainTime (s.rd (K.bstrTsDomain k)) (BitVec.ofNat 32 (s.cop t 2 5))⟩
      (s.upQueue k m).copDone t 2 copOk []

/-- BATCH_TIMEOUT: BatchTimeout has passed since a stream's first queued message. R370. -/
def execBatchTimeout (k : Fin 8) (s : State) : Host.Outcome State Fault Refusal :=
  .next (if (s.upStream k.val).since + s.rd (K.bstrBatchTimeout k.val) ≤ s.now then s.bridgeFlush k.val else s)

/-! ### ACF bridge: downlink (R371) -/

/-- The ACF messages' place in an accepted frame: offset and length; none: another format. R371. -/
def acfSpan (b : List Byte) : Option (Nat × Nat) :=
  let vlan := fun off => decide (beAt b off 2 = 0x8100 ∨ beAt b off 2 = 0x88A8)
  let off := if vlan 12 then (if vlan 16 then 20 else 16) else 12
  if beAt b off 2 ≠ 0x22F0 then none
  else
    let h := off + 2
    let sub := beAt b h 1
    let span := if sub = 0x82 then some (h + 12, beAt b (h + 1) 2 % 2048) else if sub = 5 then some (h + 24, beAt b (h + 20) 2) else none
    match span with
    | some (o, n) => if o + n ≤ b.length then some (o, n) else none
    | none => none

/-- The channel whose BusId a message names. R371. -/
def State.chanOfBus (s : State) (bus : Nat) : Option Nat := (List.range 8).find? fun c => decide (s.rd (K.bchBusId c) = bus)

/-- Room in a ring of `n` bytes for an entry of `size` at its head: the place of the entry, when there is room for it and for the
rest of the ring it skips; head and tail never meet by it. R371. -/
def ringPlace (n head tail size : Nat) : Option Nat :=
  let used := (head + n - tail) % n
  let skip := if n < head + size then n - head else 0
  if n = 0 ∨ n ≤ used + skip + size then none else some (if skip = 0 then head else 0)

/-- One entry appended to a channel's downlink ring. R371. -/
def State.ringAppend (s : State) (c : Nat) (header : Nat) (payload : List Byte) : State :=
  let n := s.rd (K.bchDownRingBytes c)
  let base := 32768 * (s.rd (K.bchUnit c) / 4) + s.rd (K.bchDownRingBase c)
  let head := tget 0 s.bio.ringHead c
  let pad := List.replicate (8 * cdiv payload.length 8 - payload.length) 0#8
  let e := toLE 16 header ++ payload ++ pad
  match ringPlace n head (tget 0 s.bio.ringTail c) e.length with
  | none => (s.bump K.ctrAcfDownRingFull).almanacFirst 22 0x0F04 3 c
  | some at_ =>
    let s := if at_ = head then s else s.storeBytes .barrelData (base + head) (List.replicate (min 16 (n - head)) 0#8)
    let s := s.storeBytes .barrelData (base + at_) e
    ({ s with bio := { s.bio with ringHead := tset 0 s.bio.ringHead c ((at_ + e.length) % n) } } : State).bump K.ctrAcfDownMessages

/-- The ACF messages of a span, in order; one that does not fit the span ends it. R371. -/
def State.acfMessages (s : State) (b : List Byte) : Nat → Nat → Nat → State
  | 0, _, _ => s
  | f + 1, o, left =>
    if left = 0 then s
    else
      let ty := beAt b o 2 / 512
      let n := 4 * (beAt b o 2 % 512)
      let hd := if ty = 1 then 16 else 8
      if n = 0 ∨ left < n ∨ ((ty = 1 ∨ ty = 2) ∧ n < hd) then s.bump K.ctrAcfDownMalformed
      else
        let fl := beAt b (o + 2) 1
        let len := n - hd - fl / 64
        let s := if ty ≠ 1 ∧ ty ≠ 2 then s.bump K.ctrAcfDownSkipped
          else match s.chanOfBus (beAt b (o + 3) 1 % 32) with
            | none => s.bump K.ctrAcfDownSkipped
            | some c =>
              if 64 < len then s.bump K.ctrAcfDownMalformed
              else
                let mtv := if ty = 1 then bit fl 5 else 0
                let ts := if mtv = 1 then beAt b (o + 4) 8 else 0
                let id := beAt b (o + hd - 4) 4 % 2 ^ 29
                let flags := bit fl 3 + 2 * bit fl 4 + 4 * bit fl 1 + 8 * bit fl 2 + 16 * bit fl 0 + 32 * mtv
                s.ringAppend c (ts * 2 ^ 64 + len * 2 ^ 56 + flags * 2 ^ 48 + c * 2 ^ 40 + id) (slice b (o + hd) len)
        s.acfMessages b f (o + n) (left - n)

/-- BRIDGE_DOWNLINK: the oldest frame handed over to stream queue 63 of port 7. R305, R371. -/
def execBridgeDownlink (s : State) : Host.Outcome State Fault Refusal :=
  match s.tm.acfIn with
  | [] => .next s
  | c :: rest =>
    let b := s.copyBytes c
    let s := { s with tm := { s.tm with acfIn := rest } }
    let s := match acfSpan b with
      | none => s.bump K.ctrAcfDownMalformed
      | some (o, n) => (s.bump K.ctrAcfDownFrames).acfMessages b n o n
    .next (s.discardCopy 7 c)

/-! ### MFC and MTC (R248, R356, R364, R369) -/

/-- What a unit's register reads as: those of an assist unit and of a channel are not the thread's own. -/
def State.copRead (s : State) (t n x : Nat) : Word :=
  if n = 1 ∧ 0x20 ≤ x ∧ x ≤ 0x23 then
    let a := s.unit_ (s.cop t 1 0 % 16)
    if x = 0x20 then a.rxw else if x = 0x21 then a.rxinfo else if x = 0x22 then a.sofTime else a.events.setWidth 32
  else if n = 2 ∧ x = 6 then BitVec.ofNat 32 (tget 0 s.bio.ringTail (s.cop t 2 0 % 8))
  else if n = 2 ∧ x = 0x20 then BitVec.ofNat 32 (tget 0 s.bio.ringHead (s.cop t 2 0 % 8))
  else (s.thread t).hreg (hkey 0 n x)

/-- MFC of a barrel thread; reading EVENTS clears it. R188, R356, R364. -/
def State.mfcBarrel (s : State) (t r n x : Nat) : State :=
  let v := s.copRead t n x
  let u := s.cop t 1 0 % 16
  (s.when (decide (n = 1 ∧ x = 0x23)) fun s => s.setUnit u { s.unit_ u with events := 0#14 }).writeReg t r v

/-- MTC of a barrel thread; DNTAIL frees ring space of its channel. R356, R369. -/
def State.mtcBarrel (s : State) (t r n x : Nat) : State :=
  let v := s.reg t r
  if n = 2 ∧ x = 6 then
    ({ s with bio := { s.bio with ringTail := tset 0 s.bio.ringTail (s.cop t 2 0 % 8) v.toNat } } : State).done t
  else (s.setThread t ((s.thread t).setHreg (hkey 0 n x) v)).done t

/-- MFC. R188, R248, R253, R356. -/
def execMfc (t : Fin 580) (r : Fin 32) (n : Fin 4) (x : Fin 64) (s : State) : Host.Outcome State Fault Refusal :=
  s.issueOr t.val (wordC r n x 0 1) (fun s => s.helperHold t.val n.val x.val) fun s =>
    if isPacketThread t.val then s.mfcHelper t.val r.val n.val x.val else s.mfcBarrel t.val r.val n.val x.val

/-- MTC. R248, R253, R356. -/
def execMtc (t : Fin 580) (r : Fin 32) (n : Fin 4) (x : Fin 64) (s : State) : Host.Outcome State Fault Refusal :=
  s.issue t.val (wordC r n x 0 2) fun s =>
    if isPacketThread t.val then s.mtcHelper t.val r.val n.val x.val else s.mtcBarrel t.val r.val n.val x.val

/-- DNTAIL_WRITE: MTC of c2.0x06. R369. -/
def execDntailWrite (b : Fin 64) (r : Fin 32) (s : State) : Host.Outcome State Fault Refusal :=
  s.issue (512 + b.val) (wordC r 2 6 0 2) fun s => s.mtcBarrel (512 + b.val) r.val 2 6

end Sys2Proof.Machine
end

