-- ==== Sys2Proof/Machine/SafetyManager.lean ====
section
/-! DEFINITION. The Safety Manager (22_sounding_safety.md, R504 to R508): fault classes and reactions, safe state, the safe-state
outputs, the Pilot watchdogs and the device watchdog. -/

namespace Sys2Proof.Machine

/-! ### Units out of service (R498, R501, R502, R504) -/

/-- A logical core leaves service, both cores of a pair together: it gets no further grant, and the packets held there are reported with
code 0x05. R163, R196, R498, R501, R502. -/
def State.takeCoreOut (s : State) (core : Nat) : State :=
  let c := s.lower core
  if s.coreOut c then s
  else
    let s := (s.markCoreOut c).when (s.lockstep c) (·.markCoreOut (c + 1))
    (s.outEvent c).threadsOut c excEcc

/-- A cluster leaves service. R163, R498, R501, R525. -/
def State.takeClusterOut (s : State) (n : Nat) : State :=
  if bit (s.rd K.sndOutOfServiceClusters) n = 1 then s
  else
    let s := (s.wr K.sndOutOfServiceClusters (s.rd K.sndOutOfServiceClusters ||| 2 ^ n)).outEvent (64 + n)
    (List.range 4).foldl (fun s k => s.threadsOut (4 * n + k) excEcc) s

/-! ### Fault classes (R504) -/

def clsInfo : Nat := 0
def clsLocal : Nat := 1
def clsDegraded : Nat := 2
def clsCritical : Nat := 3
def clsFatal : Nat := 4

/-- The default class of a source. R504. -/
def State.defaultClass (s : State) (source : Nat) : Nat :=
  if source = 0 then clsInfo else if source = 1 then clsLocal
  else if source = 6 then (if s.variant = .a2s then clsDegraded else clsCritical)
  else if source ≤ 5 then clsDegraded else if source ≤ 10 then clsCritical else clsFatal

/-- The class of a source in force. -/
def State.sourceClass (s : State) (source : Nat) : Nat :=
  match tget 0 s.saf.classes source with
  | 0 => s.defaultClass source
  | c + 1 => c

/-- The class of a report: a MEM_NO_SPARE of Pilot SRAM, atomic memory or barrel RAM is CRITICAL at least. The unit of a
MEM_NO_SPARE is 256 × MemoryId + instance. R498, R504. -/
def State.reportClass (s : State) (source unit : Nat) : Nat :=
  let m := unit / 256
  if source = 4 ∧ (m = 6 ∨ m = 8 ∨ m = 9) then max clsCritical (s.sourceClass 4) else s.sourceClass source

/-- A write of the fault-class domain, with its OpStatus: a class below the default is refused. R471, R504, R511. -/
def State.faultClass (s : State) (source v : Nat) : State :=
  if clsFatal < v ∨ v < s.defaultClass source then s.status opRefused
  else
    ((({ s with saf := { s.saf with classes := tset 0 s.saf.classes source (if v = s.defaultClass source then 0 else v + 1) } }
      : State).bump K.cmtStagedWrites).status 0)

/-- FAULT_CLASS_WRITE. R504. -/
def execFaultClassWrite (pos : Fin 12) (v : BitVec 8) (s : State) : Host.Outcome State Fault Refusal :=
  .next (s.faultClass pos.val v.toNat)

/-! ### Safe state (R505) -/

/-- FaultStatus bits set. -/
def State.faultBits (s : State) (m : Nat) : State := s.wr K.safFaultStatus (s.rd K.safFaultStatus ||| m)

/-- The record of a CRITICAL or FATAL fault. R505, R513. -/
def State.safeRecord (s : State) (source : Nat) : State :=
  s.almanac 24 (if source = 7 ∨ source = 8 then 0x1506 else 0x1502) 6 [(1, source)]

/-- Entry to safe state: outputs low, the bits that stop the software path, the record, the urgent flush, the reset to come. The
unit of a PLL fault is the PLL's number; 0 is PX. R505, R508. -/
def State.enterSafe (s : State) (source unit : Nat) (fatal : Bool) : State :=
  let d := s.rd K.safSafeResetDelay
  let s := ((s.faultBits 6).bump K.ctrSafSafeStateEntries).safeRecord source
  let s := { s with saf := { s.saf with
    safeOut := false, lodestarOff := decide (source = 9) && decide (unit = 0)
    safeAt := if fatal then some (s.now + 10 ^ 6) else if d = 0 then none else some (s.now + d * 10 ^ 6)
    safeCause := if source = 11 then causeDeviceWatchdog else causeSafeState } }
  s.urgentFlush

/-- A second fault in safe state: recorded; a FATAL one shortens the remaining delay to 1 ms. R505. -/
def State.againSafe (s : State) (source : Nat) (fatal : Bool) : State :=
  let s := s.safeRecord source
  if fatal then
    let t := s.now + 10 ^ 6
    let sooner := match s.saf.safeAt with
      | some u => decide (t < u)
      | none => true
    if sooner then
      { s with saf := { s.saf with
        safeAt := some t, safeCause := if source = 11 then causeDeviceWatchdog else causeSafeState } }
    else s
  else s

/-- The counter of a class. R512. -/
def classCounter (c : Nat) : Nat :=
  if c = 0 then K.ctrSafFaultsInfo else if c = 1 then K.ctrSafFaultsLocal else if c = 2 then K.ctrSafFaultsDegraded
  else if c = 3 then K.ctrSafFaultsCritical else K.ctrSafFaultsFatal

/-- A report is classed, counted and reacted to. A THREAD fault raised to DEGRADED takes the packet thread's core out of service;
the units of the other sources have left service where the fault was found. R504, R505. -/
def State.safetyFault (s : State) (source unit : Nat) : State :=
  let c := s.reportClass source unit
  let s := s.bump (classCounter c)
  if c ≤ clsLocal then s
  else if c = clsDegraded then
    let s := s.almanac 24 0x1501 4 [(1, source), (2, unit)]
    if s.safeState then s
    else (s.faultBits 1).when (decide (source = 1) && isPacketThread unit) (·.takeCoreOut (unit / 8))
  else if s.safeState then s.againSafe source (decide (c = clsFatal))
  else s.enterSafe source unit (decide (c = clsFatal))

/-- SAFETY_FAULT: the oldest report the model's blocks have raised reaches AON, or a report of a fault line whose detection lies
outside the commands. R504. -/
def execSafetyFault (report : Option (Fin 12 × BitVec 16)) (s : State) : Host.Outcome State Fault Refusal :=
  match report with
  | some (source, unit) => .next (s.safetyFault source.val unit.toNat)
  | none =>
    match s.saf.reports with
    | [] => .next s
    | (source, unit) :: r => .next (({ s with saf := { s.saf with reports := r } } : State).safetyFault source unit)

/-- SAFE_RESET_DELAY_EXPIRY. R505, R508. -/
def execSafeResetDelayExpiry (s : State) : Host.Outcome State Fault Refusal :=
  .next (match s.saf.safeAt with
    | some t => if t ≤ s.now then
        ({ s with saf := { s.saf with safeAt := none } } : State).sampleCause s.saf.safeCause else s
    | none => s)

/-- A write of SafeRelease, with its abort code. R506. -/
def State.safeRelease (s : State) (v : Nat) : State :=
  if 1 < v then s.aborted Abort.valueRange
  else if v = 0 then s.aborted Abort.ok
  else if s.rd K.binBootState ≠ 1 ∨ bit (s.rd K.safFaultStatus) 2 = 1 ∨ s.safeState then s.aborted Abort.inconsistent
  else
    let s := s.when (!s.saf.safeOut) (·.almanac 24 0x1505 2)
    ({ s with saf := { s.saf with safeOut := true } } : State).aborted Abort.ok

/-- SAFE_RELEASE. R506. -/
def execSafeRelease (v : Bool) (s : State) : Host.Outcome State Fault Refusal := .next (s.safeRelease (b2n v))

/-! ### Pilot pairs (R507) -/

/-- A commit fails with an abort code and the entry it names. R459, R462, R467. -/
def State.commitFails (s : State) (code entry : Nat) : State :=
  let s := { s with uda := { s.uda with commit := none } }
  ((((s.wr K.cmtCommitState 4).wr K.cmtLastResult code).bump K.ctrUdaCommitFailures).almanac 23 0x1305 4 [(4, code), (4, entry)])

/-- A pair's number written to PilotKick, with its abort code. R507. -/
def State.pilotKick (s : State) (pair : Nat) : State :=
  if 1 < pair then s.aborted Abort.valueRange
  else ({ s with saf := { s.saf with kicks := tset 0 s.saf.kicks pair s.now } } : State).aborted Abort.ok

/-- PILOT_KICK. R507. -/
def execPilotKick (pair : BitVec 8) (s : State) : Host.Outcome State Fault Refusal := .next (s.pilotKick pair.toNat)

/-- A pair has been released and is not restarting. R507. -/
def State.pairActive (s : State) (pair : Nat) : Bool :=
  decide ((s.thread (576 + 2 * pair)).st ≠ .idle) && !s.saf.restarting.contains pair

/-- A pair is reset: its cores stop, a commit under way ends with HARDWARE, and the exception queue is discarded. R507. -/
def State.resetPair (s : State) (pair : Nat) : State :=
  let s := (s.reportFault 6 pair).stopPilot (576 + 2 * pair)
  let s := { s with saf := { s.saf with restarting := pair :: s.saf.restarting } }
  let s := s.when s.uda.commit.isSome (·.commitFails Abort.hardware 0)
  let q := s.pc.exceptionQ
  let s := { s with pc := { s.pc with exceptionQ := [] } }
  (q.foldl (fun (s : State) (d : Desc) => s.release d.firstCell.toNat ownPilot) s).bump K.ctrSafExceptionDiscarded q.length

/-- PILOT_WATCHDOG_EXPIRY. R507. -/
def execPilotWatchdogExpiry (pair : Fin 2) (s : State) : Host.Outcome State Fault Refusal :=
  .next (if s.pairActive pair.val ∧ tget 0 s.saf.kicks pair.val + s.rd K.safPilotWatchdogTime * 10 ^ 6 ≤ s.now then
    s.resetPair pair.val else s)

/-- PILOT_LOCKSTEP_MISMATCH. R507. -/
def execPilotLockstepMismatch (pair : Fin 2) (s : State) : Host.Outcome State Fault Refusal :=
  .next (if s.pairActive pair.val then s.resetPair pair.val else s)

/-! ### The device watchdog (R508) -/

/-- The device watchdog expires: a FATAL fault. -/
def State.deviceWd (s : State) : State :=
  let s := { s with saf := { s.saf with wdArmed := false, wdFirst := none } }
  ((s.bump K.ctrSafDeviceWdExpiries).almanac 24 0x1503 7).reportFault 11 0

/-- A complete kick: early, or the start of the next window. -/
def State.kicked (s : State) : State :=
  if s.saf.wdKicked ∧ s.now < s.saf.wdKickAt + s.rd K.safDeviceWdMin * 10 ^ 6 then s.deviceWd
  else { s with saf := { s.saf with wdKicked := true, wdKickAt := s.now, wdFirst := none } }

/-- A byte written to DeviceKick. A first byte that is not 0x5A, and one that comes more than 1 us after a first, begins nothing
unless it is itself 0x5A. -/
def State.deviceKick (s : State) (v : Nat) : State :=
  let first : State :=
    if v = 0x5A then { s with saf := { s.saf with wdFirst := some s.now } } else { s with saf := { s.saf with wdFirst := none } }
  (if !s.saf.wdArmed then s
    else match s.saf.wdFirst with
      | some t => if s.now ≤ t + 1000 then (if v = 0xA5 then s.kicked else s.deviceWd) else first
      | none => first).aborted Abort.ok

/-- DEVICE_KICK. R508. -/
def execDeviceKick (v : BitVec 8) (s : State) : Host.Outcome State Fault Refusal := .next (s.deviceKick v.toNat)

/-- DEVICE_WD_EXPIRY. R508. -/
def execDeviceWdExpiry (s : State) : Host.Outcome State Fault Refusal :=
  .next (if s.saf.wdArmed ∧ s.saf.wdKickAt + s.rd K.safDeviceWdMax * 10 ^ 6 ≤ s.now then s.deviceWd else s)

end Sys2Proof.Machine
end

