-- ==== Sys2Proof/Machine/Chrono.lean ====
section
/-! DEFINITION. The Chronometer (14_time_and_egress.md, R321, R322, R324, R327 to R330, R343): domain times, steps, the tick, the
1PPS input with its PLL and holdover, and the 1PPS output. The model's time advances here and nowhere else (log entry 2). -/

namespace Sys2Proof.Machine

def State.setDomain (s : State) (d : Nat) (x : TimeDomain) : State :=
  { s with chron := { s.chron with domains := tset TimeDomain.zero s.chron.domains d x } }

/-- The largest magnitude of RateAdjust. R321. -/
def rateLimit : Int := 1099511627

/-- A domain `n` TM cycles later at a rate adjustment; the count never wraps. R321, R322. -/
def TimeDomain.advance (x : TimeDomain) (rate : Int) (n : Nat) : TimeDomain :=
  let t := x.units * 2 ^ 40 + x.frac + (n * 4 * ((2 ^ 40 : Int) + rate)).toNat
  if t / 2 ^ 40 < 2 ^ 64 then { x with units := t / 2 ^ 40, frac := t % 2 ^ 40 } else { x with units := 2 ^ 64 - 1, frac := 0 }

/-- A domain time after a step, held to 0 and to 2^64 - 1 units. R322. -/
def TimeDomain.stepped (x : TimeDomain) (step : Int) : TimeDomain :=
  let t := (x.units : Int) + step
  if t < 0 then { x with units := 0, frac := 0, step := none }
  else if 2 ^ 64 ≤ t then { x with units := 2 ^ 64 - 1, frac := 0, step := none }
  else { x with units := t.toNat, step := none }

/-- A pending step is applied: counted, recorded with the change made, and the gates that read the domain resynchronise. R322,
R341. -/
def State.applyStep (s : State) (d : Nat) : State :=
  let x := s.domain d
  match x.step with
  | none => s
  | some k =>
    let y := x.stepped k
    let made := ((y.units : Int) - (x.units : Int)).tdiv 4
    let s := (((s.setDomain d y).bump K.ctrChrDomainSteps).almanac 20 0x0E03 2 [(1, d), (8, ofSigned 64 made)])
    (List.range 8).foldl (fun s p => if s.rd (K.tmpGateDomain p) = d then s.gateResync p else s) s

/-- A frame of class `c` waits at a port. -/
def State.classWaits (s : State) (p c : Nat) : Bool :=
  !(s.headsOf p c).isEmpty || (match (s.port p).preempted with
    | some f => decide (f.cls = c)
    | none => false)

/-- Class `c` of a port is transmitting, a Lodestar frame as one of its EgressClass. R119, R343. -/
def State.classSends (s : State) (p c : Nat) : Bool :=
  match (s.port p).line with
  | some f => f.control.isNone && decide (f.cls = c)
  | none => false

/-- The credit of a shaped class after `n` ns, in 10^-6 bits. R343. -/
def State.creditAfter (s : State) (p c n : Nat) : Int :=
  let v := tget 0 (s.tmPort p).credit c
  let idle : Int := s.rd (K.tmpIdleSlope p c)
  if !s.gateOpen p c then v
  else if s.classSends p c then v + n * (idle - s.portRate p)
  else if s.classWaits p c then v + n * idle
  else min v 0

/-- The credits of a port's shaped classes after `n` ns. R343. -/
def State.creditTick (s : State) (p n : Nat) : State :=
  if s.rd (K.tmpCbsEnable p) = 0 then s
  else (List.range 8).foldl (fun s c =>
    if bit (s.rd (K.tmpCbsEnable p)) c = 0 then s
    else s.setTmPort p { s.tmPort p with credit := tset 0 (s.tmPort p).credit c (s.creditAfter p c n) }) s

/-- Cycle counters of conditions that hold over a tick: OB cycles under back-pressure (1.5 GHz), DX cycles with a full journal and a
packet waiting for a ticket (2 GHz), and PL cycles (1.2 GHz) that a completion record has waited. R21, R173, R310, R406. -/
def State.cycleCounters (s : State) : State :=
  let s := (List.range 32).foldl (fun s p => if s.on (K.poolBackPressure p) then s.bump (K.ctrPoolBackPressureCycles p) 12 else s) s
  let s := if 4096 ≤ s.oru.journal.length ∧ !s.pc.toDx.isEmpty then s.bump K.ctrOruJournalFullCycles 16 else s
  let held := fun t => (t - s.dma.heldAt) * 6 / 5
  if s.dma.held.isEmpty then s else s.bump K.ctrDmaCqFullCycles (held (s.now + 8) - held s.now)

/-- CHRONO_TICK: 8 TM cycles pass; pending steps are applied in the tick's cycle, before the tick carries the domain times to the
Dispatcher. R138, R321, R322, R324, R343. -/
def execChronoTick (s : State) : Host.Outcome State Fault Refusal :=
  let s := (List.range 8).foldl (fun s p => s.creditTick p 8) s
  let s := s.cycleCounters
  let s := { s with now := s.now + 8 }
  let s := (List.range 4).foldl (fun s d => s.setDomain d ((s.domain d).advance (s.rdInt 32 (K.domRateAdjust d)) 8)) s
  let stepped := (List.range 4).filter fun d => (s.domain d).step.isSome
  let s := stepped.foldl State.applyStep s
  .next ((s.dispatcherTick ((List.range 4).map s.domainNs) stepped).drain 16).traceDrain

/-! ### Writes -/

/-- A write of a domain's RateAdjust, with the abort code. A write under Source PPS is refused. R321, R322, R328. -/
def State.rateAdjust (s : State) (d v : Nat) : State :=
  let r := toSigned 32 v
  if rateLimit < r ∨ r < -rateLimit ∨ s.rd (K.domSource d) = 1 then s.aborted Abort.valueRange
  else (s.wr (K.domRateAdjust d) (v % 2 ^ 32)).aborted Abort.ok

/-- RATE_ADJUST_WRITE. R322. -/
def execRateAdjustWrite (d : Fin 4) (v : BitVec 32) (s : State) : Host.Outcome State Fault Refusal :=
  .next (s.rateAdjust d.val v.toNat)

/-- A write of a domain's StepOffset: it waits for the next tick, in place of one that waits. R322. -/
def State.stepOffset (s : State) (d v : Nat) : State :=
  let k := toSigned 64 v
  if 2 ^ 61 < k ∨ k < -(2 ^ 61) then s.aborted Abort.valueRange
  else (s.setDomain d { s.domain d with step := some (4 * k) }).aborted Abort.ok

/-- STEP_OFFSET_WRITE. R322. -/
def execStepOffsetWrite (d : Fin 4) (v : BitVec 64) (s : State) : Host.Outcome State Fault Refusal :=
  .next (s.stepOffset d.val v.toNat)

/-! ### 1PPS input -/

def domLocking : Nat := 1
def domLocked : Nat := 2
def domHoldover : Nat := 3

/-- A change of a domain's Source: the next edge at 1PPS_IN is valid, and State follows. R327, R328. -/
def State.sourceChanged (s : State) (d v : Nat) : State :=
  let s := { s with chron := { s.chron with lastEdge := none, awaited := none } }
  (s.setDomain d { s.domain d with goods := 0, bads := 0, missed := 0, outputs := [], integ := 0 }).wr (K.domState d)
    (if v = 1 then domLocking else 0)

/-- A value within the limits of RateAdjust. -/
def clampRate (r : Int) : Int := max (-rateLimit) (min rateLimit r)

/-- The phase error of a captured time, in 0.25 ns units: the time modulo 1 s in (-0.5 s, 0.5 s]. R328. -/
def phaseError (units : Nat) : Int :=
  let m : Nat := units % (4 * 10 ^ 9)
  if m ≤ 2 * 10 ^ 9 then (m : Int) else (m : Int) - 4 * 10 ^ 9

/-- The PLL of a domain takes a valid edge: it steps the domain, or updates RateAdjust. R328. -/
def State.pllEdge (s : State) (d : Nat) (e : Int) : State :=
  let x := s.domain d
  if s.rd (K.domState d) = domLocking ∧ 4 * s.rd (K.domPpsStepThreshold d) < e.natAbs then s.setDomain d { x with step := some (-e) }
  else
    let y := Config.pllLoop (s.rdInt 32 (K.domRateAdjust d)) x.integ (e.tdiv 4) (s.rd (K.domPpsBandwidth d))
    let r := clampRate y.1
    (s.setDomain d { x with outputs := (r :: x.outputs).take 64, integ := y.2 }).wr (K.domRateAdjust d) (ofSigned 32 r)

/-- The State of a domain after a valid edge. R328. -/
def State.lockState (s : State) (d : Nat) (e : Int) : State :=
  let x := s.domain d
  let close := decide (e.natAbs ≤ 4 * s.rd (K.domPpsLockThreshold d))
  if s.rd (K.domState d) = domLocked then
    if close then s.setDomain d { x with bads := 0 }
    else if 4 ≤ x.bads + 1 then (s.setDomain d { x with goods := 0, bads := 0 }).wr (K.domState d) domLocking
    else s.setDomain d { x with bads := x.bads + 1 }
  else if !close then s.setDomain d { x with goods := 0 }
  else if 8 ≤ x.goods + 1 then
    ((s.setDomain d { x with goods := 0, bads := 0 }).wr (K.domState d) domLocked).almanac 20 0x0E02 1
      [(1, d), (4, s.rd (K.domPhaseError d))]
  else s.setDomain d { x with goods := x.goods + 1 }

/-- A valid edge reaches a domain: its capture, and under Source PPS its phase error, PLL and State. R327, R328. -/
def State.domainEdge (s : State) (at_ : Int) (d : Nat) : State :=
  let cap := ofSigned 64 ((s.domainUnits d : Int) + at_ - s.rdInt 32 K.chrPpsInCorrection)
  let s := s.wr (K.domPpsInTime d) cap
  if s.rd (K.domSource d) ≠ 1 then s
  else
    let e := phaseError cap
    let s := s.wr (K.domPhaseError d) (ofSigned 32 (e.tdiv 4))
    let x := { s.domain d with missed := 0 }
    let s := if s.rd (K.domState d) = domHoldover then
        (s.setDomain d { x with goods := 0, bads := 0 }).wr (K.domState d) domLocking
      else s.setDomain d x
    (s.pllEdge d e).lockState d e

/-- PPS_IN_EDGE: a rising edge at 1PPS_IN, `quarter` units of 0.25 ns after the last tick. The value captured lies within 0.5 ns of its
time: by how much it is off is a free value, one for the four domains (log entry 5). R327. -/
def execPpsInEdge (quarter : Fin 32) (s : State) : Host.Outcome State Fault Refusal :=
  let cycle := s.now + quarter.val / 4
  let valid := match s.chron.lastEdge with
    | none => true
    | some l => decide (l + 10 ^ 9 ≤ cycle + 100000) && decide (cycle ≤ l + 10 ^ 9 + 100000)
  .next (if valid then
      let at_ : Int := (quarter.val : Int) + (s.free 5 : Int) - 2
      (List.range 4).foldl (fun s d => s.domainEdge at_ d)
        { s.tick with chron := { s.chron with lastEdge := some cycle, awaited := some cycle } }
    else (s.bump K.ctrChrPpsRejected).almanac 20 0x0E04 3)

/-- A missed pulse at a domain: the second in a row takes it from LOCKING or LOCKED into HOLDOVER, its rate frozen at the mean of
the last outputs. R328, R329. -/
def State.domainMissed (s : State) (d : Nat) : State :=
  let st := s.rd (K.domState d)
  if st ≠ domLocking ∧ st ≠ domLocked then s
  else
    let x := s.domain d
    if x.missed + 1 < 2 then s.setDomain d { x with missed := x.missed + 1 }
    else
      let l := x.outputs.take (s.rd (K.domHoldoverAverage d))
      let s := if l.isEmpty then s
        else s.wr (K.domRateAdjust d) (ofSigned 32 ((l.foldl (· + ·) 0) / (l.length : Int)))
      (((s.setDomain d { x with missed := 0, goods := 0, bads := 0 }).wr (K.domState d) domHoldover).bump
        K.ctrChrHoldoverEntries).almanac 20 0x0E01 3 [(1, d)]

/-- PPS_MISSED: no valid edge by 100 µs after it was due, which counts as a missed pulse; the next is due 1 s later. An edge is still judged
by the last valid one alone (log entry 65). R327. -/
def execPpsMissed (s : State) : Host.Outcome State Fault Refusal :=
  match s.chron.awaited with
  | none => .next s
  | some l =>
    .next (if s.now ≤ l + 1000100000 then s
      else (List.range 4).foldl State.domainMissed
        (({ s with chron := { s.chron with awaited := some (l + 10 ^ 9) } } : State).bump K.ctrChrPpsMissed))

/-! ### 1PPS output -/

/-- The TM cycle in which an edge fell due at 1PPS_OUT, when that is in the last two ticks: the chosen domain, PpsOutCorrection ahead (the
correction's sense: log entry 66, PRESUMED), passed a second plus PpsOutOffset. R330. -/
def State.ppsOutDue (s : State) : Option Nat :=
  let x : Int := (s.domainUnits (s.rd K.chrPpsOutDomain) : Int) + s.rdInt 32 K.chrPpsOutCorrection - 4 * s.rdInt 32 K.chrPpsOutOffset
  let r := (x % (4 * 10 ^ 9 : Int)).toNat
  if r < 64 then some (s.now - r / 4) else none

/-- PPS_OUT_EDGE: an edge falls due at 1PPS_OUT; one due less than 0.5 s after the one before is suppressed. R330. -/
def execPpsOutEdge (s : State) : Host.Outcome State Fault Refusal :=
  .next (match s.ppsOutDue with
    | none => s
    | some t =>
      let same := match s.chron.ppsDueAt with
        | some u => decide (t < u + 4)
        | none => false
      let soon := match s.chron.ppsOutAt with
        | some u => decide (t < u + 5 * 10 ^ 8)
        | none => false
      if !s.on K.chrPpsOutEnable || same then s
      else
        let s := { s with chron := { s.chron with ppsDueAt := some t } }
        if soon then s.bump K.ctrChrPpsOutSuppressed
        else { s with chron := { s.chron with ppsOut := true, ppsOutAt := some t } })

/-- PPS_OUT_FALL: PpsOutWidth after the rising edge. R330. -/
def execPpsOutFall (s : State) : Host.Outcome State Fault Refusal :=
  match s.chron.ppsOutAt with
  | none => .next s
  | some t =>
    .next (if s.chron.ppsOut ∧ t + 1000 * s.rd K.chrPpsOutWidth ≤ s.now then { s with chron := { s.chron with ppsOut := false } }
      else s)

end Sys2Proof.Machine
end

