-- ==== Sys2Proof/Machine/Cluster.lean ====
section
/-! DEFINITION. The clusters' operating points (01_architecture.md, R16; 23_power_reset_boot.md, R517) and code banks
(09_wenkin_programming_model.md, R226). -/

namespace Sys2Proof.Machine

/-! ### Operating points (R16, R517) -/

/-- The adaptive-voltage loop is tracking. R517. -/
def State.avsTracking (s : State) : Bool := decide (s.rd K.rstAvsState = 1)

/-- A write of a cluster's OperatingPoint, with its abort code. A rise under the adaptive-voltage loop first asks the regulator
for the new point's voltage and waits; any other change begins at once. R16, R442, R517. -/
def State.operatingPoint (s : State) (n v : Nat) : State :=
  if 4 ≤ v then s.aborted Abort.valueRange
  else
    let rise := decide (v < s.rd (K.cluOperatingPointActive n))
    let s := s.wrP (K.cluOperatingPoint n) v
    let w := s.boot.avsWait.filter (· ≠ n)
    let s := { s with boot := { s.boot with avsWait := if rise && s.avsTracking then w ++ [n] else w } }
    (s.when (rise && s.avsTracking) fun s =>
      s.wr K.rstCoreVoltage (max (s.rd K.rstCoreVoltage) (Config.pointVoltage v))).aborted Abort.ok

/-- OPERATING_POINT_WRITE. R16. -/
def execOperatingPointWrite (n : Fin 16) (v : BitVec 8) (s : State) : Host.Outcome State Fault Refusal :=
  .next (s.operatingPoint n.val v.toNat)

/-- OPERATING_POINT_CHANGE_DONE: the new point is in force and issue resumes. R16. -/
def execOperatingPointChangeDone (n : Fin 16) (s : State) : Host.Outcome State Fault Refusal :=
  .next (if s.boot.avsWait.contains n.val then s else s.wr (K.cluOperatingPointActive n.val) (s.rd (K.cluOperatingPoint n.val)))

/-! ### Code banks (R226) -/

/-- Items of a thread begun in a bank. -/
def Thread.itemsIn (x : Thread) (b : Nat) : Nat :=
  b2n (x.item.isSome && decide (x.codeBank = b)) + (match x.saved with
    | some v => b2n (decide (v.codeBank = b))
    | none => 0)

/-- OldBankItems: items that still run in the bank that is not active. R226, R228. -/
def State.oldBankItems (s : State) (n : Nat) : Nat :=
  ((List.range 32).map fun i => (s.thread (32 * n + i)).itemsIn (1 - s.activeBank n)).foldl (· + ·) 0

/-- The loop buffers of a cluster are invalidated. R194, R226. -/
def State.dropLoopBuffers (s : State) (n : Nat) : State :=
  (List.range 32).foldl (fun s i =>
    let x := s.thread (32 * n + i)
    s.setThread (32 * n + i) { x with loops := uncaptured x.loops }) s

/-- A write of BankControl, with its abort code. A bank without a verified image is unusable for SWITCH. R226, R426, R442. -/
def State.bankControl (s : State) (n v : Nat) : State :=
  let b := 1 - s.activeBank n
  if v ≠ 1 then s.aborted Abort.valueRange
  else if s.rd (K.bankSwitchState n) = 1 then s.aborted Abort.busy
  else if !tget false s.boot.codeOk (2 * n + b) then s.aborted Abort.inconsistent
  else (((s.dropLoopBuffers n).wr (K.bankActiveBank n) b).wr (K.bankSwitchState n) 1).aborted Abort.ok

/-- SWITCH. R226. -/
def execSwitch (n : Fin 16) (s : State) : Host.Outcome State Fault Refusal := .next (s.bankControl n.val 1)

/-- SWITCH_DRAINED: no thread holds an item begun in the old bank. R226. -/
def execSwitchDrained (n : Fin 16) (s : State) : Host.Outcome State Fault Refusal :=
  .next (if s.rd (K.bankSwitchState n.val) ≠ 1 ∨ s.oldBankItems n.val ≠ 0 then s
    else (s.wr (K.bankSwitchState n.val) 0).almanac (1 + n.val) 0x0902 2 [(1, n.val), (1, s.activeBank n.val)])

/-- A code image put into bank b of a cluster: held there, and usable once verified. R226, R425, R426. -/
def State.putCode (s : State) (n b : Nat) (image : List Byte) (ok : Bool) : State :=
  let s := s.storeBytes .code (131072 * (2 * n + b)) ((imgBody image).take 131072)
  { s with boot := { s.boot with codeOk := tset false s.boot.codeOk (2 * n + b) ok } }

/-- LOAD of a cluster's inactive bank, with its OpStatus: refused while that bank is draining. R226, R471. -/
def State.loadCodeBank (s : State) (n : Nat) (image : List Byte) : State :=
  if s.rd (K.bankSwitchState n) = 1 then s.status opRefused
  else
    let r := s.verifyService image
    let v := if r.1 = bsOk ∧ (imgType image ≠ 3 ∨ bit (imgTargets image) n = 0) then bsBadImage else r.1
    (r.2.putCode n (1 - s.activeBank n) image (decide (v = bsOk))).status v

/-- CODE_BANK_LOAD. R226. -/
def execCodeBankLoad (n : Fin 16) (image : List (BitVec 8)) (s : State) : Host.Outcome State Fault Refusal :=
  .next (s.loadCodeBank n.val image)

end Sys2Proof.Machine
end

