-- ==== Sys2Proof/Machine/Sounding.lean ====
section
/-! DEFINITION. Sounding (22_sounding_safety.md, R495 to R503): memory slices with soft repair, logic and helper slices, return to
service, and the full test. -/

namespace Sys2Proof.Machine

/-! ### The memories under test (R495) -/

/-- A memory under transparent test: MemoryId, instances, words an instance, bits a word, words a repair granule, spares. -/
structure TestMem where
  id : Nat
  count : Nat
  words : Nat
  width : Nat
  granule : Nat
  spares : Nat
deriving DecidableEq, Repr

/-- *Memories under transparent test*. The words of MemoryId 7 follow from R66 and R76: 4,096 patterns of 88 bytes, and 8,192
rules of 132 bytes in each copy (log entry 34). -/
def testMems : List TestMem :=
  [⟨1, 64, 98304, 64, 32, 4⟩, ⟨2, 2, 131136, 256, 4, 8⟩, ⟨3, 64, 16384, 32, 64, 4⟩, ⟨4, 16, 32768, 32, 64, 4⟩,
   ⟨5, 16, 65536, 32, 64, 4⟩, ⟨6, 1, 1048576, 32, 64, 8⟩, ⟨7, 3, 270336, 32, 64, 4⟩, ⟨8, 1, 8192, 64, 64, 2⟩,
   ⟨9, 4, 24576, 32, 64, 2⟩]

/-- Words of an instance; that of the patterns is the 2 MiB of the Pattern Engine. R27, R76. -/
def TestMem.wordsOf (m : TestMem) (inst : Nat) : Nat := if m.id = 7 ∧ inst = 0 then 524288 else m.words

/-- The memory and instance at a place in the visiting order. -/
def instanceAt : List TestMem → Nat → Option (TestMem × Nat)
  | [], _ => none
  | m :: r, n => if n < m.count then some (m, n) else instanceAt r (n - m.count)

/-- The granule of a word: a cell handle, a bucket, or a row. R495, R498. -/
def TestMem.granuleOf (m : TestMem) (inst word : Nat) : Nat :=
  if m.id = 1 then 64 * (word / 32) + inst else word / m.granule

/-- All spares of the device. -/
def allSpares : Nat := (testMems.map fun m => m.count * m.spares).foldl (· + ·) 0

/-- SparesFree (5400:07). R510. -/
def State.sparesFree (s : State) : Nat := allSpares - (s.snd.spares.map Prod.snd).foldl (· + ·) 0

/-! ### Results (R503) -/

/-- A result: MemoryId, instance, word, bit, stuck value, outcome. The domain keeps the newest 256. R503. -/
def State.result (s : State) (mem inst word bit_ stuck outcome : Nat) : State :=
  let v := mem * 2 ^ 120 + inst * 2 ^ 112 + word * 2 ^ 80 + bit_ * 2 ^ 72 + stuck * 2 ^ 71 + outcome * 2 ^ 68
    + s.domainNs 0 % 2 ^ 64
  { s with snd := { s.snd with
    results := tset 0 s.snd.results s.snd.resultAt v, resultAt := (s.snd.resultAt + 1) % 256 } }

/-! ### Memory slices (R495 to R498) -/

/-- A granule retired for want of a spare. R498. -/
def State.retireGranule (s : State) (mem inst g : Nat) : State :=
  if mem = 1 then
    if s.orch.retired.contains g then s
    else ({ s with orch := { s.orch with retired := g :: s.orch.retired } } : State).bump K.ctrSndRetiredCells
  else if mem = 2 then
    let add (r : Replica) : Replica := { r with retired := g :: r.retired.filter (· ≠ g) }
    { s with br := if inst = 0 then { s.br with east := add s.br.east } else { s.br with west := add s.br.west } }
  else if mem = 3 then s.takeCoreOut inst
  else if mem = 4 ∨ mem = 5 then s.takeClusterOut inst
  else if mem = 7 then
    let l := if inst = 0 then List.range 16 else (List.range 8).map (· + 8 * (inst - 1))
    l.foldl State.takeClusterOut s
  else s

/-- A permanent fault: repaired with the instance's next spare, or the granule retired. R497, R498, R511. -/
def State.permanentFault (s : State) (m : TestMem) (inst word bit_ stuck : Nat) : State :=
  let k := 256 * m.id + inst
  let used := tget 0 s.snd.spares k
  let g := m.granuleOf inst word
  let detail := [(1, m.id), (1, inst), (4, word), (1, bit_)]
  if used < m.spares then
    let s := { s with snd := { s.snd with
      spares := tset 0 s.snd.spares k (used + 1), repairs := s.snd.repairs ++ [(m.id, inst, used, g)] } }
    ((s.bump K.ctrSndRepairsApplied).almanac 23 0x1401 3 detail).result m.id inst word bit_ stuck 1
  else
    let s := (s.retireGranule m.id inst g).almanac 23 0x1402 4 detail
    (s.result m.id inst word bit_ stuck 2).reportFault 4 k

/-- A mismatch of the march: word of the slice, bit, value read, and whether all three retests failed. R497. -/
def State.marchFault (s : State) (m : TestMem) (inst base : Nat) (f : Fin 64 × Fin 256 × Bool × Bool) : State :=
  let word := base + f.1.val
  if m.wordsOf inst ≤ word ∨ m.width ≤ f.2.1.val then s
  else if f.2.2.2 then s.permanentFault m inst word f.2.1.val (b2n f.2.2.1)
  else (s.bump K.ctrSndTransientFaults).result m.id inst word f.2.1.val (b2n f.2.2.1) 0

/-- The pass goes on to the next slice, the next instance, or its end, where a pass that is due starts. R495. -/
def State.nextSlice (s : State) (m : TestMem) (inst pos k : Nat) : State :=
  let next : Option (Nat × Nat) :=
    if 64 * (k + 1) < m.wordsOf inst then some (pos, k + 1)
    else if (instanceAt testMems (pos + 1)).isSome then some (pos + 1, 0) else none
  match next with
  | some p => { s with snd := { s.snd with pass := some p } }
  | none => { s with snd := { s.snd with pass := if s.snd.passWait then some (0, 0) else none, passWait := false } }

/-- MEMORY_SLICE: the next slice of the pass, with the mismatches its march meets. R495 to R498. -/
def execMemorySlice (faults : List (Fin 64 × Fin 256 × Bool × Bool)) (s : State) : Host.Outcome State Fault Refusal :=
  .next (match s.snd.pass with
    | none => s
    | some (pos, k) =>
      match instanceAt testMems pos with
      | none => s
      | some (m, inst) =>
        if !s.on K.sndSoundingEnable then s
        else
          let s := faults.foldl (fun s f => s.marchFault m inst (64 * k) f) s
          (s.bump K.ctrSndMemorySlices).nextSlice m inst pos k)

/-- MEMORY_PASS_START. R495. -/
def execMemoryPassStart (s : State) : Host.Outcome State Fault Refusal :=
  let due := match s.snd.passAt with
    | some t => decide (t + s.rd K.sndMemoryPassPeriod * 10 ^ 9 ≤ s.now)
    | none => true
  if !due ∨ !s.on K.sndSoundingEnable then .next s
  else
    let s := { s with snd := { s.snd with passAt := some s.now } }
    match s.snd.pass with
    | none => .next { s with snd := { s.snd with pass := some (0, 0) } }
    | some _ =>
      .next ((({ s with snd := { s.snd with passWait := true } } : State).bump K.ctrSndPassOverruns).almanac 23 0x1406 3)

/-! ### Logic and helper slices (R499 to R502) -/

/-- A logical core in service. R195, R499. -/
def State.logicalInService (s : State) (c : Nat) : Bool := !(s.lockstep c && decide (c % 2 = 1)) && !s.coreOut c

/-- Lockstep logical cores in service. R500. -/
def State.lockstepInService (s : State) : Nat :=
  ((List.range 64).filter fun c => s.logicalInService c && s.lockstep c).length

/-- A core the next choice may fall on. R499, R500. -/
def State.testable (s : State) (c : Nat) : Bool :=
  s.logicalInService c && !(s.lockstep c && decide (s.lockstepInService ≤ 1))

/-- The next logical core in cyclic order. R499. -/
def State.nextCore (s : State) : Option Nat :=
  ((List.range 64).map fun i => (s.snd.next + i) % 64).find? s.testable

/-- Every thread of a core is idle with no saved context. R499. -/
def State.drained (s : State) (c : Nat) : Bool :=
  (List.range 8).all fun k => let t := 8 * c + k; s.isIdle t || (decide ((s.thread t).st = .out) && s.settled t)

/-- LOGIC_SLICE_INTERVAL. R499. -/
def execLogicSliceInterval (s : State) : Host.Outcome State Fault Refusal :=
  if s.snd.slice.isSome ∨ !s.on K.sndSoundingEnable ∨ s.now < s.snd.sliceAt + s.rd K.sndLogicSliceInterval * 10 ^ 6 then .next s
  else
    match s.nextCore with
    | none => .next { s with snd := { s.snd with sliceAt := s.now } }
    | some c => .next { s with snd := { s.snd with slice := some (c, 0), sliceAt := s.now, next := (c + 1) % 64, failed := false } }

/-- LOGIC_SLICE_START: the drained core starts its test; with no slice under way, a core offered for return does. R499, R502. -/
def execLogicSliceStart (c : Fin 64) (s : State) : Host.Outcome State Fault Refusal :=
  match s.snd.slice with
  | some (d, ph) =>
    .next (if d = c.val ∧ ph = 0 ∧ s.drained d then { s with snd := { s.snd with slice := some (d, 1) } } else s)
  | none =>
    .next (if s.snd.offer.contains c.val ∧ s.drained c.val then
      { s with snd := { s.snd with slice := some (c.val, 1), failed := false } } else s)

/-- SLICE_DEFERRED. R499. -/
def execSliceDeferred (s : State) : Host.Outcome State Fault Refusal :=
  match s.snd.slice with
  | some (c, 0) =>
    .next (if s.snd.sliceAt + s.rd K.sndDrainLimit * 1000 ≤ s.now ∧ !s.drained c then
      ({ s with snd := { s.snd with slice := none, next := c } } : State).bump K.ctrSndSliceDeferred else s)
  | _ => .next s

/-- A unit returns to service. R502. -/
def State.returnCore (s : State) (c : Nat) : State :=
  let clear (v c : Nat) : Nat := if bit v c = 1 then v - 2 ^ c else v
  let v := clear (s.rd K.sndOutOfServiceCores) c
  let s := s.wr K.sndOutOfServiceCores (if s.lockstep c then clear v (c + 1) else v)
  let s := { s with snd := { s.snd with offer := s.snd.offer.filter (· ≠ c) } }
  let s := (List.range 8).foldl (fun (s : State) k =>
    let x := s.thread (8 * c + k)
    if x.st = .out ∧ !s.coreOut c then s.setThread (8 * c + k) { x with st := .idle } else s) s
  (s.bump K.ctrSndReturns).almanac 23 0x1404 2 [(1, c)]

/-- A helper slice follows the slice of core c: the last logical core of its cluster, or, with that one out of service, the highest
core of the cluster that is tested. R499. -/
def State.lastOfCluster (s : State) (c : Nat) : Bool :=
  let last := s.lower (4 * (c / 4) + 3)
  decide (c = last)
    || (s.coreOut last && (List.range 4).all fun k => decide (4 * (c / 4) + k ≤ c) || !s.testable (4 * (c / 4) + k))

/-- The slice is over. -/
def State.endSlice (s : State) : State := { s with snd := { s.snd with slice := none, failed := false } }

/-- A slice's first failure: it runs again. R501. -/
def State.sliceAgain (s : State) : State := { s with snd := { s.snd with failed := true } }

/-- LOGIC_SLICE_DONE. R499, R501, R502. -/
def execLogicSliceDone (pass : Bool) (s : State) : Host.Outcome State Fault Refusal :=
  match s.snd.slice with
  | some (c, 1) =>
    if !pass ∧ !s.snd.failed then .next s.sliceAgain
    else
      let s := s.endSlice.bump K.ctrSndLogicSlices
      .next (if pass then
          if s.coreOut c then s.returnCore c
          else if s.lastOfCluster c then { s with snd := { s.snd with slice := some (c, 2) } } else s
        else
          let s := (s.bump K.ctrSndLogicFailures).almanac 23 0x1403 4 [(1, 0x80), (1, c)]
          (((s.result 0x80 c 0 0xFF 0 3).reportFault 3 c).takeCoreOut c).offerCore c)
  | _ => .next s

/-- HELPER_SLICE_DONE. R499, R501. -/
def execHelperSliceDone (pass : Bool) (s : State) : Host.Outcome State Fault Refusal :=
  match s.snd.slice with
  | some (c, 2) =>
    let n := c / 4
    if pass then .next s.endSlice
    else if !s.snd.failed then .next s.sliceAgain
    else
      let s := (s.endSlice.bump K.ctrSndLogicFailures).almanac 23 0x1403 4 [(1, 0x81), (1, n)]
      .next (((s.result 0x81 n 0 0xFF 0 3).reportFault 3 (256 + n)).takeClusterOut n)
  | _ => .next s

/-! ### The full test (R503) -/

/-- A write of FullTest, with its abort code. R410, R503. -/
def State.fullTest (s : State) (v : Nat) : State :=
  if 1 < v then s.aborted Abort.valueRange
  else if v = 0 then s.aborted Abort.ok
  else if s.life ≠ 1 ∧ s.life ≠ 4 then s.aborted (Abort.security bsNotPermitted)
  else ((s.zeroise 8).sampleCause causeFullTest).aborted Abort.ok

/-- FULL_TEST. R503. -/
def execFullTest (v : Bool) (s : State) : Host.Outcome State Fault Refusal := .next (s.fullTest (b2n v))

/-- A failure of the full test: memory or logic, instance, word, bit, value read. -/
abbrev TestFailure := BitVec 8 × BitVec 8 × BitVec 32 × BitVec 8 × Bool

/-- FULL_TEST_DONE: every tested memory holds zeros; the device resets. R503. -/
def execFullTestDone (failures : List TestFailure) (s : State) : Host.Outcome State Fault Refusal :=
  .next (if !s.boot.fullTest ∨ s.boot.asserted then s
    else
      let keep (k : Nat) : Bool := decide (k / 2 ^ 48 = 1) || decide (k / 2 ^ 48 = 9)
      let s := { s with mem := s.mem.filter fun x => keep x.1 }
      let s := failures.foldl (fun (s : State) (f : TestFailure) =>
        s.result f.1.toNat f.2.1.toNat f.2.2.1.toNat f.2.2.2.1.toNat (b2n f.2.2.2.2) 4) s
      (s.almanac 23 0x1407 2 [(4, failures.length)]).sampleCause causeFullTestEnd)

end Sys2Proof.Machine
end

