-- ==== Sys2Proof/Machine/Entries.lean ====
section
/-! DEFINITION. The dictionary's entries as UDA and the window see them (19_urros_uda.md, R439 to R443; 20_dictionary_map.md, R464 to
R470, R474): types, which index and subindex exist, the table domains, and the value in force of every entry. -/

namespace Sys2Proof.Machine

/-! ### Types (R439) -/

/-- A type's code. -/
def EType.code : EType → Nat
  | .bool => 1 | .u8 => 2 | .u16 => 3 | .u32 => 4 | .u64 => 5 | .i16 => 7 | .i32 => 8 | .i64 => 9 | .bits32 => 10 | .bits64 => 11
  | .octets _ => 12 | .string _ => 13 | .domain => 14 | .time64 => 15

/-- A type's bytes; the most of a STRING or DOMAIN. -/
def EType.size : EType → Nat
  | .bool | .u8 => 1
  | .u16 | .i16 => 2
  | .u32 | .i32 | .bits32 => 4
  | .u64 | .i64 | .bits64 | .time64 => 8
  | .octets n | .string n => n
  | .domain => 16777216

def EType.scalar : EType → Bool
  | .octets _ | .string _ | .domain => false
  | _ => true

def EType.signed : EType → Bool
  | .i16 | .i32 | .i64 => true
  | _ => false

/-- The length a value of the type may have. -/
def EType.fits (t : EType) (n : Nat) : Bool :=
  match t with
  | .string m => decide (n ≤ m)
  | .domain => decide (n ≤ 16777216)
  | _ => decide (n = t.size)

/-! ### Table domains (R470, R474, R492, R511) -/

/-- A table domain: index, bytes of a position's image, operations beyond READ, persistence, role of those operations, whether it is
a view, role of READ. -/
structure DomRow where
  index : Nat
  bytes : Nat
  ops : List Nat
  p : Bool
  role : Nat := 2
  view : Bool := false
  readRole : Nat := 0
deriving DecidableEq, Repr

def tblRead : Nat := 1
def tblWrite : Nat := 2
def tblFind : Nat := 3
def tblInsert : Nat := 4
def tblDelete : Nat := 5
def tblLoad : Nat := 0x10

/-- *Table domains*, with those of R492 and R511. A WRITE to 7000 is the Pilot's MKA service's alone: no session's role suffices.
The role of 70C0 depends on the life cycle (R414) and is found by `State.domRole`. -/
def domRows : List DomRow := [
  ⟨0x7000, 16, [2], false, 4, false, 0⟩, ⟨0x7001, 64, [], false, 2, true, 0⟩, ⟨0x7010, 16, [2], true, 2, false, 0⟩,
  ⟨0x7011, 144, [2], true, 2, false, 0⟩, ⟨0x7012, 88, [2], true, 2, false, 0⟩, ⟨0x7013, 128, [2], true, 2, false, 0⟩,
  ⟨0x7020, 32, [3, 4, 5], true, 2, false, 0⟩, ⟨0x7021, 16, [2], true, 2, false, 0⟩, ⟨0x7030, 32, [2], true, 2, false, 0⟩,
  ⟨0x7040, 16, [4, 0x16], false, 2, false, 0⟩, ⟨0x7041, 512, [], false, 2, true, 0⟩, ⟨0x7042, 8, [2], true, 2, false, 0⟩,
  ⟨0x7043, 8, [], false, 2, true, 0⟩, ⟨0x7050, 131072, [0x10], false, 2, false, 0⟩, ⟨0x7060, 8, [], false, 2, true, 0⟩,
  ⟨0x7061, 8, [2], true, 2, false, 0⟩, ⟨0x7062, 8, [2], true, 2, false, 0⟩, ⟨0x7063, 8, [2], true, 2, false, 0⟩,
  ⟨0x7064, 72, [2], true, 2, false, 0⟩, ⟨0x7065, 8, [2], false, 2, false, 0⟩,
  ⟨0x7070, 8, [0x11, 0x12, 0x13], false, 2, false, 0⟩, ⟨0x7071, 4, [], false, 2, true, 0⟩,
  ⟨0x7072, 256, [2, 0x14, 0x15], false, 2, false, 0⟩, ⟨0x7080, 8, [2], true, 2, false, 0⟩, ⟨0x7081, 8, [2], true, 2, false, 0⟩,
  ⟨0x7082, 16, [2, 0x17], true, 2, false, 0⟩, ⟨0x7083, 32, [2, 0x18], true, 2, false, 0⟩, ⟨0x7084, 16, [2], true, 2, false, 0⟩,
  ⟨0x7085, 8, [], false, 2, true, 0⟩, ⟨0x7086, 64, [2], true, 2, false, 0⟩, ⟨0x7087, 16, [], false, 2, false, 0⟩,
  ⟨0x7088, 32, [], false, 2, true, 0⟩, ⟨0x7090, 4, [2], true, 2, false, 0⟩, ⟨0x7091, 65536, [0x10], false, 2, false, 0⟩,
  ⟨0x70A0, 4, [2], true, 2, false, 0⟩, ⟨0x70A1, 64, [2], false, 2, false, 0⟩, ⟨0x70B0, 32, [0x19, 0x1A], false, 2, false, 0⟩,
  ⟨0x70C0, 4, [2], false, 3, false, 0⟩, ⟨0x70C1, 8, [], false, 2, true, 2⟩, ⟨0x70C2, 64, [2], true, 2, false, 0⟩,
  ⟨0x70C3, 0, [0x10], false, 2, false, 0⟩, ⟨0x70D0, 32, [], false, 2, true, 0⟩, ⟨0x70D1, 32, [2], false, 1, false, 0⟩,
  ⟨0x70D2, 256, [], false, 2, true, 0⟩, ⟨0x70D3, 4, [2], true, 2, false, 0⟩, ⟨0x70E0, 16, [], false, 2, true, 0⟩,
  ⟨0x70E1, 8, [], false, 2, true, 0⟩, ⟨0x70E2, 1, [2], true, 2, false, 0⟩]

def findDom (index : Nat) : Option DomRow := domRows.find? fun d => decide (d.index = index)

/-- Positions whose number is fixed, by domain; the rest are found by `State.positions`. -/
def positionTable : List (Nat × Nat) := [
  (0x7000, 1792), (0x7001, 7168), (0x7010, 0x500), (0x7011, 8192), (0x7012, 4096), (0x7013, 16), (0x7020, 524288), (0x7021, 16),
  (0x7030, 1024), (0x7040, 16384), (0x7041, 4096), (0x7042, 1024), (0x7043, 256), (0x7050, 16), (0x7060, 4096), (0x7061, 1024),
  (0x7062, 1024), (0x7063, 1024), (0x7064, 16), (0x7065, 8192), (0x7070, 0x400000), (0x7071, 256), (0x7072, 196608),
  (0x7080, 524288), (0x7081, 512), (0x7082, 2048), (0x7083, 2048), (0x7084, 512), (0x7085, 1024), (0x7086, 1024), (0x7087, 8),
  (0x7088, 64), (0x7090, 64), (0x7091, 4), (0x70A0, 96), (0x70B0, 16), (0x70C0, 512), (0x70C1, 256), (0x70C2, 256), (0x70C3, 2),
  (0x70D0, 8192), (0x70D1, 1), (0x70D3, 64), (0x70E0, 256), (0x70E1, 1024), (0x70E2, 12)]

/-- Positions of a domain. The DRAM lines follow the installed memory, the flash log's pages its sectors. -/
def State.positions (s : State) (index : Nat) : Nat :=
  if index = 0x70A1 then s.rd K.dramInstalledBytes / 64
  else if index = 0x70D2 then 16 * s.rd K.almFlashSectors
  else ((positionTable.find? fun e => decide (e.1 = index)).map Prod.snd).getD 0

/-- A position that a domain assigns, where its numbering has gaps. R47, R62, R85, R315, R340. -/
def State.positionOk (s : State) (index pos : Nat) : Bool :=
  if s.positions index ≤ pos then false
  else if index = 0x7000 then decide (pos % 256 < scCount (pos / 256))
  else if index = 0x7001 then decide (pos / 4 % 256 < scCount (pos / 1024))
  else if index = 0x7010 then decide (1 ≤ pos ∧ pos ≤ 0x0F) || decide (0x40 ≤ pos ∧ pos ≤ 0x7F) || decide (0x100 ≤ pos)
  else if index = 0x7020 then decide (bit pos 17 = 0) || decide (pos % 2 ^ 17 < 64)
  else if index = 0x7021 then decide (8 ≤ pos)
  else if index = 0x7070 then decide (pos < 196608) || s.isSpillCell pos
  else if index = 0x7072 then decide (s.pilotBase ≤ pos)
  else if index = 0x7080 then decide (bits pos 15 9 = 0)
  else true

/-! ### Which entries exist (R54, R55, R464) -/

/-- Whether an entry of the port record applies to a port. R54. -/
def portSubOk (p sub : Nat) : Bool :=
  if 0x09 ≤ sub ∧ sub ≤ 0x0B then decide (4 ≤ p) && decide (p ≤ 6)
  else if 0x0C ≤ sub ∧ sub ≤ 0x10 then decide (p < 4)
  else if 0x11 ≤ sub ∧ sub ≤ 0x18 then decide (p < 7)
  else if sub = 0x19 then decide (p = 7)
  else true

/-- Whether a row's record has an index. -/
def EntryRow.atIndex (r : EntryRow) (index : Nat) : Bool :=
  decide (r.base ≤ index) && decide ((index - r.base) % r.stride = 0) && decide ((index - r.base) / r.stride < r.count)
    && (decide (r.base ≠ 0x2200) || decide ((index - 0x2200) % 64 < secyCount ((index - 0x2200) / 64)))

/-- The highest subindex of a record; none when no chapter assigns the index. R54, R439, R464, R470. -/
def highestSub (index : Nat) : Option Nat :=
  match findDom index with
  | some d => some (if d.ops.contains tblLoad then 4 else 3)
  | none =>
    match entryRows.filter fun r => r.atIndex index with
    | [] => none
    | rows => some (if 0x2000 ≤ index ∧ index < 0x2070 then 0x18 else rows.foldl (fun m r => max m (r.sub + r.n - 1)) 0)

/-- A read-only row the map itself makes: a subindex 00, or an entry of a table domain. -/
def fixedRow (index sub : Nat) (ty : EType) (acc : Acc) (role : Nat) : EntryRow :=
  ⟨index, 1, 1, sub, 1, ty, acc, [0], .no, role, .span 0 0 1, false⟩

/-- The row of an entry, or the abort code of one that does not exist. R464. -/
def lookupEntry (key : Nat) : Except Nat EntryRow :=
  let index := key / 256
  let sub := key % 256
  match highestSub index with
  | none => .error Abort.noObject
  | some top =>
    if sub = 0 then .ok (fixedRow index 0 .u8 .const 0)
    else match findDom index with
      | some d =>
        if sub = 1 then .ok (fixedRow index 1 .domain (if d.view then .ro else .rw) d.readRole)
        else if sub = 2 then .ok (fixedRow index 2 .u32 .const 0)
        else if sub = 3 then .ok (fixedRow index 3 .u16 .const 0)
        else if sub ≤ top then .ok (fixedRow index 4 .domain .wo 2)
        else .error Abort.noSubindex
      | none =>
        if 0x2000 ≤ index ∧ index < 0x2080 ∧ !portSubOk ((index - 0x2000) / 16) sub then .error Abort.noSubindex
        else match entryRows.find? fun r => r.has key with
          | some r => .ok r
          | none => .error Abort.noSubindex

/-! ### Values in force -/

/-- A session's instant of idle expiry. R450. -/
def State.idleAt (s : State) (x : Session) : Nat := x.at_ + s.rd K.udaUdaIdle * 10 ^ 9

/-- A session's entry of record 1030: no idle time runs before it is open (log entry 35). R468. -/
def State.sessionWord (s : State) (x : Session) : Nat :=
  if x.state = 0 then 0
  else
    let left := if x.state = 2 then cdiv (s.idleAt x - s.now) (10 ^ 9) else 0
    x.id * 2 ^ 32 + x.role * 2 ^ 24 + b2n x.can * 2 ^ 16 + left % 65536

/-- A session. -/
def State.session (s : State) (j : Nat) : Session := tget Session.zero s.uda.sessions j
def State.setSession (s : State) (j : Nat) (x : Session) : State :=
  { s with uda := { s.uda with sessions := tset Session.zero s.uda.sessions j x } }

/-- Sessions that are open. R468. -/
def State.openSessions (s : State) : Nat := (s.uda.sessions.filter fun e => decide (e.2.state = 2)).length

/-- The sum of the channels' Depth in force. R287, R298. -/
def State.slotsUsed (s : State) : Nat := (s.rdv.live.chans.map fun e => bits e.2.toNat 6 0).foldl (· + ·) 0

/-- EntryBytes as a U16; what it reads for an image of 65,536 bytes or more no rule states (log entry 36). R470. -/
def entryBytesOf (d : DomRow) : Nat := if d.bytes < 65536 then d.bytes else Config.entryBytes d.index % 65536

/-- The value in force of a scalar entry. -/
def State.scalarValue (s : State) (key : Nat) : Nat :=
  let index := key / 256
  let sub := key % 256
  if sub = 0 then (highestSub index).getD 0
  else match findDom index with
  | some d => if sub = 2 then s.positions index else if sub = 3 then entryBytesOf d else 0
  | none =>
    if key = K.idVariant then (if s.variant = .a2s then 1 else 0)
    else if key = K.idLifeCycle then s.life
    else if key = K.idBootState then s.rd K.binBootState
    else if key = K.sesSessionsOpen then s.openSessions
    else if index = 0x1030 then s.sessionWord (s.session (sub - 2))
    else if key = K.brValidCount 0 then s.brValidCount false
    else if key = K.brValidCount 1 then s.brValidCount true
    else if key = K.brLearnedCount 0 then s.brLearnedCount false
    else if key = K.brLearnedCount 1 then s.brLearnedCount true
    else if key = K.lodeValidStreams then (s.lode.streams.filter fun e => e.2.word.getLsbD 127).length
    else if key = K.coreSplitCores then 64 - 2 * popCount 32 (s.rd K.coreLockstepMask)
    else if key = K.coreLogicalCores then 64 - popCount 32 (s.rd K.coreLockstepMask)
    else if 0x3CC0 ≤ index ∧ index < 0x3CD0 ∧ sub = 4 then s.oldBankItems (index - 0x3CC0)
    else if key = K.rdvMessageSlotsUsed then s.slotsUsed
    else if key = K.orchSharedFree then s.sharedFree
    else if key = K.orchSpillFree then s.spillFree
    else if 0x4410 ≤ index ∧ index < 0x4414 ∧ sub = 1 then s.domainNs (index - 0x4410)
    else if key = K.sndSparesFree then s.sparesFree
    else if key = K.rstDieTemperature then s.free 65536
    else s.rd key

/-- The bytes in force of an OCTETS, STRING or DOMAIN entry. -/
def State.longValue (s : State) (key : Nat) (ty : EType) : List Byte :=
  match ty with
  | .octets n => slice (s.octetsOf (if key = K.idDeviceSerial then K.binDeviceSerial else key)) 0 n
  | .string _ =>
    ascii (if key = K.idVendorName then "Ewehan Semiconductor" else if key = K.idFamilyName then "Chatia" else "CH9820")
  | _ => s.octetsOf key

/-- The length of an entry's value; a table domain's is Positions × EntryBytes. R443, R470. -/
def State.valueLength (s : State) (key : Nat) (ty : EType) : Nat :=
  match findDom (key / 256) with
  | some d => if key % 256 = 1 then s.positions d.index * d.bytes else if ty.scalar then ty.size else (s.longValue key ty).length
  | none => if ty.scalar then ty.size else (s.longValue key ty).length

/-- What a read leaves in an entry it clears: a peak goes on from the value that holds now. R173, R318. -/
def State.sinceRead (s : State) (key : Nat) : Nat :=
  let p := key / 256 - 0x4220
  if key = K.oruJournalPeak then s.rd K.oruJournalInUse
  else if p < 32 ∧ key = K.poolOccupancyPeak p then s.rd (K.poolOccupancy p)
  else 0

/-- What reading an entry does: an RC entry is cleared; the die's temperature is taken anew (log entry 5). R440. -/
def State.afterRead (s : State) (key : Nat) (r : EntryRow) : State :=
  let s := if key = K.rstDieTemperature then s.tick else s
  if r.acc = .rc then
    let s := s.wr key (s.sinceRead key)
    if 0x6070 ≤ key / 256 ∧ key / 256 < 0x6078 then
      { s with disp := { s.disp with maxWait := tset 0 s.disp.maxWait (key / 256 - 0x6070) 0 } }
    else s
  else s

/-- Whether an entry may be read by a role: the abort code. R440. -/
def readRefusal (r : EntryRow) (role : Nat) : Nat :=
  if r.acc = .wo then Abort.writeOnly
  else if (r.acc = .const ∨ r.acc = .ro ∨ r.acc = .rc) ∧ role < r.role then Abort.role
  else Abort.ok

/-- The value a scalar read returns: with the Staged flag, the pending value of an entry that has one. R441. -/
def State.readScalar (s : State) (key : Nat) (staged : Bool) : Nat :=
  if staged then (tget none s.staged key).getD (s.scalarValue key) else s.scalarValue key

/-! ### The counter stream (R488) -/

/-- The COUNTER message of a selection slot. R488, R489, R492. -/
def State.traceCounter (s : State) (k : Nat) : State :=
  let w := tget 0 s.trc.selection k
  if bit w 0 = 0 then s
  else s.traceMsg srcCounter 0x30 k (toLE 2 (w / 65536) ++ toLE 1 (bits w 15 8) ++ [0#8]
    ++ toLE 8 (s.scalarValue (dictKey (w / 65536) (bits w 15 8))))

/-- TRACE_COUNTER_INTERVAL: the selected entries are read in slot order; reading for the trace clears nothing. R487, R488. -/
def execTraceCounterInterval (s : State) : Host.Outcome State Fault Refusal :=
  .next (if s.rd K.trcCounterInterval = 0 ∨ s.now < s.trc.counterAt + s.rd K.trcCounterInterval * 10 ^ 6 then s
    else (List.range 64).foldl (fun s k => s.traceCounter k) { s with trc := { s.trc with counterAt := s.now } })

end Sys2Proof.Machine
end

