-- ==== Sys2Proof/Machine/Rules.lean ====
section
/-! DEFINITION. What a dictionary write is checked against (19_urros_uda.md, R442): the values each entry admits, and the
cross-entry rules the chapters state "at commit". -/

namespace Sys2Proof.Machine

/-! ### Values (R442, checks 5 and 6) -/

/-- A bit field, or an entry whose high bits the owning chapter marks reserved. -/
def EntryRow.masked (r : EntryRow) : Option Nat :=
  match r.range with
  | .span _ hi _ =>
    if r.ty = .bits32 ∨ r.ty = .bits64 ∨ (r.ty = .u64 ∧ hi = 2 ^ 48 - 1) ∨ (r.ty = .u32 ∧ hi = 2 ^ 24 - 1) then some hi.toNat else none
  | _ => none

/-- A value is among those its row admits. -/
def EntryRow.admits (r : EntryRow) (v : Nat) : Bool :=
  let x : Int := if r.ty.signed then toSigned (8 * r.ty.size) v else v
  (decide (r.ty ≠ .bool) || decide (v ≤ 1)) &&
    match r.range with
    | .span lo hi step => decide (lo ≤ x) && decide (x ≤ hi) && decide (x % step = 0)
    | .oneOf vs => vs.contains v
    | .pow2 lo hi => decide (lo ≤ v) && decide (v ≤ hi) && (List.range 64).any fun i => decide (v = 2 ^ i)
    | .ring => decide (v = 0) || (decide (128 ≤ v) && decide (v ≤ 16384) && decide (v % 8 = 0))
    | .thread => decide (v < 512) || decide (v = 0xFFFF)

/-- Lanes of a port, which PolarityInvert names. R29, R54. -/
def portLanes (p : Nat) : Nat := if 4 ≤ p ∧ p < 7 then 4 else 1

/-- Reserved bits, or reserved codes of a bit field, that a value sets. R8, R54, R181, R442. -/
def reservedSet (key : Nat) (r : EntryRow) (v : Nat) : Bool :=
  let index := key / 256
  let sub := key % 256
  match r.masked with
  | none => decide (key = K.dmaCqBase) && decide (bits v 59 40 ≠ 0)
  | some m =>
    let m := if 0x2000 ≤ index ∧ index < 0x2080 ∧ sub = 7 then (2 ^ portLanes ((index - 0x2000) / 16) - 1) * 17 else m
    decide (v ||| m ≠ m)
      || (decide (0x3C40 ≤ index ∧ index < 0x3C80 ∧ sub = 1) && (List.range 16).any fun i => decide (8 < bits v (4 * i + 3) (4 * i)))

/-- A value the owning chapter bounds by the machine's own state: a Mode of the port, the tamper floor, an address
operand of Space 0 to 2. R29, R318, R406, R434. -/
def State.ownRange (s : State) (key v : Nat) : Bool :=
  let index := key / 256
  let sub := key % 256
  if 0x2000 ≤ index ∧ index < 0x2080 ∧ sub = 1 then modeOk ((index - 0x2000) / 16) v
  else if index = 0x5000 ∧ 0x30 ≤ sub ∧ sub ≤ 0x36 then decide (s.tamperFloor (sub - 0x30) ≤ v)
  else if key = K.dmaCqBase then decide (v / 2 ^ 60 ≤ 2) && decide (v % 32 = 0)
  else if 0x4220 ≤ index ∧ index < 0x4240 ∧ sub = 2 then decide (v ≤ 196608 - poolBase - s.stagedValue K.orchPilotRegionCells)
  else true

/-- Checks 5 and 6 of a scalar value. -/
def State.valueRefusal (s : State) (key : Nat) (r : EntryRow) (v : Nat) : Nat :=
  if reservedSet key r v then Abort.reservedBits
  else if r.masked.isNone && !r.admits v then Abort.valueRange
  else if !s.ownRange key v then Abort.valueRange
  else Abort.ok

/-! ### Cross-entry rules (R442, check 8), over the staged configuration -/

/-- R45: no PAUSE on a port with a priority mapped to a reserved pool. -/
def ruleR45 (s : State) : Bool :=
  [4, 5, 6].all fun p => decide (s.stagedValue (K.portFlowControl p) ≠ 1) ||
    (List.range 8).all fun q => decide (s.stagedValue (K.poolReserved (s.stagedValue (K.pmapPoolMap (8 * p + q)))) = 0)

/-- R55: PnThreshold and ReplayWindow fit the suite. -/
def ruleR55 (s : State) : Bool :=
  (List.range 448).all fun i =>
    if xpnSuite (s.stagedValue (K.secyCipherSuite i)) then decide (s.stagedValue (K.secyReplayWindow i) ≤ 0x3FFFFFFF)
    else decide (s.stagedValue (K.secyPnThreshold i) < 2 ^ 32)

/-- R125: the class rank never rises as the level falls; Safety work asks for a lockstep pair. -/
def ruleR125 (s : State) : Bool :=
  (List.range 7).all (fun l => decide (s.stagedValue (K.dispLevelClass (l + 1)) ≤ s.stagedValue (K.dispLevelClass l)))
    && (decide (s.stagedValue K.dispSafetyOnLockstep = 0) || decide (s.stagedValue K.coreLockstepMask ≠ 0)
      || (List.range 8).all fun l => decide (s.stagedValue (K.dispLevelClass l) ≠ 1))

/-- R287: the channels' depths fit the message slots. -/
def ruleR287 (s : State) : Bool := decide ((s.rdv.cfg.chans.map fun e => bits e.2.toNat 6 0).foldl (· + ·) 0 ≤ 4096)

def disjointMaps : List (BitVec 576) → Bool
  | [] => true
  | m :: r => r.all (fun n => decide (m &&& n = 0#576)) && disjointMaps r

/-- R293: no requester in two groups. -/
def ruleR293 (s : State) : Bool := disjointMaps (s.rdv.cfg.groups.map Prod.snd)

/-- R309: reserved cells and thresholds. -/
def ruleR309 (s : State) : Bool :=
  let cells := 196608 - poolBase - s.stagedValue K.orchPilotRegionCells
  let res := fun p => s.stagedValue (K.poolReservedCells p)
  decide (((List.range 32).map res).foldl (· + ·) 0 ≤ cells) &&
    (List.range 32).all fun p =>
      (decide (res p = 0) || decide (s.stagedValue (K.poolReserved p) = 1))
        && decide (s.stagedValue (K.poolWarnThreshold p) ≤ s.stagedValue (K.poolPauseThreshold p))
        && decide (s.stagedValue (K.poolPauseThreshold p) < s.stagedValue (K.poolDropThreshold p))
        && decide (s.stagedValue (K.poolHysteresis p) ≤ s.stagedValue (K.poolPauseThreshold p))

/-- R339: no ATS shaper in two ports. -/
def ruleR339 (s : State) : Bool :=
  let q := s.tm.streamCfg.filter fun e => e.2.getLsbD 37
  q.all fun a => q.all fun b => decide (a.1 / 64 = b.1 / 64) || decide (bits a.2.toNat 36 28 ≠ bits b.2.toNat 36 28)

/-- R343: idle slopes within the port rate. -/
def ruleR343 (s : State) : Bool :=
  (List.range 8).all fun p => decide (((List.range 8).map fun c => s.rd (K.tmpIdleSlope p c)).foldl (· + ·) 0 ≤ s.portRate p)

/-- R363: at most 8 CAN units; the pins of a unit in use have Function 3 and its processor as owner. Nothing in the configuration
says that a unit carries CAN XL, so AuxPin is not held to it (log entry 37). -/
def ruleR363 (s : State) : Bool :=
  let mode := fun u => s.stagedValue (K.unitMode u)
  let pinOk := fun u i => decide ((s.pinStaged i).toNat % 4 = 3) && decide (bits (s.pinStaged i).toNat 5 4 = u / 4)
  decide (((List.range 16).filter fun u => decide (mode u = 1)).length ≤ 8) &&
    (List.range 16).all fun u => decide (mode u = 0) ||
      (pinOk u (s.stagedValue (K.unitRxPin u)) && pinOk u (s.stagedValue (K.unitTxPin u)))

/-- R372: NominalSample below NominalBitCycles; a CAN channel in use names a unit in CAN mode, and their bus IDs differ. A channel
is in use when it has a stream or a ring (log entry 37). -/
def ruleR372 (s : State) : Bool :=
  let used := (List.range 8).filter fun c =>
    decide (s.stagedValue (K.bchUpStream c) ≠ 0xFF) || decide (s.stagedValue (K.bchDownRingBytes c) ≠ 0)
  (List.range 16).all (fun u => decide (s.stagedValue (K.unitNominalSample u) < s.stagedValue (K.unitNominalBitCycles u)))
    && used.all (fun c => decide (s.stagedValue (K.unitMode (s.stagedValue (K.bchUnit c))) = 1))
    && used.all fun c => used.all fun d => decide (c = d) || decide (s.stagedValue (K.bchBusId c) ≠ s.stagedValue (K.bchBusId d))

/-- R466. -/
def ruleR466 (s : State) : Bool :=
  let id := fun j => s.stagedValue (K.udaPskKeyId j)
  let open_ := fun c => (tget chanCfgDefault s.rdv.cfg.chans c).getLsbD 7
  let can := s.stagedValue K.udaUdaCanChannel
  ((List.range 8).all fun i => (List.range 8).all fun j => decide (i = j) || decide (id i = 0) || decide (id i ≠ id j))
    && decide (s.stagedValue K.udaUdaCanRxId ≠ s.stagedValue K.udaUdaCanTxId)
    && (decide (can = 0xFF) || (decide (s.stagedValue (K.unitMode (s.stagedValue (K.bchUnit can))) = 1)
      && open_ (s.stagedValue K.udaUdaCanReqChannel) && open_ (s.stagedValue K.udaUdaCanRspChannel)))

/-- Bounds that name another entry: DeviceWdMax, AdminCycleTimeExtension, FlashSectors. R349, R484, R491, R510. -/
def ruleBounds (s : State) : Bool :=
  decide (s.stagedValue K.safDeviceWdMin < s.stagedValue K.safDeviceWdMax)
    && (List.range 8).all (fun p => decide (s.rd (K.tmpAdminCycleTimeExtension p) ≤ s.rd (K.tmpAdminCycleTime p)))
    && decide (cdiv (s.stagedValue K.almPowerFailRecords) 128 + 9 ≤ s.stagedValue K.almFlashSectors)

/-- R375, R381, R391. -/
def ruleDram (s : State) : Bool := dramConfigOk s.stagedValue

def crossRules : List (State → Bool) :=
  [ruleR45, ruleR55, ruleR125, ruleR287, ruleR293, ruleR309, ruleR339, ruleR343, ruleR363, ruleR372, ruleR466, ruleBounds, ruleDram]

/-- Every cross-entry rule holds. -/
def State.consistent (s : State) : Bool := crossRules.all fun f => f s

/-- No rule that held in a state is broken in another (log entry 38). -/
def State.breaks (s t : State) : Bool := crossRules.any fun f => f s && !f t

/-- R395: the CH9820-A2 declares no Vaulted region: the first that a configuration declares there, if any. -/
def State.vaultedRegion (s : State) : Option Nat :=
  if s.variant = .a2s then none
  else (List.range 8).find? fun r => decide (s.stagedValue (K.drgSize r) ≠ 0) && decide (s.stagedValue (K.drgKind r) = 2)

end Sys2Proof.Machine
end

