-- ==== Sys2Proof/Machine/Effects.lean ====
section
/-! DEFINITION. Dictionary writes (19_urros_uda.md, R440 to R444, R457, R458): who may write an entry, what a write does beside storing
the value, and the checks of R442 in their order. -/

namespace Sys2Proof.Machine

/-- The state an outcome answers, or the one given. -/
def nextOf (o : Host.Outcome State Fault Refusal) (s : State) : State :=
  match o with
  | .next t => t
  | _ => s

/-! ### Reset request (R523, R528) -/

/-- A write of ResetRequest, with its abort code. -/
def State.resetRequest (s : State) (v : Nat) : State :=
  if v ≠ 1 then s.aborted Abort.valueRange
  else if s.rd K.cmtCommitState = 1 ∨ s.rd K.cmtCommitState = 2 ∨ s.on K.rstPowerFailLatched then s.aborted Abort.busy
  else ({ s with boot := { s.boot with softAt := some (s.boot.softAt.getD (s.now + 10 ^ 6)) } } : State).aborted Abort.ok

/-! ### Who writes (R440, R444) -/

/-- A writer: its role, whether it is a packet core's window store, and whether it is the Pilot's. -/
structure Writer where
  role : Nat
  core : Bool
  pilot : Bool
deriving DecidableEq, Repr

/-- Entries whose owning chapter names its own answer to a role that is too low. R411, R414, R418. -/
def ownRole (key : Nat) : Bool := decide (key = K.binLifeCycleRequest ∨ key = K.binOemKeyRevoke ∨ key = K.binKwkExportRecipient)

/-- EncodingSA, read-only to hosts, is written by the MKA service, which the Pilot runs. R48, R55. -/
def mkaEntry (key : Nat) : Bool := decide (0x2200 ≤ key / 256 ∧ key / 256 < 0x23C0 ∧ key % 256 = 0x0A)

/-- Checks 2 and 3 of R442: access class, then role and the window's refusals. R440, R444. -/
def Writer.refusal (w : Writer) (key : Nat) (r : EntryRow) : Nat :=
  let index := key / 256
  if w.pilot ∧ mkaEntry key then Abort.ok
  else if r.acc = .const ∨ r.acc = .ro ∨ r.acc = .rc then Abort.readOnly
  else if w.core ∧ ((0x1000 ≤ index ∧ index < 0x2000) ∨ (0x5000 ≤ index ∧ index < 0x5400)) then Abort.security 0
  else if w.core ∧ r.acc = .rws then Abort.role
  else if ownRole key then Abort.ok
  else if w.role < r.role ∨ (r.acc = .rws ∧ w.role < 2) then Abort.role
  else Abort.ok

/-! ### What a write does (R441, R457, R458) -/

/-- A flash parameter of the Almanac, which takes effect at the next power-on. R491. -/
def flashEntry (key : Nat) : Bool :=
  decide (key = K.almFlashType ∨ key = K.almFlashBase ∨ key = K.almFlashSectors ∨ key = K.almProgramTimeMax ∨ key = K.almSuspendTimeMax)

/-- A value stored by a row's rule: pending, in force and staged, or in force only. R441, R458. -/
def State.storeValue (s : State) (key : Nat) (r : EntryRow) (v : Nat) : State :=
  if r.deferred || flashEntry key then
    ({ s with staged := tset none s.staged key (some v) } : State).bump K.cmtStagedWrites
  else if r.p = .yes then s.wrP key v
  else s.wr key v

/-- The UDA policer's bucket refilled to the present instant. R448. -/
def State.udaRefill (s : State) : State :=
  { s with uda := { s.uda with
    tokens := min (64 * 10 ^ 9) (s.uda.tokens + s.rd K.udaUdaRate * (s.now - s.uda.tokensAt)), tokensAt := s.now } }

/-- The buckets a write changes are refilled up to the write. R81, R97, R448. -/
def State.beforeWrite (s : State) (key : Nat) : State :=
  let index := key / 256
  let sub := key % 256
  if key = K.prsExceptionRate ∨ key = K.prsExceptionBurst then s.policerRefill
  else if (index = 0x3400 ∨ index = 0x3410) ∧ (sub = 0x06 ∨ sub = 0x07) then s.brRefill (decide (index = 0x3410))
  else if key = K.udaUdaRate then s.udaRefill
  else s

/-- What follows from the value an entry has taken, wherever it comes from; `old`: the value before. R40, R54, R311, R328, R381,
R489. -/
def State.afterWrite (s : State) (key old : Nat) : State :=
  let index := key / 256
  let sub := key % 256
  if 0x2000 ≤ index ∧ index < 0x2040 ∧ (sub = 0x0C ∨ sub = 0x0D) then
    let p := (index - 0x2000) / 16
    (s.setPort p { s.port p with verifyTries := 0 }).wr (K.portVerifyStatus p) (if s.on (K.portVerifyDisable p) then 0 else vsInitial)
  else if 0x4220 ≤ index ∧ index < 0x4240 ∧ sub ≤ 6 then s.thresholds (index - 0x4220)
  else if (index = 0x4A10 ∨ index = 0x4A11) ∧ sub = 1 then s.mayDrain (index - 0x4A10)
  else if key = K.trcTraceOutput ∧ s.rd key ≠ old then { s with trc := { s.trc with lastTime := none } }
  else if 0x4410 ≤ index ∧ index < 0x4414 ∧ sub = 2 ∧ s.rd key ≠ old then s.sourceChanged (index - 0x4410) (s.rd key)
  else s

/-- What happens beside storing the value, for entries that are more than a value; others only store it. The abort code is set. -/
def State.effect (s : State) (key : Nat) (r : EntryRow) (v role : Nat) : State :=
  let index := key / 256
  let sub := key % 256
  let keep (s : State) : State := (((s.beforeWrite key).storeValue key r v).afterWrite key (s.rd key)).aborted Abort.ok
  if 0x2000 ≤ index ∧ index < 0x2080 then
    let p := (index - 0x2000) / 16
    if sub = 0x01 then s.modeWrite p v
    else if sub = 0x02 then keep (if v = 0 then s.setLink p 0 else s)
    else keep s
  else if 0x2200 ≤ index ∧ index < 0x23C0 ∧ sub = 2 then s.cipherSuiteWrite (index - 0x2200) v
  else if (index = 0x3400 ∨ index = 0x3410) ∧ sub = 0x10 then
    let w := decide (index = 0x3410)
    if v = 1 then s.rehashStart w else if v = 2 then s.rehashSwap w else s.rehashCancel w
  else if index = 0x3900 ∧ 0x16 ≤ sub ∧ sub ≤ 0x1D then
    if (s.delayList (sub - 0x16)).entries.isEmpty then keep s else s.aborted Abort.busy
  else if 0x3C10 ≤ index ∧ index < 0x3C20 ∧ sub = 1 then s.operatingPoint (index - 0x3C10) v
  else if 0x3CC0 ≤ index ∧ index < 0x3CD0 ∧ sub = 2 then s.bankControl (index - 0x3CC0) v
  else if key = K.orchOrchardControl then (if v = 1 then nextOf (execRecover s) s else nextOf (execReclaimAll s) s)
  else if key = K.chrPpsOutEnable then
    keep (if v = 0 then { s with chron := { s.chron with ppsOut := false } } else s)
  else if 0x4410 ≤ index ∧ index < 0x4414 ∧ sub = 4 then s.rateAdjust (index - 0x4410) v
  else if 0x4410 ≤ index ∧ index < 0x4414 ∧ sub = 5 then s.stepOffset (index - 0x4410) v
  else if 0x4420 ≤ index ∧ index < 0x4428 ∧ sub = 8 then s.configChange (index - 0x4420) v
  else if 0x4810 ≤ index ∧ index < 0x4814 ∧ sub = 1 then s.runControl (index - 0x4810) v
  else if key = K.dmaCqTail then nextOf (execCqTailWrite (BitVec.ofNat 16 v) s) s
  else if key = K.binLifeCycleRequest then s.lifeRequest v role
  else if key = K.binOemKeyRevoke then s.oemRevoke v role
  else if 0x30 ≤ sub ∧ sub ≤ 0x36 ∧ index = 0x5000 then s.tamperAction (sub - 0x30) v
  else if key = K.binZeroise then (if v = 1 then s.zeroise 7 else s).aborted Abort.ok
  else if key = K.sndFullTest then s.fullTest v
  else if key = K.safSafeRelease then s.safeRelease v
  else if key = K.safPilotKick then s.pilotKick v
  else if key = K.safDeviceKick then s.deviceKick v
  else if key = K.almClear then (if v = 1 then s.almClear else s).aborted Abort.ok
  else if key = K.rstResetRequest then s.resetRequest v
  else if key = K.rstAvsEnable then
    let s := keep s
    if v = 0 then (s.wr K.rstAvsState 0).wr K.rstCoreVoltage 850
    else if s.rd K.rstAvsState = 0 ∧ s.boot.rstout then s.wr K.rstAvsState 1
    else s
  else keep s

/-- A scalar write that has passed checks 1 to 4: checks 5 to 7, and its effect. -/
def State.writeScalar (s : State) (key : Nat) (r : EntryRow) (v role : Nat) : State :=
  let a := if ownRole key then Abort.ok else s.valueRefusal key r v
  if a ≠ Abort.ok then s.aborted a else s.effect key r v role

/-- The writes of OCTETS and DOMAIN entries. R411, R412, R418, R431, R458, R466. -/
def State.writeLong (s : State) (key : Nat) (r : EntryRow) (b : List Byte) (role : Nat) : State :=
  if key = K.binKwkExportRecipient then s.kwkRecipient b role
  else if key = K.binQuoteNonce then s.quoteNonce b
  else if key = K.cmtImageUpload ∧ 288 + 2 ^ 20 < b.length then s.aborted Abort.typeMismatch
  else
    let s := s.setOctets key b
    (if r.p = .yes then s.bump K.cmtStagedWrites else s).aborted Abort.ok

/-! ### Writes of items (R442) -/

/-- An item of a write: entry, type code when the writer gives one, value bytes in network order (scalars) or as they are. -/
structure WItem where
  key : Nat
  ty : Option Nat
  bytes : List Byte
deriving DecidableEq, Repr

/-- Checks 1 to 7 of an item and its effect, the abort code set. R442. -/
def State.writeItem (s : State) (w : Writer) (i : WItem) : State :=
  match lookupEntry i.key with
  | .error e => s.aborted e
  | .ok r =>
    let a := w.refusal i.key r
    if a ≠ Abort.ok then s.aborted a
    else if (findDom (i.key / 256)).isSome ∧ i.key % 256 = 1 then s.aborted Abort.typeMismatch
    else if i.ty.getD r.ty.code ≠ r.ty.code ∨ !r.ty.fits i.bytes.length then s.aborted Abort.typeMismatch
    else if r.ty.scalar then s.writeScalar i.key r (ofBE i.bytes) w.role
    else s.writeLong i.key r i.bytes w.role

/-- The items applied in order up to the first that fails, with its number. -/
def State.writeItems (s : State) (w : Writer) : Nat → List WItem → State × Option Nat
  | _, [] => (s.aborted Abort.ok, none)
  | n, i :: rest =>
    let t := s.writeItem w i
    if t.abort ≠ Abort.ok then (t, some n) else t.writeItems w (n + 1) rest

/-- A whole write: applied, or refused as a whole; the failing item (0xFF none). A single refused item keeps what its chapter does
on a refusal (a new LifeCycleNonce). R442. -/
def State.writeAll (s : State) (w : Writer) (items : List WItem) : State × Nat :=
  match s.writeItems w 0 items with
  | (t, some n) => (if items.length ≤ 1 then t else s.aborted t.abort, n)
  | (t, none) => if s.breaks t then (s.aborted Abort.inconsistent, items.length - 1) else (t, 0xFF)

/-! ### Values of a configuration, at boot and in a commit's checks (R459, R460) -/

/-- A record's value put in force on a configuration, with its abort code: checks 4 to 6. R459, R460. -/
def State.bootWrite (s : State) (key : Nat) (r : EntryRow) (ty : Nat) (b : List Byte) : State :=
  if ty ≠ r.ty.code ∨ !r.ty.fits b.length then s.aborted Abort.typeMismatch
  else if r.ty.scalar then
    let v := ofLE b
    let a := s.valueRefusal key r v
    if a ≠ Abort.ok then s.aborted a
    else
      let t := if 0x2200 ≤ key / 256 ∧ key / 256 < 0x23C0 ∧ key % 256 = 2 then
          s.wr (K.secyPnThreshold (key / 256 - 0x2200)) (pnThresholdOf v)
        else s
      (((t.beforeWrite key).wr key v).afterWrite key (s.rd key)).aborted Abort.ok
  else (s.setOctets key b).aborted Abort.ok

end Sys2Proof.Machine
end

