-- ==== Sys2Proof/Machine/Tables.lean ====
section
/-! DEFINITION. The table domains (20_dictionary_map.md, R470 to R474): the image READ returns for every domain, what WRITE and the other
operations do, and the items a configuration bank stores. Where no rule gives an image's layout, Config.tableImage and
Config.tableField stand for it (log entry 23). -/

namespace Sys2Proof.Machine

/-! ### Images (R470, R474) -/

/-- A Bramble slot number from a position. R474. -/
def brSlotAt (pos : Nat) : Bool × Nat :=
  (decide (bit pos 18 = 1), if bit pos 17 = 1 then stashBase + pos % 2 ^ 17 else pos % 2 ^ 17)

/-- A delay-list entry as its 128-bit format. R136. -/
def DelayEntry.word (e : DelayEntry) : Nat :=
  e.due % 2 ^ 64 * 2 ^ 64 + e.affinity.toNat * 2 ^ 48 + e.level % 8 * 2 ^ 45 + b2n e.launch * 2 ^ 44 + e.tag.toNat

def JState.code : JState → Nat
  | .free => 0 | .queued => 1 | .running => 2 | .ended => 3 | .releasing => 4 | .replay => 5 | .failed => 6

/-- The journal header; FirstGrantCycle counts DX cycles from reset release (log entry 39). R152. -/
def State.journalHeader (s : State) (e : JEntry) : Nat :=
  let first := match e.firstGrant with
    | some t => (t - s.boot.releasedAt) * 2 % 2 ^ 29
    | none => 0
  e.st.code * 2 ^ 125 + e.desc.orderDomain.toNat * 2 ^ 115 + e.desc.ticket.toNat * 2 ^ 99 + e.thread % 512 * 2 ^ 90
    + e.endKind * 2 ^ 88 + e.actions.length * 2 ^ 83 + cdiv e.payload.length 16 * 2 ^ 79 + e.replayCount * 2 ^ 77
    + e.lastFault * 2 ^ 69 + e.endArg.toNat * 2 ^ 53 + e.windowCell * 2 ^ 29 + first

/-- A journal entry's 512 bytes. R152. -/
def State.journalImage (s : State) (j : Nat) : List Byte :=
  let e := s.jentry j
  e.desc.bytes ++ toLE 16 (s.journalHeader e) ++ slice (e.actions.flatMap fun a => toLE 16 a.toNat) 0 256 ++ slice e.payload 0 192

/-- A gate control list entry. R340. -/
def GateEntry.word (e : GateEntry) : Nat := e.states.toNat * 2 ^ 56 + e.op * 2 ^ 52 + e.interval

/-- An image whose layout no rule gives. Log entry 23. -/
def openImage (d n : Nat) (fields : List Nat) : List Byte := toLE n (Config.tableImage d fields)

def Lock.fields (l : Lock) : List Nat :=
  (match l.holder with
    | none => [0, 0]
    | some (.requester t b) => [1 + b2n b, t]
    | some (.journal j) => [3, j]) ++ [b2n l.abandoned, l.waiters.length]

def ProgNode.fields (n : ProgNode) : List Nat :=
  [b2n n.used, b2n n.fixedLen.isSome, n.fixedLen.getD 0, n.lenBit, n.lenWidth, n.lenScale, n.lenAdd, n.keyBit, n.keyWidth,
   b2n n.terminal, n.profile]

def Pattern.fields (p : Pattern) : List Nat :=
  [b2n p.valid, p.bytes.length, ofLE p.bytes, b2n p.noCase, p.anchor, p.offset, p.range, p.flowValue.toNat, p.flowMask.toNat,
   p.action, p.hits]

def Recovery.fields (r : Recovery) : List Nat :=
  [r.history, r.timeout, b2n r.takeNoSeq, b2n r.strip, r.passed, r.discarded, r.outOfOrder, r.rogue, r.lost, r.tagless, r.resets]

/-- The image of a position of the parser's, Bramble's and Lodestar's domains. -/
def State.imageA (s : State) (d pos : Nat) : List Byte :=
  if d = 0x7000 then
    let c := tget SecChan.zero s.px.chans pos
    openImage d 16 ([b2n c.used, b2n c.rx, c.secy, c.sci.toNat] ++ (List.range 20).map fun i => tget 0 c.ctrs (i + 1))
  else if d = 0x7001 then
    let a := tget Sa.zero s.px.sas pos
    openImage d 64 ([b2n a.installed, a.ssci.toNat, a.nextPn, a.lowestPn, b2n a.exhausted] ++ (List.range 20).map fun i => tget 0 a.ctrs (i + 1))
  else if d = 0x7010 then
    if pos < 0x10 then openImage d 16 [pos, tget 0 s.pc.nativeProfile pos]
    else if pos < 0x80 then openImage d 16 (pos :: (tget ProgNode.zero s.pc.nodes pos).fields)
    else
      let t := tget Transition.zero s.pc.transitions (pos - 0x100)
      openImage d 16 [pos, b2n t.used, t.fromNode, t.value.toNat, t.mask.toNat, t.toNode]
  else if d = 0x7011 then
    let r := tget Rule.zero s.pc.rules pos
    toLE 64 r.value.toNat ++ toLE 64 r.mask.toNat ++ toLE 4 r.action.toNat ++ toLE 4 (b2n r.valid) ++ toLE 8 r.hits
  else if d = 0x7012 then openImage d 88 (tget Pattern.zero s.pc.patterns pos).fields
  else if d = 0x7013 then (List.range 16).flatMap fun i => toLE 8 (tget 0 s.pc.keyProfiles (16 * pos + i))
  else if d = 0x7020 then s.brEntryBytes (brSlotAt pos).1 (brSlotAt pos).2
  else if d = 0x7021 then openImage d 16 ((tget [] s.br.profiles pos).flatMap fun r => [r.1, r.2])
  else
    let x := s.lstream pos
    toLE 16 x.word.toNat ++ toLE 8 x.frames ++ toLE 8 x.stomps

/-- The image of a position of the Dispatcher's, Ordered Release Unit's, Rendezvous Unit's and Orchard's domains. -/
def State.imageB (s : State) (d pos : Nat) : List Byte :=
  if d = 0x7040 then
    match (s.delayList (pos / 2048)).entries.find? fun e => decide (e.slot = pos % 2048) with
    | some e => toLE 16 e.word
    | none => List.replicate 16 0#8
  else if d = 0x7041 then s.journalImage pos
  else if d = 0x7042 then toLE 8 (tget 0#8 s.oru.mcast pos).toNat
  else if d = 0x7043 then toLE 8 (tget 0 s.oru.reasons pos)
  else if d = 0x7060 then openImage d 8 (s.lock pos).fields
  else if d = 0x7061 then toLE 4 (tget semCfgDefault s.rdv.cfg.sems pos).toNat ++ toLE 4 (s.sem pos).count
  else if d = 0x7062 then toLE 4 (tget chanCfgDefault s.rdv.cfg.chans pos).toNat ++ toLE 4 (s.rdvChan pos).msgs.length
  else if d = 0x7063 then toLE 4 (tget eventCfgDefault s.rdv.cfg.events pos).toNat ++ toLE 4 (b2n (s.evbit pos).value)
  else if d = 0x7064 then toLE 72 (tget 0#576 s.rdv.cfg.groups pos).toNat
  else if d = 0x7065 then s.loadBytes .atomic (8 * pos) 8
  else if d = 0x7070 then toLE 8 (s.cell pos).linkWord
  else if d = 0x7071 then toLE 4 (s.orch.quarantineList.getD pos 0)
  else s.cellBytes pos 256

/-- The image of a position of the Traffic Manager's domains and the FIO pins. -/
def State.imageC (s : State) (d pos : Nat) : List Byte :=
  if d = 0x7080 then
    let g := s.gate (bits pos 18 16)
    let i := pos % 256
    toLE 8 (if bit pos 8 = 1 then g.oper.getD i GateEntry.zero else tget GateEntry.zero g.admin i).word
  else if d = 0x7081 then toLE 8 (tget 4096#64 s.tm.streamCfg pos).toNat
  else if d = 0x7082 then
    let f := tget StreamFilter.zero s.tm.filters pos
    openImage d 16 [b2n f.enable, f.maxSdu, b2n f.blockOnOversize, b2n f.meterEnable, f.meter, b2n f.blocked]
  else if d = 0x7083 then
    let m := tget Meter.zero s.tm.meters pos
    openImage d 32 [m.cir, m.eir, m.cbs, m.ebs, b2n m.coupling, b2n m.dropOnYellow, b2n m.markRed, b2n m.allRed]
  else if d = 0x7084 then
    let a := tget AtsShaper.zero s.tm.shapers pos
    openImage d 16 [a.cir, a.cbs, a.maxResidence]
  else if d = 0x7085 then toLE 8 (tget 0 s.tm.seqGen pos)
  else if d = 0x7086 then openImage d 64 (tget Recovery.zero s.tm.recovery pos).fields
  else if d = 0x7088 then openImage d 32 [pos, s.freeCtr]
  else toLE 4 (s.pinStaged pos).toNat

/-- The image of a position of the remaining domains. -/
def State.imageD (s : State) (d pos : Nat) : List Byte :=
  if d = 0x70A0 then toLE 4 (tget 0 s.dram.timing pos)
  else if d = 0x70B0 then
    match tget none s.dma.chans pos with
    | some x => openImage d 32 [1 + b2n (decide (s.dma.running = some pos)), x.desc.toNat, x.origin, x.requester.toNat]
    | none => openImage d 32 [0]
  else if d = 0x70C0 then toLE 4 (s.otpWord pos)
  else if d = 0x70C1 then
    let e := s.keyEntry pos
    openImage d 8 [b2n e.used, e.keyId, e.usage, e.gen]
  else if d = 0x70C2 then slice (s.domItem 0x70C2 pos) 0 64
  else if d = 0x70D0 then
    let r := tget AlmRec.zero s.alm.slots pos
    if r = AlmRec.zero then List.replicate 32 0#8 else r.bytes
  else if d = 0x70D1 then openImage d 32 [pos]
  else if d = 0x70D2 then
    let b := (tget [] s.alm.log pos).flatMap AlmRec.bytes
    b ++ List.replicate (256 - b.length) 0xFF#8
  else if d = 0x70D3 then toLE 4 (tget 0 s.trc.selection pos)
  else if d = 0x70E0 then toLE 16 (tget 0 s.snd.results pos)
  else if d = 0x70E1 then
    match s.snd.repairs[pos]? with
    | some (m, i, sp, g) => toLE 8 (m * 2 ^ 56 + i * 2 ^ 48 + sp * 2 ^ 40 + g)
    | none => List.replicate 8 0#8
  else if d = 0x70E2 then toLE 1 (s.sourceClass pos)
  else []

/-- The image of a position. -/
def State.domImage (s : State) (d pos : Nat) : List Byte :=
  if d < 0x7040 then s.imageA d pos else if d < 0x7080 then s.imageB d pos else if d < 0x70A0 then s.imageC d pos else s.imageD d pos

/-- An entry of the rule table (both copies), the pattern table or the journal that cannot be read for an uncorrectable error. R71, R80,
R170, R471. -/
def State.entryLost (s : State) (d pos : Nat) : Bool :=
  if d = 0x7011 then (tget Rule.zero s.pc.rules pos).badEast && (tget Rule.zero s.pc.rules pos).badWest
  else if d = 0x7012 then (tget Pattern.zero s.pc.patterns pos).bad
  else decide (d = 0x7041) && (s.jentry pos).bad

/-! ### READ (R326, R384, R414, R471, R480) -/

/-- One position read: status, image, and the machine after it. A timestamp FIFO gives up its oldest record; DRAM lines answer with
their own status; DeviceSeed and PufHelper are never read (log entry 40). -/
def State.readPosition (s : State) (d pos : Nat) : Nat × List Byte × State :=
  if d = 0x7087 then
    let r := nextOf (execPtpTsRead (Fin.ofNat 8 pos) s) s
    (0, if r.reply.isEmpty then openImage d 16 [] else r.reply, r)
  else if d = 0x7065 then
    let s := s.when (s.rdv.badAtomic.contains pos) (·.atomicError pos)
    if s.rdv.badAtomic.contains pos then (0xFF, [], s) else (0, s.domImage d pos, s)
  else if d = 0x7020 then
    let p := brSlotAt pos
    let s := s.brEcc p.1 [p.2]
    (0, s.domImage d pos, s)
  else if d = 0x7070 then
    let r := s.readLink pos
    (if r.1 then 0 else 0xFF, s.domImage d pos, r.2)
  else if d = 0x7072 then
    if pos ∈ s.orch.badData then (0xFF, [], s.cellEcc pos) else (0, s.domImage d pos, s.fixCells [pos])
  else if d = 0x70A1 then
    let r := s.dramReadLine 18 (64 * pos) 64
    (r.1, r.2.1, r.2.2)
  else if d = 0x70C0 then (if 8 ≤ pos ∧ pos < 80 then (opRefused, [], s) else (0, s.domImage d pos, s))
  else if d = 0x70D0 then
    let s := s.almEcc
    (0, s.domImage d pos, s)
  else if d = 0x7088 then (0, s.domImage d pos, s.tick)
  else (if s.entryLost d pos then 0xFF else 0, s.domImage d pos, s)

/-- A range of positions read, up to the first that does not answer OK. -/
def State.readRange (s : State) (d : Nat) : Nat → Nat → Nat × List Byte × State
  | _, 0 => (0, [], s)
  | pos, n + 1 =>
    let r := s.readPosition d pos
    if r.1 ≠ 0 then (r.1, [], r.2.2)
    else
      let t := r.2.2.readRange d (pos + 1) n
      (t.1, r.2.1 ++ t.2.1, t.2.2)

/-! ### WRITE -/

/-- A field of an image whose layout no rule gives. Log entry 23. -/
def openField (d k : Nat) (image : List Byte) : Nat := Config.tableField d k (ofLE image)
def openFlag (d k : Nat) (image : List Byte) : Bool := decide (openField d k image % 2 = 1)

/-- A parse-graph image of a position. R62, R65. -/
def graphImage (pos : Nat) (image : List Byte) : GraphImage :=
  let f := fun k => openField 0x7010 k image
  let g := fun k => openFlag 0x7010 k image
  if pos < 0x10 then .native (BitVec.ofNat 8 pos) (BitVec.ofNat 8 (f 1))
  else if pos < 0x80 then
    .node (BitVec.ofNat 8 pos) (g 1) (if g 2 then some (f 3) else none) (f 4) (f 5) (f 6) (f 7) (f 8) (f 9) (g 10) (f 11)
  else .transition (BitVec.ofNat 16 (pos - 0x100)) (g 1) (BitVec.ofNat 8 (f 2)) (BitVec.ofNat 32 (f 3)) (BitVec.ofNat 32 (f 4))
    (BitVec.ofNat 8 (f 5))

/-- A pattern image. R76. -/
def patternImage (image : List Byte) : PatternImage :=
  let f := fun k => openField 0x7012 k image
  ⟨openFlag 0x7012 0 image, toLE (f 1 % 65) (f 2), openFlag 0x7012 3 image, BitVec.ofNat 2 (f 4), BitVec.ofNat 12 (f 5),
   BitVec.ofNat 12 (f 6), BitVec.ofNat 8 (f 7), BitVec.ofNat 8 (f 8), BitVec.ofNat 3 (f 9)⟩

/-- The ranges of a Bramble key-profile image. R89. -/
def profileRanges (image : List Byte) : List (Nat × Nat) :=
  ((List.range 4).map fun i => (openField 0x7021 (2 * i) image, openField 0x7021 (2 * i + 1) image)).filter fun r => r.2 ≠ 0

/-- A WRITE of the parser's, Bramble's and Lodestar's domains. -/
def State.writeA (s : State) (d pos : Nat) (b : List Byte) : Host.Outcome State Fault Refusal :=
  if d = 0x7010 then execParseGraphWrite (graphImage pos b) s
  else if d = 0x7011 then
    if 1 < leAt b 132 1 ∨ leAt b 133 3 ≠ 0 then .next (s.status opRefused)
    else execRuleWrite (Fin.ofNat 8192 pos) (decide (leAt b 132 1 = 1)) (BitVec.ofNat 512 (leAt b 0 64)) (BitVec.ofNat 512 (leAt b 64 64))
      (BitVec.ofNat 32 (leAt b 128 4)) s
  else if d = 0x7012 then execPatternWrite (Fin.ofNat 4096 pos) (patternImage b) s
  else if d = 0x7013 then execKeyProfileWrite (Fin.ofNat 16 pos) b s
  else if d = 0x7021 then execBrambleProfileWrite (Fin.ofNat 8 (pos - 8)) (profileRanges b) s
  else execLodestarStreamWrite (Fin.ofNat 1024 pos) (BitVec.ofNat 128 (leAt b 0 16)) s

/-- A WRITE of the Ordered Release Unit's, Rendezvous Unit's and Orchard's domains. -/
def State.writeB (s : State) (d pos : Nat) (b : List Byte) : Host.Outcome State Fault Refusal :=
  if d = 0x7042 then execMulticastGroupWrite (Fin.ofNat 1024 pos) (BitVec.ofNat 64 (ofLE b)) s
  else if d = 0x7061 then execRendezvousConfigWrite (.sem (Fin.ofNat 1024 pos) (BitVec.ofNat 32 (leAt b 0 4))) s
  else if d = 0x7062 then execRendezvousConfigWrite (.chan (Fin.ofNat 1024 pos) (BitVec.ofNat 32 (leAt b 0 4))) s
  else if d = 0x7063 then execRendezvousConfigWrite (.event (Fin.ofNat 1024 pos) (BitVec.ofNat 32 (leAt b 0 4))) s
  else if d = 0x7064 then execRendezvousConfigWrite (.group (Fin.ofNat 16 pos) (BitVec.ofNat 576 (ofLE b))) s
  else if d = 0x7065 then execAtomicMemoryWrite (Fin.ofNat 8192 pos) (BitVec.ofNat 64 (ofLE b)) s
  else execPilotRegionWrite (BitVec.ofNat 24 pos) b s

/-- A WRITE of the Traffic Manager's domains and the FIO pins. -/
def State.writeC (s : State) (d pos : Nat) (b : List Byte) : Host.Outcome State Fault Refusal :=
  let f := fun k => openField d k b
  let g := fun k => openFlag d k b
  if d = 0x7080 then
    execGateListWrite (Fin.ofNat 8 (bits pos 18 16)) (decide (bit pos 8 = 1)) (Fin.ofNat 256 (pos % 256)) (BitVec.ofNat 64 (ofLE b)) s
  else if d = 0x7081 then execStreamQueueWrite (Fin.ofNat 512 pos) (BitVec.ofNat 64 (ofLE b)) s
  else if d = 0x7082 then
    execStreamFilterWrite (Fin.ofNat 2048 pos) (g 0) (BitVec.ofNat 16 (f 1)) (g 2) (g 3) (Fin.ofNat 2048 (f 4)) s
  else if d = 0x7083 then
    execFlowMeterWrite (Fin.ofNat 2048 pos) (BitVec.ofNat 32 (f 0)) (BitVec.ofNat 32 (f 1)) (BitVec.ofNat 24 (f 2))
      (BitVec.ofNat 24 (f 3)) (g 4) (g 5) (g 6) s
  else if d = 0x7084 then
    execAtsShaperWrite (Fin.ofNat 512 pos) (BitVec.ofNat 32 (f 0)) (BitVec.ofNat 32 (f 1)) (BitVec.ofNat 32 (f 2)) s
  else if d = 0x7086 then
    execFrerRecoveryWrite (Fin.ofNat 1024 pos) (BitVec.ofNat 8 (f 0)) (BitVec.ofNat 16 (f 1)) (g 2) (g 3) s
  else execPinConfigWrite (Fin.ofNat 64 pos) (BitVec.ofNat 32 (ofLE b)) s

/-- A WRITE of the remaining domains. A selection word has [7:1] zero (R492). -/
def State.writeD (s : State) (d pos : Nat) (b : List Byte) (role : Nat) : Host.Outcome State Fault Refusal :=
  if d = 0x70A0 then execDramTimingWrite (Fin.ofNat 96 pos) (BitVec.ofNat 32 (ofLE b)) s
  else if d = 0x70A1 then execDramLineWrite (BitVec.ofNat 30 pos) b s
  else if d = 0x70C0 then .next (s.otpWrite pos (ofLE b) role)
  else if d = 0x70C2 then execKeyBlobWrite (Fin.ofNat 256 pos) (BitVec.ofNat 512 (ofLE b)) s
  else if d = 0x70D1 then .next (s.almPost b false)
  else if d = 0x70D3 then
    if bits (ofLE b) 7 1 ≠ 0 then .next (s.status opRefused)
    else .next ((({ s with trc := { s.trc with selection := tset 0 s.trc.selection pos (ofLE b) } } : State).bump K.cmtStagedWrites).status 0)
  else .next (s.faultClass pos (ofLE b))

/-- A WRITE of one position's image, the OpStatus set. -/
def State.domWrite (s : State) (d pos : Nat) (b : List Byte) (role : Nat) : State :=
  nextOf (if d < 0x7040 then s.writeA d pos b else if d < 0x7080 then s.writeB d pos b else if d < 0x70A0 then s.writeC d pos b
    else s.writeD d pos b role) { s with opStatus := 0xFF }

/-! ### The boot flash (R524) -/

/-- A directory entry. -/
structure FlashEntry where
  offset : Nat
  size : Nat
  ty : Nat
  copy : Nat
deriving DecidableEq, Repr

/-- The entries of a directory copy, if its Magic, Version, EntryCount and CRC pass. R524. -/
def State.directoryAt (s : State) (copy : Nat) : Option (List FlashEntry) :=
  let h := s.loadBytes .flash (0x1000 * copy) 16
  let n := leAt h 6 2
  if leAt h 0 4 ≠ 0x52444843 ∨ leAt h 4 2 ≠ 1 ∨ n = 0 ∨ 32 < n then none
  else
    let b := s.loadBytes .flash (0x1000 * copy + 16) (16 * n)
    if crc 32 0x1EDC6F41 0xFFFFFFFF true true 0xFFFFFFFF (h.take 12 ++ b) ≠ leAt h 12 4 then none
    else some ((List.range n).map fun i => ⟨leAt b (16 * i) 4, leAt b (16 * i + 4) 4, leAt b (16 * i + 8) 1, leAt b (16 * i + 9) 1⟩)

/-- The directory the boot ROM uses: its copy and entries. R524. -/
def State.directory (s : State) : Option (Nat × List FlashEntry) :=
  match s.directoryAt 0 with
  | some l => some (0, l)
  | none => (s.directoryAt 1).map fun l => (1, l)

/-- The flash region of an image type and copy. -/
def State.flashRegion (s : State) (ty copy : Nat) : Option FlashEntry :=
  match s.directory with
  | some (_, l) => l.find? fun e => decide (e.ty = ty) && decide (e.copy = copy)
  | none => none

/-- The image in a region: header, and body by its BodyLength, within the region. -/
def State.imageIn (s : State) (e : FlashEntry) : List Byte :=
  let h := s.loadBytes .flash e.offset 288
  h ++ s.loadBytes .flash (e.offset + 288) (min (imgLength h) (e.size - 288))

/-- LOAD of a Pilot firmware copy into boot flash, with its OpStatus. Refused for another image type or a region it does not fit
(log entry 41). R426, R474. -/
def State.loadFlashImage (s : State) (copy : Nat) (image : List Byte) : State :=
  let r := s.verifyService image
  if r.1 ≠ bsOk then r.2.status r.1
  else match r.2.flashRegion 1 copy with
    | some e =>
      if imgType image ≠ 1 ∨ e.size < image.length then r.2.status bsBadImage
      else (r.2.storeBytes .flash e.offset image).status bsOk
    | none => r.2.status bsBadTarget

/-- FLASH_IMAGE_LOAD. R426. -/
def execFlashImageLoad (copy : Fin 2) (image : List (BitVec 8)) (s : State) : Host.Outcome State Fault Refusal :=
  .next (s.loadFlashImage copy.val image)

/-! ### The operations of TABLE (R447, R470, R471) -/

/-- A reserved operation code. R470. -/
def reservedOp (op : Nat) : Bool := decide (op = 0) || (decide (6 ≤ op) && decide (op < 0x10)) || decide (0x1B ≤ op)

/-- The role an operation asks for. R414, R470. -/
def State.domRole (s : State) (d : DomRow) (op : Nat) : Nat :=
  if op = tblRead then d.readRole else if d.index = 0x70C0 then s.otpRole else d.role

/-- The length of an operation's arguments fits. R471. -/
def argFits (d : DomRow) (op n : Nat) : Bool :=
  if op = tblRead then decide (n = 6)
  else if op = tblWrite then decide (n = 4 + d.bytes)
  else if op = tblFind ∨ op = tblInsert ∨ op = tblDelete then
    (if d.index = 0x7020 then decide (n = 33 ∨ n = 65) else decide (n = d.bytes))
  else if op = 0x14 ∨ op = 0x15 then decide (n = 8)
  else if op = 0x16 then decide (n = 2)
  else if op = 0x19 then decide (n = 36)
  else decide (n = 4)

/-- The positions an operation names lie within the domain. The handles of 7070 and 7072's claims are judged by the Orchard. R471. -/
def State.rangeFits (s : State) (d : DomRow) (op : Nat) (args : List Byte) : Bool :=
  if op = tblFind ∨ op = tblInsert ∨ op = tblDelete ∨ op = 0x16 ∨ op = 0x14 ∨ op = 0x15 then true
  else
    let pos := beAt args 0 4
    let n := if op = tblRead then beAt args 4 2 else 1
    if op = 0x11 ∨ op = 0x12 ∨ op = 0x13 then decide (pos < 2 ^ 24)
    else decide (pos + n ≤ s.positions d.index) && (List.range n).all fun i => s.positionOk d.index (pos + i)

/-- The Result of a TABLE request that cannot be issued; 0 otherwise. The tests in R471's order. -/
def State.tableRefusal (s : State) (d : DomRow) (sub op role : Nat) (args : List Byte) : Nat :=
  if sub ≠ 1 then Abort.noSubindex
  else if reservedOp op then Abort.reservedBits
  else if d.view ∧ op ≠ tblRead then Abort.readOnly
  else if op ≠ tblRead ∧ !d.ops.contains op then Abort.reservedBits
  else if role < s.domRole d op then Abort.role
  else if !argFits d op args.length ∨ (op = tblRead ∧ 1024 < beAt args 4 2 * d.bytes) then Abort.badLength
  else if !s.rangeFits d op args then Abort.valueRange
  else Abort.ok

/-- An operation carried out, with its OpStatus and result bytes. Which list an INSERT into 7040 names no rule states (log
entry 42). -/
def State.tableOp (s : State) (d : DomRow) (op role : Nat) (args : List Byte) : State :=
  let s := { s with reply := [] }
  let pos := beAt args 0 4
  let t := Fin.ofNat 256 (args.getD 0 0#8).toNat
  let target := BitVec.ofNat 8 t.val
  let fin (o : Host.Outcome State Fault Refusal) : State := nextOf o { s with opStatus := 0xFF }
  let plain (s : State) : State := { s with reply := [] }
  if op = tblRead then
    let r := s.readRange d.index pos (beAt args 4 2)
    { (r.2.2.status r.1) with reply := r.2.1 }
  else if op = tblWrite then plain (s.domWrite d.index pos (args.drop 4) role)
  else if op = tblFind then fin (execBrambleFind target (args.drop 1) s)
  else if op = tblInsert then
    if d.index = 0x7020 then fin (execBrambleInsert target (args.drop 1) s)
    else
      let r := nextOf (execDelayListInsert (Fin.ofNat 8 (s.free 8)) (BitVec.ofNat 128 (ofLE args)) s.tick) s
      { r with reply := toBE 4 (ofLE r.reply) }
  else if op = tblDelete then fin (execBrambleDelete target (args.drop 1) s)
  else if op = tblLoad then
    let image := s.octetsOf (dictKey d.index 4)
    plain (if d.index = 0x7050 then s.loadCodeBank pos image else if d.index = 0x7091 then s.loadBarrelCode pos image
      else s.loadFlashImage pos image)
  else if op = 0x11 then plain (s.orchRelease ownPilot pos)
  else if op = 0x12 then plain (s.orchFree false pos)
  else if op = 0x13 then plain (s.orchReclaim pos)
  else if op = 0x14 then plain (s.claim pos (beAt args 4 4))
  else if op = 0x15 then plain (s.unclaim pos (beAt args 4 4))
  else if op = 0x16 then plain (fin (execDelayListCancel (BitVec.ofNat 16 (beAt args 0 2)) s))
  else if op = 0x17 then plain (fin (execClearBlock (Fin.ofNat 2048 pos) s))
  else if op = 0x18 then plain (fin (execClearRed (Fin.ofNat 2048 pos) s))
  else if op = 0x19 then plain (fin (execDmaPilotDoorbell (Fin.ofNat 16 pos) (BitVec.ofNat 256 (ofLE (args.drop 4))) 0 s))
  else plain (fin (execDmaAbort (Fin.ofNat 16 pos) s))

end Sys2Proof.Machine
end

