-- ==== Sys2Proof/Machine/Commit.lean ====
section
/-! DEFINITION. Configurations and commits (19_urros_uda.md, R458 to R460; 20_dictionary_map.md, R473): the body read record by
record, the staged configuration written as a body, and the commit's checks and end. -/

namespace Sys2Proof.Machine

/-! ### Reading a body (R459, R460, R473) -/

/-- What reading a configuration answers: the machine it leaves, an abort code (0 when every record passed), and the entry or byte
offset the code is about. -/
structure ConfigResult where
  state : State
  code : Nat
  entry : Nat
deriving DecidableEq, Repr

/-- Padding to a multiple of 8. -/
def pad8 (n : Nat) : Nat := (8 - n % 8) % 8

/-- A field that must be zero is zero. -/
def zeroAt (b : List Byte) (off n : Nat) : Bool := decide (leAt b off n = 0)

/-- The image length an item of a persistent domain has. R473, R474. -/
def itemLengthOk (d : DomRow) (n : Nat) : Bool :=
  if d.index = 0x7020 then decide (n = 33 ∨ n = 65) else decide (n = d.bytes)

/-- An item of a domain put in force, the OpStatus set. A Bramble item holds its target byte. R473. -/
def State.putItem (s : State) (d : DomRow) (pos : Nat) (b : List Byte) : State :=
  if d.index = 0x7020 then
    nextOf (execBrambleInsert (BitVec.ofNat 8 (b.getD 0 0#8).toNat) (b.drop 1) s) { s with opStatus := 0xFF }
  else s.domWrite d.index pos b 3

/-- The items of a domain's record, from an offset of its value: positions ascend from `lo`. R473. -/
def State.putItems (s : State) (d : DomRow) (v : List Byte) : Nat → Nat → Nat → State × Nat
  | 0, off, _ => (s, if off = v.length then Abort.ok else Abort.inconsistent)
  | f + 1, off, lo =>
    if off = v.length then (s, Abort.ok)
    else
      let pos := leAt v off 4
      let n := leAt v (off + 4) 4
      if v.length < off + 8 ∨ v.length < off + 8 + n + pad8 n then (s, Abort.inconsistent)
      else if !zeroAt v (off + 8 + n) (pad8 n) ∨ pos < lo then (s, Abort.inconsistent)
      else if !s.positionOk d.index pos then (s, Abort.valueRange)
      else if !itemLengthOk d n then (s, Abort.typeMismatch)
      else
        let t := s.putItem d pos (slice v (off + 8) n)
        if 2 < t.opStatus then (t, Abort.valueRange)
        else t.putItems d v f (off + 8 + n + pad8 n) (pos + 1)

/-- A record applied: checks from check 4 of R442 onward. R459 step 3. -/
def State.putEntry (s : State) (key ty : Nat) (v : List Byte) : State × Nat :=
  match lookupEntry key with
  | .error e => (s, e)
  | .ok r =>
    match (if key % 256 = 1 then findDom (key / 256) else none) with
    | some d =>
      if !d.p then (s, Abort.inconsistent)
      else if ty ≠ EType.domain.code then (s, Abort.typeMismatch)
      else s.putItems d v (v.length / 8) 0 0
    | none =>
      if r.p ≠ .yes then (s, Abort.inconsistent)
      else
        let t := s.bootWrite key r ty v
        (t, t.abort)

/-- The records of a body, from an offset: `n` of them, keys ascending from `lo`; up to the first failure. R459, R460. -/
def State.putRecords (s : State) (b : List Byte) : Nat → Nat → Nat → ConfigResult
  | 0, off, _ => ⟨s, if off = b.length then Abort.ok else Abort.inconsistent, off⟩
  | n + 1, off, lo =>
    let key := dictKey (leAt b off 2) (leAt b (off + 2) 1)
    let len := leAt b (off + 4) 4
    if b.length < off + 8 ∨ b.length < off + 8 + len + pad8 len then ⟨s, Abort.inconsistent, off⟩
    else if !zeroAt b (off + 8 + len) (pad8 len) ∨ key < lo then ⟨s, Abort.inconsistent, off⟩
    else
      let r := s.putEntry key (leAt b (off + 3) 1) (slice b (off + 8) len)
      if r.2 ≠ Abort.ok then ⟨r.1, r.2, key⟩ else r.1.putRecords b n (off + 8 + len + pad8 len) (key + 1)

/-- The key of the last record of a body whose records pass; what a failing cross-entry rule names. R442, R459. -/
def lastKey (b : List Byte) : Nat → Nat → Nat → Nat
  | 0, _, k => k
  | n + 1, off, _ =>
    let len := leAt b (off + 4) 4
    lastKey b n (off + 8 + len + pad8 len) (dictKey (leAt b off 2) (leAt b (off + 2) 1))

/-- A whole body put in force: records, then the cross-entry rules. R459, R460. -/
def State.putConfig (s : State) (b : List Byte) : ConfigResult :=
  if b.length < 8 ∨ !zeroAt b 4 4 then ⟨s, Abort.inconsistent, 0⟩
  else
    let r := s.putRecords b (leAt b 0 4) 8 0
    if r.code ≠ Abort.ok then r
    else
      let last := lastKey b (leAt b 0 4) 8 0
      if !r.state.consistent then ⟨r.state, Abort.inconsistent, last⟩ else r

/-- The machine with every entry at its default, on which a configuration is checked. OTP and variant are the device's. R459, R460. -/
def State.blank (s : State) : State :=
  let z := State.reset
  { z with variant := s.variant, now := s.now, bin := { z.bin with otp := s.bin.otp } }

/-! ### The staged configuration (R458, R473) -/

/-- A record: key, type code, value. -/
structure BodyRecord where
  key : Nat
  ty : Nat
  value : List Byte
deriving DecidableEq, Repr

def BodyRecord.bytes (r : BodyRecord) : List Byte :=
  toLE 2 (r.key / 256) ++ toLE 1 (r.key % 256) ++ toLE 1 r.ty ++ toLE 4 r.value.length ++ r.value
    ++ List.replicate (pad8 r.value.length) 0#8

/-- The keys of a table. -/
def keysOf (t : Tbl α) : List Nat := t.map Prod.fst

/-- Keys in ascending order without repeats. -/
def sortKeys (l : List Nat) : List Nat :=
  (sortBy (fun a b => decide (a ≤ b)) l).foldr (fun x r => if r.head? = some x then r else x :: r) []

/-- The row of a persistent entry. -/
def persistentRow (key : Nat) : Option EntryRow :=
  match lookupEntry key with
  | .ok r => if r.p = .yes then some r else none
  | .error _ => none

/-- The scalar keys whose value may differ from the default, the PnThreshold of every SecY with a CipherSuite among them, since
a CipherSuite record sets it. R55, R460. -/
def State.scalarKeys (s : State) : List Nat :=
  let k := keysOf s.dict ++ keysOf s.staged
  sortKeys (k ++ (k.filter fun x => decide (0x220000 ≤ x ∧ x < 0x23C000 ∧ x % 256 = 2)).map fun x =>
    K.secyPnThreshold (x / 256 - 0x2200))

/-- The record of a scalar entry. -/
def State.scalarRecord (s : State) (key : Nat) : Option BodyRecord :=
  match persistentRow key with
  | some r => if r.ty.scalar then some ⟨key, r.ty.code, toLE r.ty.size (s.stagedValue key)⟩ else none
  | none => none

/-- The record of an OCTETS or DOMAIN entry. -/
def State.octetsRecord (s : State) (key : Nat) : Option BodyRecord :=
  match persistentRow key with
  | some r => if r.ty.scalar then none else some ⟨key, r.ty.code, s.longValue key r.ty⟩
  | none => none

/-- The positions of a table whose entries are valid. -/
def validKeys (ok : α → Bool) (t : Tbl α) : List Nat := (t.filter fun e => ok e.2).map Prod.fst

/-- The positions a persistent domain holds, Bramble's apart: the valid ones where an entry has a valid mark, else those that differ
from their default. R473. -/
def State.domPositions (s : State) (d : Nat) : List Nat :=
  if d = 0x7010 then
    sortKeys (keysOf s.pc.nativeProfile ++ validKeys ProgNode.used s.pc.nodes
      ++ (validKeys Transition.used s.pc.transitions).map (· + 0x100))
  else if d = 0x7011 then validKeys Rule.valid s.pc.rules
  else if d = 0x7012 then validKeys Pattern.valid s.pc.patterns
  else if d = 0x7013 then sortKeys ((keysOf s.pc.keyProfiles).map (· / 16))
  else if d = 0x7021 then keysOf s.br.profiles
  else if d = 0x7030 then validKeys (fun x => x.word.getLsbD 127) s.lode.streams
  else if d = 0x7042 then keysOf s.oru.mcast
  else if d = 0x7061 then keysOf s.rdv.cfg.sems
  else if d = 0x7062 then keysOf s.rdv.cfg.chans
  else if d = 0x7063 then keysOf s.rdv.cfg.events
  else if d = 0x7064 then keysOf s.rdv.cfg.groups
  else if d = 0x7080 then (List.range 8).flatMap fun p => (keysOf (s.gate p).admin).map (· + 65536 * p)
  else if d = 0x7081 then keysOf s.tm.streamCfg
  else if d = 0x7082 then keysOf s.tm.filters
  else if d = 0x7083 then keysOf s.tm.meters
  else if d = 0x7084 then keysOf s.tm.shapers
  else if d = 0x7086 then keysOf s.tm.recovery
  else if d = 0x7090 then keysOf s.bio.pinCfg
  else if d = 0x70A0 then keysOf s.dram.timing
  else if d = 0x70C2 then keysOf (tget [] s.uda.domains 0x70C2)
  else if d = 0x70D3 then keysOf s.trc.selection
  else if d = 0x70E2 then keysOf s.saf.classes
  else []

/-- The items of Bramble: STATIC and FLOW entries, east then west, each behind its target byte. R102, R473. -/
def State.brItems (s : State) : List (Nat × List Byte) :=
  [false, true].flatMap fun w =>
    ((s.rep w).slots.filter fun e => e.2.valid && decide (e.2.half ≠ 2) && decide (e.2.etype ≠ 1)).map fun e =>
      (brPosition w e.1, (if w then 2#8 else 1#8) :: s.brEntryBytes w e.1)

/-- The items of a persistent domain. -/
def State.domItems (s : State) (d : Nat) : List (Nat × List Byte) :=
  if d = 0x7020 then sortBy (fun a b => decide (a.1 ≤ b.1)) s.brItems
  else (s.domPositions d).map fun pos => (pos, s.domImage d pos)

/-- The record of a persistent domain; none while it holds nothing. R473. -/
def State.domRecord (s : State) (d : DomRow) : Option BodyRecord :=
  let items := s.domItems d.index
  if !d.p || items.isEmpty then none
  else some ⟨dictKey d.index 1, EType.domain.code, items.flatMap fun i =>
    toLE 4 i.1 ++ toLE 4 i.2.length ++ i.2 ++ List.replicate (pad8 i.2.length) 0#8⟩

/-- The body of the staged configuration. R458, R460. -/
def State.stagedBody (s : State) : List Byte :=
  let recs := sortBy (fun a b => decide (a.key ≤ b.key))
    (s.scalarKeys.filterMap s.scalarRecord ++ (keysOf s.octets).filterMap s.octetsRecord ++ domRows.filterMap s.domRecord)
  toLE 4 recs.length ++ toLE 4 0 ++ recs.flatMap BodyRecord.bytes

/-- An unsigned configuration image. R424, R458. -/
def configImage (seq : Nat) (body : List Byte) : List Byte :=
  let h := toLE 4 0x4D494843 ++ toLE 2 1 ++ toLE 1 2 ++ toLE 1 0 ++ toLE 8 seq ++ toLE 1 0xFF ++ toLE 1 0 ++ toLE 2 0
    ++ toLE 4 body.length ++ toLE 8 0 ++ shake256 body 64
  slice h 0 288 ++ body

/-- The snapshot a commit takes, as an image of the next Sequence. R458. -/
def State.snapshot (s : State) : List Byte := configImage (s.rd K.idConfigSequence + 1) s.stagedBody

/-! ### The commit (R458, R459, R526) -/

/-- A commit runs. R458, R467. -/
def State.committing (s : State) : Bool := decide (s.rd K.cmtCommitState = 1) || decide (s.rd K.cmtCommitState = 2)

/-- The bank a commit writes: the one not in force, or A. R526. -/
def State.targetBank (s : State) : Nat := if s.rd K.cmtInForceBank = 0 then 1 else 0

/-- Steps 1 to 3 of a commit on an image, the variant's rule last: abort code, entry and the machine after Binnacle's work. R395,
R459. -/
def State.commitChecks (s : State) (image : List Byte) : Nat × Nat × State :=
  let v := s.verifyService image
  if v.1 ≠ bsOk then (Abort.imageRefused v.1, 0, v.2)
  else if imgType image ≠ 2 then (Abort.imageRefused bsBadImage, 0, v.2)
  else if imgSequence image ≤ s.rd K.idConfigSequence ∧ s.rd K.cmtInForceBank ≠ 0xFF then (Abort.sequenceStale, 0, v.2)
  else
    let r := s.blank.putConfig (imgBody image)
    match (if r.code = Abort.ok then r.state.vaultedRegion else none) with
    | some g => (Abort.valueRange, K.drgKind g, v.2)
    | none => (r.code, r.entry, v.2)

/-- A commit of an image begins: checked, then the inactive bank is erased and its writing starts. The abort code is set: 0 when
COMMIT_DONE will end it. R459. -/
def State.commitStart (s : State) (image : List Byte) (staged : Nat) (req : UdaReq) (slot id seq : Nat) : State :=
  let c := s.commitChecks image
  if c.1 ≠ Abort.ok then (c.2.2.commitFails c.1 c.2.1).aborted c.1
  else
    let s := c.2.2
    match s.flashRegion 2 s.targetBank with
    | none => (s.commitFails Abort.flashError 0).aborted Abort.flashError
    | some e =>
      if e.size < image.length then (s.commitFails Abort.flashError 0).aborted Abort.flashError
      else
        let s := s.storeBytes .flash e.offset (List.replicate e.size 0xFF#8)
        let s := { s with uda := { s.uda with commit := some ⟨image, s.targetBank, staged, req, slot, id, seq⟩ } }
        (s.wr K.cmtCommitState 2).aborted Abort.ok

/-- A commit's flash work ends, with its abort code. R459, R467. -/
def State.commitEnd (s : State) (c : Commit) (ok : Bool) : State :=
  match (if ok then s.flashRegion 2 c.bank else none) with
  | none => (s.commitFails Abort.flashError 0).aborted Abort.flashError
  | some e =>
    let s := s.storeBytes .flash e.offset c.image
    let s := { s with uda := { s.uda with commit := none } }
    let s := ((s.wr K.cmtCommitState 3).wr K.cmtLastResult 0).bump K.ctrUdaCommits
    let s := s.drop K.cmtStagedWrites c.staged
    (s.almanac 23 0x1304 2 [(1, c.bank), (8, imgSequence c.image)]).aborted Abort.ok

/-- EXPORT: the snapshot placed in ExportImage. R458. -/
def State.commitExport (s : State) : State :=
  if 288 + 2 ^ 20 < s.snapshot.length then (s.commitFails Abort.inconsistent 0).aborted Abort.inconsistent
  else (((s.setOctets K.cmtExportImage s.snapshot).wr K.cmtCommitState 3).wr K.cmtLastResult 0).aborted Abort.ok

end Sys2Proof.Machine
end

