-- ==== Sys2Proof/Machine/Uda.lean ====
section
/-! DEFINITION. UDA (19_urros_uda.md, R445 to R459): the request at the head of the engine's queue, sessions and their keys,
sequencing, the requests, and responses over UDP and CAN XL. A row of the table takes the head of the queue when the message is of
its type; a message of no valid type is taken by the row of READ. -/

namespace Sys2Proof.Machine

/-! ### Messages (R445, R446) -/

def msgVersion (m : List Byte) : Nat := beAt m 0 1
def msgType (m : List Byte) : Nat := beAt m 1 1
def msgLength (m : List Byte) : Nat := beAt m 2 2
def msgSession (m : List Byte) : Nat := beAt m 4 4
def msgSequence (m : List Byte) : Nat := beAt m 8 8
def msgBody (m : List Byte) : List Byte := (m.drop 16).take (msgLength m)

/-- A message of the opening sequence carries no Mac. R445. -/
def opening (ty : Nat) : Bool := decide (ty = 1 ∨ ty = 2 ∨ ty = 3 ∨ ty = 5)

def hasMac (m : List Byte) : Bool := decide (msgSession m ≠ 0) && !opening (msgType m)

/-- The message is as long as its header says. R445. -/
def shapeOk (m : List Byte) : Bool :=
  decide (16 ≤ m.length) && decide (msgLength m ≤ 1392) && decide (m.length = 16 + msgLength m + (if hasMac m then 16 else 0))

/-- The items of a WRITE; none when the body is malformed. An item's padding brings the whole item to a multiple of 4. R446. -/
def writeItemsOf : Nat → List Byte → Option (List WItem)
  | 0, b => if b.isEmpty then some [] else none
  | n + 1, b =>
    let len := beAt b 4 2
    let pad := (4 - (6 + len) % 4) % 4
    if b.length < 6 + len + pad ∨ beAt b (6 + len) pad ≠ 0 then none
    else (writeItemsOf n (b.drop (6 + len + pad))).map fun r =>
      ⟨dictKey (beAt b 0 2) (beAt b 2 1), some (beAt b 3 1), slice b 6 len⟩ :: r

def writeItemsIn (b : List Byte) : Option (List WItem) :=
  if b.length < 4 ∨ beAt b 0 1 = 0 ∨ 32 < beAt b 0 1 ∨ beAt b 1 3 ≠ 0 then none else writeItemsOf (beAt b 0 1) (b.drop 4)

/-- A request's body is well-formed for its type. R446. -/
def bodyOk (ty : Nat) (b : List Byte) : Bool :=
  if ty = 0x01 then decide (b.length = 36) && decide (beAt b 0 1 = 1 ∨ beAt b 0 1 = 2) && decide (beAt b 1 1 ≤ 3)
  else if ty = 0x03 then decide (b.length = 32)
  else if ty = 0x05 then decide (b.length = 227)
  else if ty = 0x07 then b.isEmpty
  else if ty = 0x11 then decide (b.length = 4) && decide (beAt b 3 1 ≤ 1)
  else if ty = 0x13 then (writeItemsIn b).isSome
  else if ty = 0x15 then
    decide (b.length = 12) && decide (beAt b 3 1 = 0) && decide (1 ≤ beAt b 8 2) && decide (beAt b 8 2 ≤ 1024) && decide (beAt b 10 2 = 0)
  else if ty = 0x17 then decide (12 ≤ b.length) && decide (beAt b 3 1 ≤ 1)
  else if ty = 0x19 then decide (6 ≤ b.length) && decide (b.length = 6 + beAt b 4 2)
  else if ty = 0x1B then decide (b.length = 4) && decide (1 ≤ beAt b 0 1) && decide (beAt b 0 1 ≤ 3) && decide (beAt b 1 3 = 0)
  else false

/-- A request type. R446. -/
def requestType (ty : Nat) : Bool := [0x01, 0x03, 0x05, 0x07, 0x11, 0x13, 0x15, 0x17, 0x19, 0x1B].contains ty

/-- A message that is a well-formed request. -/
def wellFormedMsg (m : List Byte) : Bool :=
  shapeOk m && decide (msgVersion m = 1) && bodyOk (msgType m) (msgBody m) && decide (msgType m ≠ 1 ∨ msgSession m = 0)

/-- The row that takes a message: its type; 0x1A a TABLE of another operation than READ; 0x20 + Source a COMMIT. -/
def rowOf (m : List Byte) : Nat :=
  if !wellFormedMsg m then 0x11
  else if msgType m = 0x19 then (if beAt (msgBody m) 3 1 = tblRead then 0x19 else 0x1A)
  else if msgType m = 0x1B then 0x20 + beAt (msgBody m) 0 1
  else msgType m

/-- A message; its Mac under `kd` where it carries one. R445, R452. -/
def udaMsg (ty sid seq : Nat) (body kd : List Byte) : List Byte :=
  let m := toBE 1 1 ++ toBE 1 ty ++ toBE 2 body.length ++ toBE 4 sid ++ toBE 8 seq ++ body
  if hasMac m then m ++ kmac256 kd m 16 (ascii "CHATIA-UDA") else m

/-! ### Responses on their way (R448, R449) -/

/-- The IPv4 header of a response: the request's with addresses swapped, TTL 64 and its own length and checksum. -/
def ipv4Reply (h : List Byte) (n : Nat) : List Byte :=
  let h := slice h 0 2 ++ toBE 2 (20 + n) ++ slice h 4 4 ++ [64#8, 17#8, 0#8, 0#8] ++ slice h 16 4 ++ slice h 12 4
  patch h 10 (toBE 2 (inetChecksum h))

/-- The IPv6 header of a response. -/
def ipv6Reply (h : List Byte) (n : Nat) : List Byte :=
  slice h 0 4 ++ toBE 2 n ++ [17#8, 64#8] ++ slice h 24 16 ++ slice h 8 16

/-- The frame of a response: addresses and ports swapped, the outer VLAN tag kept, hop limit 64, a UDP checksum, padded to 60
bytes. R448. -/
def udpReply (r : UdaReq) (m : List Byte) : List Byte :=
  let h := r.head
  let tag := if beAt h 12 2 = 0x8100 ∨ beAt h 12 2 = 0x88A8 then slice h 12 4 else []
  let n := 8 + m.length
  let ip := h.drop r.l3
  let v6 := decide (beAt ip 0 1 / 16 = 6)
  let iph := if v6 then ipv6Reply ip n else ipv4Reply ip n
  let u := h.drop (h.length - 8)
  let udp := slice u 2 2 ++ slice u 0 2 ++ toBE 2 n ++ toBE 2 0 ++ m
  let pseudo := if v6 then slice iph 8 32 ++ toBE 4 n ++ toBE 4 17 else slice iph 12 8 ++ [0#8, 17#8] ++ toBE 2 n
  let c := inetChecksum (pseudo ++ udp)
  let udp := patch udp 6 (toBE 2 (if c = 0 then 0xFFFF else c))
  let f := slice h 6 6 ++ slice h 0 6 ++ tag ++ toBE 2 (if v6 then 0x86DD else 0x0800) ++ iph ++ udp
  f ++ List.replicate (60 - f.length) 0#8

/-- The processor whose data RAM holds the CAN XL buffers. R449. -/
def State.udaProcessor (s : State) : Nat := s.rd (K.bchUnit (s.rd K.udaUdaCanChannel)) / 4

/-- A response leaves: as a frame for the Traffic Manager, or through the response channel. R448, R449. -/
def State.udaSend (s : State) (r : UdaReq) (m : List Byte) : State :=
  if r.udp then
    let f := udpReply r m
    let h : Handover := ⟨{ Desc.zero with frameLength := BitVec.ofNat 14 (f.length + 4) }, 0, some f,
      [(r.port, s.rd K.udaUdaClass, 0)], none⟩
    { s with tm := { s.tm with inbox := s.tm.inbox ++ [h] } }
  else
    let off := s.rd K.udaUdaCanRspBuf
    let c := s.rd K.udaUdaCanRspChannel
    let s := s.storeBytes .barrelData (32768 * s.udaProcessor + off) m
    if s.chanOpen c then (s.placeMsg c [BitVec.ofNat 32 off, BitVec.ofNat 32 m.length]).getD s else s

/-- A message outside a session: ERROR with SessionId 0. R446, R450. -/
def State.udaError (s : State) (r : UdaReq) (code : Nat) : State :=
  s.udaSend r (udaMsg 0x7E 0 (msgSequence r.msg) (toBE 4 code) [])

/-- A message that is dropped. R446. -/
def State.udaMalformed (s : State) : State := s.bump K.ctrUdaMalformed

/-- A response in a session, kept among its last 8. R453. -/
def State.udaRespond (s : State) (r : UdaReq) (j ty : Nat) (body : List Byte) : State :=
  let x := s.session j
  let m := udaMsg ty x.id (msgSequence r.msg) body x.kd
  (s.setSession j { x with cache := ((msgSequence r.msg, m) :: x.cache).take 8 }).udaSend r m

/-! ### Sessions (R450 to R453) -/

/-- The slot of a session in a state, by SessionId. -/
def State.findSession (s : State) (st id : Nat) : Option Nat :=
  (s.uda.sessions.find? fun e => decide (e.2.state = st) && decide (e.2.id = id)).map Prod.fst

/-- The highest role of a life-cycle state. R410. -/
def lifeRole (life : Nat) : Nat := if life = 3 then 2 else if life = 5 then 0 else 3

/-- Recovery mode. R426. -/
def State.recovering (s : State) : Bool := decide (s.rd K.binBootState = 2)

/-- The device root key, or what stands for it where there is none (log entry 43). -/
def State.udaRoot (s : State) : List Byte := if s.bin.drk.isEmpty then toLE 32 Config.bootRomSecret.toNat else s.bin.drk

/-- The session's derived secret. R452. -/
def State.sessionSecret (s : State) (id : Nat) : List Byte := childKey s.udaRoot "UDA" (toBE 4 id)

/-- The device's X448 key of a SIG session. R452. -/
def State.sessionX448 (s : State) (id : Nat) (clientNonce : List Byte) : List Byte :=
  kmac256 (s.sessionSecret id) (ascii "X448" ++ s.bin.bootNonce ++ clientNonce) 56 []

/-- The public key of an X448 key. RFC 7748. -/
def x448Public (k : List Byte) : List Byte := x448 k (toLE 56 5)

/-- The transcript. R452. -/
def State.transcript (s : State) (x : Session) : List Byte :=
  x.clientNonce ++ x.deviceNonce ++ toBE 4 x.id ++ toBE 1 x.role
    ++ (if x.mode = 2 then x448Public (s.sessionX448 x.id x.clientNonce) else []) ++ s.deviceSerial

/-- HELLO's session and its CHALLENGE, with a SessionId drawn from the TRNG. R450, R452. -/
def State.challenge (s : State) (r : UdaReq) (j : Nat) : State :=
  let b := msgBody r.msg
  let id := 1 + Config.random s.freeCtr % (2 ^ 32 - 1)
  let s := s.tick
  let cn := slice b 4 32
  let dn := kmac256 (s.sessionSecret id) (ascii "NONCE" ++ s.bin.bootNonce ++ cn) 32 []
  let x : Session := { Session.zero with
    state := 1, id := id, mode := beAt b 0 1, role := beAt b 1 1, keyId := beAt b 2 2, clientNonce := cn, deviceNonce := dn
    can := !r.udp, at_ := s.now }
  let s := s.setSession j x
  let sig := if x.mode = 2 then
      x448Public (s.sessionX448 id cn)
        ++ ed448Sign (childKey s.udaRoot "ATTEST" []) (ascii "CHATIA-UDA-DEV") (s.transcript x)
    else []
  s.udaSend r (udaMsg 0x02 id (msgSequence r.msg) (toBE 4 0 ++ dn ++ sig) [])

/-- An opening refused: counted, recorded, answered with ERROR. R451, R452, R463. -/
def State.openRefused (s : State) (r : UdaReq) (mode role key code : Nat) : State :=
  ((s.bump K.ctrUdaOpenRefused).almanac 23 0x1302 3 [(1, mode), (1, role), (2, key)]).udaError r code

/-- A free session. Which of several is a free value (log entry 5). -/
def State.freeSession (s : State) : Option (Nat × State) :=
  s.pick ((List.range 16).filter fun j => decide ((s.session j).state = 0))

/-- HELLO; SCRAPPED serves identity reads alone. R420, R428, R435, R450. -/
def State.hello (s : State) (r : UdaReq) : State :=
  let s := (s.bump K.ctrUdaRequests).bump K.ctrUdaPilotRequests
  let b := msgBody r.msg
  let refuse := fun (s : State) code => s.openRefused r (beAt b 0 1) (beAt b 1 1) (beAt b 2 2) code
  if s.life = 5 then refuse s (Abort.security 0)
  else if s.zeroised then refuse s (Abort.security bsZeroised)
  else if !s.trngOk then refuse s (Abort.security bsRngFail)
  else match s.freeSession with
    | none => refuse s Abort.sessionLimit
    | some (j, s) => s.challenge r j

/-- A session freed on an opening that fails. -/
def State.openFails (s : State) (r : UdaReq) (j code : Nat) : State :=
  let x := s.session j
  (s.setSession j Session.zero).openRefused r x.mode x.role x.keyId code

/-- A session opened under a key: its role must not exceed the key's bound or the life cycle's. R451, R452. -/
def State.openWith (s : State) (r : UdaReq) (j : Nat) (ks : List Byte) (bound : Nat) : State :=
  let x := s.session j
  if bound < x.role ∨ lifeRole s.life < x.role then s.openFails r j Abort.role
  else
    let x := { x with state := 2, kc := kmac256 ks (ascii "C2D") 32 [], kd := kmac256 ks (ascii "D2C") 32 [], at_ := s.now }
    let s := ((s.setSession j x).bump K.ctrUdaSessionsOpened).almanac 23 0x1303 2 [(4, x.id), (1, x.role)]
    s.udaRespond r j 0x06 (toBE 4 0 ++ toBE 1 x.role ++ toBE 1 0 ++ toBE 2 (s.rd K.udaUdaIdle))

/-- The pre-shared key a KeyId names, with its bound. R451. -/
def State.pskOf (s : State) (id : Nat) : Option (List Byte × Nat) :=
  if id = 0 then none
  else match (List.range 8).find? fun i => decide (s.rd (K.udaPskKeyId i) = id),
      s.bin.store.find? fun e => e.2.used && decide (e.2.usage = 4) && decide (e.2.keyId = id) with
    | some i, some e => some (e.2.bytes, s.rd (K.udaPskRole i))
    | _, _ => none

/-- OPEN_KEY in a challenged session; BLANK and recovery mode admit SIG mode alone. R451, R452. -/
def State.openKey (s : State) (r : UdaReq) (j : Nat) : State :=
  let x := s.session j
  match if x.mode = 1 ∧ s.life ≠ 0 ∧ !s.recovering then s.pskOf x.keyId else none with
  | none => s.openFails r j Abort.openFailed
  | some (psk, bound) =>
    let ks := kmac256 psk (s.transcript x) 32 (ascii "CHATIA-UDA-PSK")
    if kmac256 ks (ascii "OPEN") 32 (ascii "CHATIA-UDA") ≠ msgBody r.msg then s.openFails r j Abort.openFailed
    else s.openWith r j ks bound

/-- The bound of a client's signing key. In BLANK and in recovery mode only some keys are admitted. R426, R451. -/
def State.sigBound (s : State) (key : List Byte) : Option Nat :=
  let h := shake256 key 64
  if s.life = 0 then (if h = toLE 64 Config.manufacturingHash.toNat then some 3 else none)
  else if h = s.rootHash then some 3
  else if (List.range 4).any fun i => s.oemUsable i && decide (h = s.oemHash i) then some 2
  else if s.recovering then none
  else ((List.range 8).find? fun i => decide (slice (s.octetsOf (K.udaHostKeyHash i)) 0 64 = h)).map fun i =>
    min 2 (s.rd (K.udaHostKeyRole i))

/-- OPEN_SIG in a challenged session. R452. -/
def State.openSig (s : State) (r : UdaReq) (j : Nat) : State :=
  let x := s.session j
  let b := msgBody r.msg
  let key := slice b 0 57
  let cx := slice b 57 56
  match if x.mode = 2 then s.sigBound key else none with
  | none => s.openFails r j Abort.openFailed
  | some bound =>
    let t := s.transcript x ++ cx
    if !ed448Verify key (ascii "CHATIA-UDA-HOST") t (slice b 113 114) then s.openFails r j Abort.openFailed
    else s.openWith r j (kmac256 (x448 (s.sessionX448 x.id x.clientNonce) cx) t 32 (ascii "CHATIA-UDA-SIG")) bound

/-- An opening's second request, in the session it names. R450. -/
def State.opens (s : State) (r : UdaReq) (f : State → UdaReq → Nat → State) : State :=
  let s := (s.bump K.ctrUdaRequests).bump K.ctrUdaPilotRequests
  match s.findSession 1 (msgSession r.msg) with
  | none => s.udaError r Abort.noSession
  | some j => f s r j

/-! ### Sequencing (R453) -/

/-- What a Sequence is to a session: new, in the window and new, a repeat, or refused. -/
inductive SeqVerdict where
  | above | within | again (m : List Byte) | refused
deriving DecidableEq, Repr

def Session.judge (x : Session) (seq : Nat) : SeqVerdict :=
  if x.high < seq then .above
  else if seq + 63 < x.high then .refused
  else if x.accepted.getLsbD (x.high - seq) then
    match x.cache.find? fun e => decide (e.1 = seq) with
    | some e => .again e.2
    | none => .refused
  else .within

/-- The session with a Sequence accepted. -/
def Session.accept (x : Session) (seq : Nat) : Session :=
  if x.high < seq then { x with high := seq, accepted := x.accepted <<< (seq - x.high) ||| 1#64 }
  else { x with accepted := x.accepted ||| (1#64 <<< (x.high - seq)) }

/-- A message whose Mac is wrong. R453, R463. -/
def State.badMac (s : State) (r : UdaReq) : State :=
  (s.bump K.ctrUdaBadMac).almanacFirst 23 0x1301 3 (if r.udp then r.port else 256 + r.port) [(1, r.port)]

/-- A commit of a session is under way, which the Pilot still holds. R454. -/
def State.pilotHolds (s : State) (j : Nat) : Bool :=
  match s.uda.commit with
  | some c => decide (c.slot = j) && decide (c.id = (s.session j).id)
  | none => false

/-- A session's outstanding requests: the commit that the Pilot holds and those behind it; every other is answered as it is taken.
R453. -/
def State.outstanding (s : State) (j : Nat) : Nat := if s.pilotHolds j then 1 + (s.session j).waiting.length else 0

/-- A request under an open session: Mac, then Sequence, then the limit of 8 outstanding; an accepted one goes on to `f` with the
session's slot, or waits behind one that the Pilot holds. R450, R453, R454. -/
def State.inSession (s : State) (r : UdaReq) (f : State → UdaReq → Nat → State) : State :=
  let m := r.msg
  match (if shapeOk m ∧ msgSession m ≠ 0 ∧ hasMac m then s.findSession 2 (msgSession m) else none) with
  | none => if wellFormedMsg m then (s.bump K.ctrUdaRequests).udaError r Abort.noSession else s.udaMalformed
  | some j =>
    let x := s.session j
    if kmac256 x.kc (m.take (16 + msgLength m)) 16 (ascii "CHATIA-UDA") ≠ m.drop (16 + msgLength m) then s.badMac r
    else
      let seq := msgSequence m
      let x := { x with at_ := s.now }
      let s := s.setSession j x
      match x.judge seq with
      | .again a => (s.bump K.ctrUdaDuplicates).udaSend r a
      | .refused =>
        (s.bump K.ctrUdaSequenceRefused).udaSend r (udaMsg 0x7E x.id seq (toBE 4 Abort.sequence) x.kd)
      | _ =>
        if 8 ≤ s.outstanding j then
          ((s.bump K.ctrUdaQueueFull).almanacFirst 23 0x1306 3 0).udaSend r (udaMsg 0x7E x.id seq (toBE 4 Abort.busy) x.kd)
        else
          let x := x.accept seq
          let t := (s.setSession j x).bump K.ctrUdaRequests
          if s.pilotHolds j then t.setSession j { x with waiting := x.waiting ++ [r] } else f t r j

/-! ### READ and WRITE (R442, R454, R455) -/

/-- The value of an entry for READ and SEG_READ: abort code, type code, bytes, and the machine after it. R440, R446, R464. -/
def State.readValue (s : State) (key role : Nat) (staged : Bool) : Nat × Nat × List Byte × State :=
  match lookupEntry key with
  | .error e => (e, 0, [], s)
  | .ok r =>
    let a := readRefusal r role
    if a ≠ Abort.ok then (a, 0, [], s)
    else if (findDom (key / 256)).isSome ∧ key % 256 = 1 then (Abort.typeMismatch, 0, [], s)
    else if r.ty.scalar then (Abort.ok, r.ty.code, toBE r.ty.size (s.readScalar key staged), s.afterRead key r)
    else (Abort.ok, r.ty.code, s.longValue key r.ty, s)

/-- The body of a READ_RSP. R446. -/
def State.readBody (s : State) (key role : Nat) (staged : Bool) : List Byte × State :=
  let v := s.readValue key role staged
  let a := if v.1 = Abort.ok ∧ 1024 < v.2.2.1.length then Abort.typeMismatch else v.1
  if a ≠ Abort.ok then (toBE 4 a ++ toBE 4 0, s)
  else (toBE 4 0 ++ toBE 1 v.2.1 ++ toBE 1 0 ++ toBE 2 v.2.2.1.length ++ v.2.2.1, v.2.2.2)

/-- The hardware serves a READ of an entry. R455. -/
def hardwareRead (key : Nat) (staged : Bool) : Bool :=
  !staged && (decide (key / 256 = 0x1000) || (match lookupEntry key with
    | .ok r => r.ty.scalar
    | .error _ => false))

/-- A READ, outside a session when `j` is none; `held`: the Pilot had it behind an earlier request. R450, R454, R455. -/
def State.udaRead (s : State) (r : UdaReq) (j : Option Nat) (held : Bool := false) : State :=
  let b := msgBody r.msg
  let key := dictKey (beAt b 0 2) (beAt b 2 1)
  let staged := decide (beAt b 3 1 = 1)
  let s := s.bump (if hardwareRead key staged && !held then K.ctrUdaHwReads else K.ctrUdaPilotRequests)
  match j with
  | some j =>
    let v := s.readBody key (s.session j).role staged
    v.2.udaRespond r j 0x12 v.1
  | none =>
    let v := s.readBody key 0 staged
    v.2.udaSend r (udaMsg 0x12 0 (msgSequence r.msg) v.1 [])

/-- An authenticated message that is no request: ERROR. R446, R461. -/
def State.udaBad (s : State) (r : UdaReq) (j : Nat) : State :=
  let code := if msgVersion r.msg ≠ 1 then Abort.badVersion else if !requestType (msgType r.msg) then Abort.badType else Abort.badLength
  s.udaRespond r j 0x7E (toBE 4 code)

/-- The row of READ: READs, and every message that is no well-formed request. -/
def State.takeRead (s : State) (r : UdaReq) : State :=
  let m := r.msg
  if !wellFormedMsg m then s.inSession r State.udaBad
  else if msgSession m = 0 ∧ beAt (msgBody m) 0 2 / 16 = 0x100 then (s.bump K.ctrUdaRequests).udaRead r none
  else s.inSession r fun s r j => s.udaRead r (some j)

/-- The hardware serves a WRITE. R455. -/
def hardwareWrite (items : List WItem) : Bool :=
  items.all fun i =>
    let x := i.key / 256
    decide (x < 0x1000 ∨ 0x2000 ≤ x) && decide (x < 0x5000 ∨ 0x5400 ≤ x) && (match lookupEntry i.key with
      | .ok r => r.ty.scalar
      | .error _ => false)

/-- In recovery mode nothing is written but flash images; in BLANK nothing but what the first transition needs. R411, R426, R428. -/
def State.writeBarred (s : State) (key : Nat) : Bool :=
  (s.recovering && decide (key / 256 ≠ 0x70C3))
    || (decide (s.life = 0) && decide (key ≠ K.binLifeCycleRequest) && decide (key / 256 ≠ 0x70C0))

/-- A WRITE. R442. -/
def State.udaWrite (s : State) (r : UdaReq) (j : Nat) : State :=
  let items := (writeItemsIn (msgBody r.msg)).getD []
  let s := s.bump (if hardwareWrite items then K.ctrUdaHwWrites else K.ctrUdaPilotRequests)
  let w : Writer := ⟨(s.session j).role, false, false⟩
  let t := if items.any fun i => s.writeBarred i.key then (s.aborted (Abort.security 0), 0) else s.writeAll w items
  t.1.udaRespond r j 0x14 (toBE 4 t.1.abort ++ toBE 1 t.2 ++ toBE 3 0)

/-! ### Segments (R447) -/

/-- A SEG_READ. -/
def State.segRead (s : State) (r : UdaReq) (j : Nat) : State :=
  let s := s.bump K.ctrUdaPilotRequests
  let b := msgBody r.msg
  let v := s.readValue (dictKey (beAt b 0 2) (beAt b 2 1)) (s.session j).role false
  if v.1 ≠ Abort.ok then s.udaRespond r j 0x16 (toBE 4 v.1 ++ toBE 4 0)
  else v.2.2.2.udaRespond r j 0x16 (toBE 4 0 ++ toBE 4 v.2.2.1.length ++ (v.2.2.1.drop (beAt b 4 4)).take (beAt b 8 2))

/-- Another session has a SEG_WRITE sequence open on an entry. R447. -/
def State.segElsewhere (s : State) (j key : Nat) : Bool :=
  s.uda.sessions.any fun e => decide (e.1 ≠ j) && (match e.2.seg with
    | some q => decide (q.1 = key)
    | none => false)

/-- Checks 1 to 4 of an entry a sequence writes, with the sequence's length. R442. -/
def State.segRefusal (s : State) (key role total : Nat) : Nat :=
  match lookupEntry key with
  | .error e => e
  | .ok r =>
    let a := Writer.refusal ⟨role, false, false⟩ key r
    if a ≠ Abort.ok then a
    else if s.writeBarred key then Abort.security 0
    else if ((findDom (key / 256)).isSome ∧ key % 256 = 1) ∨ !r.ty.fits total then Abort.typeMismatch
    else Abort.ok

/-- A segment that joins or starts the session's sequence; the Last one writes the entry. The abort code is set. R447. -/
def State.segment (s : State) (j key total off : Nat) (last : Bool) (bytes : List Byte) : State :=
  let x := s.session j
  let open_ := match x.seg with
    | some (k, n, got, _) => decide (k = key) && decide (n = total) && decide (off = got.length)
    | none => decide (off = 0)
  let got := (match x.seg with
    | some (_, _, got, _) => got
    | none => []) ++ bytes
  let a := s.segRefusal key x.role total
  if a ≠ Abort.ok then s.aborted a
  else if s.segElsewhere j key then s.aborted Abort.busy
  else if !open_ ∨ total < got.length then s.aborted Abort.badLength
  else if !last then (s.setSession j { x with seg := some (key, total, got, s.now) }).aborted Abort.ok
  else
    let s := s.setSession j { x with seg := none }
    if got.length ≠ total then s.aborted Abort.typeMismatch else (s.writeAll ⟨x.role, false, false⟩ [⟨key, none, got⟩]).1

/-- A SEG_WRITE. -/
def State.segWrite (s : State) (r : UdaReq) (j : Nat) : State :=
  let s := s.bump K.ctrUdaPilotRequests
  let b := msgBody r.msg
  let s := s.segment j (dictKey (beAt b 0 2) (beAt b 2 1)) (beAt b 8 4) (beAt b 4 4) (decide (beAt b 3 1 = 1)) (b.drop 12)
  s.udaRespond r j 0x18 (toBE 4 s.abort)

/-! ### TABLE, COMMIT and CLOSE (R447, R450, R458) -/

/-- A TABLE request. R471, R472. -/
def State.udaTable (s : State) (r : UdaReq) (j : Nat) : State :=
  let s := s.bump K.ctrUdaPilotRequests
  let b := msgBody r.msg
  let op := beAt b 3 1
  let args := b.drop 6
  let role := (s.session j).role
  let refuse := fun (s : State) code => s.udaRespond r j 0x1A (toBE 4 code ++ toBE 4 0)
  match findDom (beAt b 0 2) with
  | none => refuse s Abort.noObject
  | some d =>
    let a := s.tableRefusal d (beAt b 2 1) op role args
    if a ≠ Abort.ok then refuse s a
    else if op ≠ tblRead ∧ s.writeBarred (dictKey d.index 1) then refuse s (Abort.security 0)
    else
      let t := s.tableOp d op role args
      t.udaRespond r j 0x1A (toBE 4 0 ++ toBE 1 t.opStatus ++ toBE 3 0 ++ t.reply.take 1024)

/-- The body of a COMMIT_RSP. -/
def commitBody (code seq len : Nat) : List Byte := toBE 4 code ++ toBE 8 seq ++ toBE 4 len

/-- A COMMIT: role, then one at a time, then its own start; `f` leaves the abort code and what it commits. R458. -/
def State.udaCommit (s : State) (r : UdaReq) (j : Nat) (f : State → State × List Byte) : State :=
  let s := s.bump K.ctrUdaPilotRequests
  let refuse := fun (s : State) code => s.udaRespond r j 0x1C (commitBody code 0 0)
  if (s.session j).role < 2 then refuse s Abort.role
  else if s.recovering ∨ s.life = 0 then refuse s (Abort.security 0)
  else if s.committing then refuse s Abort.commitBusy
  else
    let t := f s
    if t.1.abort ≠ Abort.ok then refuse t.1 t.1.abort
    else if t.1.uda.commit.isSome then t.1
    else t.1.udaRespond r j 0x1C (commitBody 0 (imgSequence t.2) t.2.length)

/-- CLOSE. R450. -/
def State.udaClose (s : State) (r : UdaReq) (j : Nat) : State :=
  ((s.bump K.ctrUdaPilotRequests).udaRespond r j 0x08 (toBE 4 0)).setSession j Session.zero

/-- COMMIT of the staged configuration in a session. R458. -/
def State.commitStaged (s : State) (r : UdaReq) (j : Nat) : State :=
  s.udaCommit r j fun s =>
    if s.life ≠ 1 ∧ s.life ≠ 4 then (s.aborted (Abort.security bsNotPermitted), [])
    else if 288 + 2 ^ 20 < s.snapshot.length then ((s.commitFails Abort.inconsistent 0).aborted Abort.inconsistent, [])
    else (s.commitStart s.snapshot (s.rd K.cmtStagedWrites) r j (s.session j).id (msgSequence r.msg), s.snapshot)

/-- COMMIT of the uploaded image in a session. R458, R459. -/
def State.commitUpload (s : State) (r : UdaReq) (j : Nat) : State :=
  s.udaCommit r j fun s =>
    let image := s.octetsOf K.cmtImageUpload
    (s.commitStart image 0 r j (s.session j).id (msgSequence r.msg), image)

/-- COMMIT that exports the staged configuration. R458. -/
def State.commitOut (s : State) (r : UdaReq) (j : Nat) : State := s.udaCommit r j fun s => (s.commitExport, s.snapshot)

/-! ### Requests that wait behind a commit (R454) -/

/-- An accepted request that the Pilot had behind an earlier one. R454. -/
def State.perform (s : State) (r : UdaReq) (j : Nat) : State :=
  let row := rowOf r.msg
  if !wellFormedMsg r.msg then s.udaBad r j
  else if row = 0x07 then s.udaClose r j
  else if row = 0x13 then s.udaWrite r j
  else if row = 0x15 then s.segRead r j
  else if row = 0x17 then s.segWrite r j
  else if row = 0x19 ∨ row = 0x1A then s.udaTable r j
  else if row = 0x21 then s.commitStaged r j
  else if row = 0x22 then s.commitUpload r j
  else if row = 0x23 then s.commitOut r j
  else s.udaRead r (some j) true

/-- A session's waiting requests are performed in order, up to one that the Pilot holds again. R454. -/
def State.resumeSession (j : Nat) : Nat → State → State
  | 0, s => s
  | n + 1, s =>
    if s.pilotHolds j then s
    else match (s.session j).waiting with
      | [] => s
      | r :: rest => resumeSession j n ((s.setSession j { s.session j with waiting := rest }).perform r j)

/-- Every session goes on with what waited for a commit that has ended. R454. -/
def State.resumeAll (s : State) : State := (List.range 16).foldl (fun s j => State.resumeSession j 8 s) s

/-! ### The commands -/

/-- The head of the engine's queue is taken when it is a row's. -/
def State.serve (s : State) (row : Nat) (f : State → UdaReq → State) : State :=
  let s := s.resumeAll
  match s.uda.engineQ with
  | [] => s
  | r :: rest => if rowOf r.msg = row then f { s with uda := { s.uda with engineQ := rest } } r else s

/-- HELLO. R450. -/
def execHello (s : State) : Host.Outcome State Fault Refusal := .next (s.serve 0x01 State.hello)

/-- OPEN_KEY. R452. -/
def execOpenKey (s : State) : Host.Outcome State Fault Refusal := .next (s.serve 0x03 fun s r => s.opens r State.openKey)

/-- OPEN_SIG. R452. -/
def execOpenSig (s : State) : Host.Outcome State Fault Refusal := .next (s.serve 0x05 fun s r => s.opens r State.openSig)

/-- CLOSE. R450. -/
def execClose (s : State) : Host.Outcome State Fault Refusal := .next (s.serve 0x07 fun s r => s.inSession r State.udaClose)

/-- UDA_READ. R455. -/
def execUdaRead (s : State) : Host.Outcome State Fault Refusal := .next (s.serve 0x11 State.takeRead)

/-- UDA_WRITE. R442. -/
def execUdaWrite (s : State) : Host.Outcome State Fault Refusal := .next (s.serve 0x13 fun s r => s.inSession r State.udaWrite)

/-- SEG_READ. R447. -/
def execSegRead (s : State) : Host.Outcome State Fault Refusal := .next (s.serve 0x15 fun s r => s.inSession r State.segRead)

/-- SEG_WRITE. R447. -/
def execSegWrite (s : State) : Host.Outcome State Fault Refusal := .next (s.serve 0x17 fun s r => s.inSession r State.segWrite)

/-- SEG_WRITE_TIMEOUT: a session's sequence has had no segment for 10 s. R447. -/
def execSegWriteTimeout (j : Fin 16) (s : State) : Host.Outcome State Fault Refusal :=
  let x := s.session j.val
  .next (match x.seg with
    | some (_, _, _, t) => if t + 10 * 10 ^ 9 ≤ s.now then s.setSession j.val { x with seg := none } else s
    | none => s)

/-- TABLE_READ. R470. -/
def execTableRead (s : State) : Host.Outcome State Fault Refusal := .next (s.serve 0x19 fun s r => s.inSession r State.udaTable)

/-- TABLE_WRITE: a TABLE of another operation. R470 to R473. -/
def execTableWrite (s : State) : Host.Outcome State Fault Refusal := .next (s.serve 0x1A fun s r => s.inSession r State.udaTable)

/-- COMMIT_STAGED. R458. -/
def execCommitStaged (s : State) : Host.Outcome State Fault Refusal :=
  .next (s.serve 0x21 fun s r => s.inSession r State.commitStaged)

/-- COMMIT_IMAGE. R459. -/
def execCommitImage (s : State) : Host.Outcome State Fault Refusal :=
  .next (s.serve 0x22 fun s r => s.inSession r State.commitUpload)

/-- COMMIT_EXPORT. R458. -/
def execCommitExport (s : State) : Host.Outcome State Fault Refusal :=
  .next (s.serve 0x23 fun s r => s.inSession r State.commitOut)

/-- COMMIT_DONE: the bank is written and read back, or the flash fails; the session that sent the COMMIT is answered. R459. -/
def execCommitDone (ok : Bool) (s : State) : Host.Outcome State Fault Refusal :=
  match s.uda.commit with
  | none => .next s
  | some c =>
    let t := s.commitEnd c ok
    let b := if t.abort = Abort.ok then commitBody 0 (imgSequence c.image) c.image.length else commitBody t.abort 0 0
    .next (if (t.session c.slot).state = 2 ∧ (t.session c.slot).id = c.id then t.udaRespond c.req c.slot 0x1C b else t).resumeAll

/-- SESSION_OPEN_TIMEOUT: a session is not open 5 s after its CHALLENGE. R450. -/
def execSessionOpenTimeout (j : Fin 16) (s : State) : Host.Outcome State Fault Refusal :=
  let x := s.session j.val
  .next (if x.state = 1 ∧ x.at_ + 5 * 10 ^ 9 ≤ s.now then s.setSession j.val Session.zero else s)

/-- SESSION_IDLE_TIMEOUT. R450. -/
def execSessionIdleTimeout (j : Fin 16) (s : State) : Host.Outcome State Fault Refusal :=
  let x := s.session j.val
  .next (if x.state = 2 ∧ s.idleAt x ≤ s.now then (s.setSession j.val Session.zero).bump K.ctrUdaSessionsExpired else s)

/-- The engine takes the oldest message of an open channel, and a waiting sender's moves up. R289, R449. -/
def State.engineRecv (s : State) (c : Nat) : Option (List Word × State) :=
  let x := s.rdvChan c
  if !s.chanOpen c then none
  else match x.msgs, x.senders with
    | m :: ms, [] => some (m, (s.setRdvChan c { x with msgs := ms }).bump K.ctrRdvChReceived)
    | m :: ms, w :: ws =>
      some (m, (((s.setRdvChan c { x with msgs := ms ++ [w.words], senders := ws }).bump K.ctrRdvChReceived).bump
        K.ctrRdvChSent).rdvReply w.rq rvOk)
    | [], w :: ws =>
      some (w.words, (((s.setRdvChan c { x with senders := ws }).bump K.ctrRdvChReceived).bump K.ctrRdvChSent).rdvReply w.rq rvOk)
    | [], [] => none

/-- UDA_CAN_REQUEST. R449. -/
def execUdaCanRequest (s : State) : Host.Outcome State Fault Refusal :=
  .next (if s.rd K.udaUdaCanChannel = 0xFF then s
    else match s.engineRecv (s.rd K.udaUdaCanReqChannel) with
      | none => s
      | some (words, s) =>
        let off := (words.getD 0 0#32).toNat
        let n := (words.getD 1 0#32).toNat
        if words.length ≠ 2 ∨ 32768 < off + n then s.udaMalformed
        else s.udaQueue ⟨false, s.rd K.udaUdaCanChannel, 0, [], s.loadBytes .barrelData (32768 * s.udaProcessor + off) n⟩)

end Sys2Proof.Machine
end

