-- ==== Sys2Proof/Machine/Window.lean ====
section
/-! DEFINITION. The memory-mapped window (19_urros_uda.md, R443, R444; 09_wenkin_programming_model.md, R211): what the dictionary
engine answers to a thread's doubleword load or store of a slot. -/

namespace Sys2Proof.Machine

/-- The entry of a slot's address. R9. -/
def slotKey (addr : Nat) : Nat := (addr - 0x40000000) / 8

/-- Whose access it is: a Pilot core's, of role MAINTAINER, or another core's, of role WindowRole. R444. -/
def State.windowWriter (s : State) (t : Nat) : Writer := if isPilotThread t then ⟨2, false, true⟩ else ⟨s.rd K.udaWindowRole, true, false⟩

/-- What a slot holds: abort code and 64-bit value. R443. -/
def State.slotValue (s : State) (key role : Nat) : Nat × Nat :=
  match lookupEntry key with
  | .error e => (e, 0)
  | .ok r =>
    let a := readRefusal r role
    let v := if r.ty.scalar then
        (if r.ty.signed then ofSigned 64 (toSigned (8 * r.ty.size) (s.scalarValue key)) else s.scalarValue key)
      else s.valueLength key r.ty
    (a, if a = Abort.ok then v else 0)

/-- A loaded slot's entry as the load leaves it. R440, R443. -/
def State.afterSlot (s : State) (key : Nat) : State :=
  match lookupEntry key with
  | .ok r => s.afterRead key r
  | .error _ => s

/-- A stored doubleword fits an entry's type. R443. -/
def EType.holds (t : EType) (v : Nat) : Bool :=
  if t.signed then decide (ofSigned 64 (toSigned (8 * t.size) v) = v) else decide (v < 2 ^ (8 * t.size))

/-- A store's write, the abort code set. R442 to R444. -/
def State.slotStore (s : State) (w : Writer) (key v : Nat) : State :=
  match lookupEntry key with
  | .error e => s.aborted e
  | .ok r =>
    let a := w.refusal key r
    if a ≠ Abort.ok then s.aborted a
    else if !r.ty.scalar then s.aborted Abort.typeMismatch
    else if !r.ty.holds v then s.aborted Abort.valueRange
    else (s.writeAll w [⟨key, none, toBE r.ty.size v⟩]).1

/-- A refused access: counters, record, RP3 with its event pending bit, and ACCESS_FAULT on the instruction. R206, R211, R229, R230,
R444. -/
def State.windowRefused (s : State) (t addr code : Nat) (store : Bool) : State :=
  let s := s.bump K.ctrUdaWindowRefusals
  let s := if store ∧ isPacketThread t then
      (s.bumpCore t K.ctrExcDictStoreRefused).almanacFirst (originOf t) 0x0903 3 (coreOf t) [(4, addr), (4, code)]
    else s
  let second := (s.thread t).second
  let s := (s.setRp t second 3 (.full ⟨replyStatus 5 (code / 2 ^ 24) 0, BitVec.ofNat 32 code⟩)).pend t second 0x08#7
  s.fault_ t excAccess causeDictRefused addr

/-- DICT_WINDOW_LOAD: the engine answers a thread's blocking load of a slot. R211, R443. -/
def execDictWindowLoad (t : Fin 580) (s : State) : Host.Outcome State Fault Refusal :=
  match (s.thread t.val).st with
  | .blocked (.dictLoad addr rd) =>
    let v := s.slotValue (slotKey addr) (s.windowWriter t.val).role
    .next (if v.1 = Abort.ok then (s.afterSlot (slotKey addr)).finishLoad t.val rd 8 false (toLE 8 v.2)
      else s.windowRefused t.val addr v.1 false)
  | _ => .next s

/-- A thread waits for the engine's answer to a store; it no longer does when the store has reset the device. -/
def State.storing (s : State) (t : Nat) : Bool :=
  match (s.thread t).st with
  | .blocked (.dictStore _ _) => true
  | _ => false

/-- DICT_WINDOW_STORE: the engine applies or refuses a thread's blocking store to a slot. R211, R443. -/
def execDictWindowStore (t : Fin 580) (s : State) : Host.Outcome State Fault Refusal :=
  match (s.thread t.val).st with
  | .blocked (.dictStore addr v) =>
    let s := s.slotStore (s.windowWriter t.val) (slotKey addr) v.toNat
    .next (if s.abort = Abort.ok then (if s.storing t.val then s.done t.val else s) else s.windowRefused t.val addr s.abort true)
  | _ => .next s

end Sys2Proof.Machine
end

