-- ==== Sys2Proof/Machine/Boot.lean ====
section
/-! DEFINITION. Power, resets and boot (23_power_reset_boot.md, R514 to R530; 18_binnacle.md, R426 to R428; 24_package_pins.md, R535,
R536): reset causes and release, PLLs, the boot steps, power-fail handling and the adaptive-voltage loop. -/

namespace Sys2Proof.Machine

/-! ### Reset (R521 to R523, R529) -/

/-- VDD_AON enters tolerance: the whole device is reset. OTP, both flashes and the levels at the control balls stay. R478, R521. -/
def State.powerOn (s : State) : State :=
  let z := State.reset
  { z with
    variant := s.variant, now := s.now, freeCtr := s.freeCtr, pending := s.pending
    mem := s.mem.filter fun x => decide (x.1 / 2 ^ 48 = 9)
    alm := { z.alm with raised := [(24, [⟨0x1601, 1, 0⟩])], log := s.alm.log, onAt := s.now }
    bin := { z.bin with otp := s.bin.otp }
    boot := { z.boot with
      asserted := true, cause := causePowerOn, at_ := s.now
      porst := s.boot.porst, pwrfail := s.boot.pwrfail, pwrHighAt := s.boot.pwrHighAt } }

/-- POWER_ON. R521. -/
def execPowerOn (s : State) : Host.Outcome State Fault Refusal := .next s.powerOn

/-- PORST: PORST_N has been low for at least 1 us, or goes high. R521, R536. -/
def execPorst (low : Bool) (s : State) : Host.Outcome State Fault Refusal :=
  let s := { s with boot := { s.boot with porst := low } }
  .next (if low then s.sampleCause causePorst else s)

/-- RESET_REQUEST: a write of ResetRequest. R523. -/
def execResetRequest (v : BitVec 8) (s : State) : Host.Outcome State Fault Refusal := .next (s.resetRequest v.toNat)

/-- RESET_REQUEST_DELAY: the reset a ResetRequest starts 1 ms after it. R523. -/
def execResetRequestDelay (s : State) : Host.Outcome State Fault Refusal :=
  .next (match s.boot.softAt with
    | some t =>
      if t ≤ s.now then ({ s with boot := { s.boot with softAt := none } } : State).sampleCause causeSoftware else s
    | none => s)

/-- RESET_RELEASE: 20 us after assertion, with PORST_N and PWRFAIL_N high; after a power failure not before its recovery. The PLLs
start. R519, R521, R522, R529, R530. -/
def execResetRelease (s : State) : Host.Outcome State Fault Refusal :=
  let b := s.boot
  .next (if !b.asserted ∨ s.now < b.at_ + 20000 ∨ b.porst ∨ b.pwrfail ∨ b.powerFail then s
    else
      let s := { s with boot := { b with asserted := false, releasedAt := s.now } }
      let s := (s.wr K.rstLastResetCause b.cause).when (decide (b.cause ≠ causePowerOn)) fun s =>
        s.wr K.rstResetCount ((s.rd K.rstResetCount + 1) % 2 ^ 32)
      s.almanac 24 0x1602 2 [(1, b.cause), (2, b.mask)])

/-- PWRFAIL_WARNING: a filtered fall of PWRFAIL_N, or its rise. R528. -/
def execPwrfailWarning (low : Bool) (s : State) : Host.Outcome State Fault Refusal :=
  .next (if low then
    (if s.boot.pwrfail then s
      else
        let s := { s with boot := { s.boot with pwrfail := true } }
        ((s.wr K.rstPowerFailLatched 1).almanac 24 0x1603 6).urgentFlush)
    else if s.boot.pwrfail then { s with boot := { s.boot with pwrfail := false, pwrHighAt := s.now } } else s)

/-- POWER_FAIL_RECOVERY: PWRFAIL_N has been high for 10 ms and PORST_N is high. R529. -/
def execPowerFailRecovery (s : State) : Host.Outcome State Fault Refusal :=
  .next (if s.boot.powerFail ∧ !s.boot.pwrfail ∧ !s.boot.porst ∧ s.boot.pwrHighAt + 10 * 10 ^ 6 ≤ s.now then
    { s with boot := { s.boot with powerFail := false } } else s)

/-- URGENT_FLUSH_DONE; after a power-fail warning the device resets. R485, R529. -/
def execUrgentFlushDone (s : State) : Host.Outcome State Fault Refusal :=
  .next (if !s.urgentOver then s
    else
      let s := ({ s with alm := { s.alm with urgent := false, urgentLeft := 0 } } : State).wr K.almFlashState 2
      if s.on K.rstPowerFailLatched then s.sampleCause causePowerFail else s.startPage)

/-! ### PLLs (R519) -/

/-- PLLs 0 to 22 serve the islands: PX, C0 to C15, DX, the Fabric PLL of PC and TM, OB, MC, BI and PL; 23 to 26 serve the SerDes lane
groups. R15, R518. -/
def State.pll (s : State) (i : Nat) : Nat × Nat := tget (0, 0) s.boot.plls i
def State.setPll (s : State) (i : Nat) (x : Nat × Nat) : State :=
  { s with boot := { s.boot with plls := tset (0, 0) s.boot.plls i x } }

/-- The boot runs: reset released, and not the full test between its two resets. -/
def State.booting (s : State) : Bool := !s.boot.asserted && !s.boot.fullTest

/-- Step 1 ends when every PLL has locked or failed. R519, R525. -/
def State.pllSettled (s : State) : State :=
  if s.booting ∧ s.boot.step = 0 ∧ (List.range 27).all (fun i => decide ((s.pll i).1 ≠ 0)) then
    { s with boot := { s.boot with step := 1 } }
  else s

/-- The island a PLL fault names, by its origin number: the Fabric PLL's first one, PC. R475, R504. -/
def pllIsland (i : Nat) : Nat := if i < 20 then i else i + 1

/-- PLL_LOCK. R519. -/
def execPllLock (i : Fin 27) (s : State) : Host.Outcome State Fault Refusal :=
  .next (if s.boot.asserted ∨ (s.pll i.val).1 ≠ 0 then s else (s.setPll i.val (1, (s.pll i.val).2)).pllSettled)

/-- PLL_LOCK_TIMEOUT: 100 us after a start without lock; the third failure is the PLL's. R504, R519. -/
def execPllLockTimeout (i : Fin 27) (s : State) : Host.Outcome State Fault Refusal :=
  let p := s.pll i.val
  .next (if s.boot.asserted ∨ p.1 ≠ 0 ∨ s.now < s.boot.releasedAt + 100000 * (p.2 + 1) then s
    else if p.2 < 2 then s.setPll i.val (0, p.2 + 1)
    else ((s.setPll i.val (2, 3)).when (decide (i.val < 23)) (·.reportFault 9 (pllIsland i.val))).pllSettled)

/-- PLL_LOSS_OF_LOCK at run time. R519. -/
def execPllLossOfLock (i : Fin 27) (s : State) : Host.Outcome State Fault Refusal :=
  .next (if s.boot.asserted ∨ (s.pll i.val).1 ≠ 1 then s else ((s.setPll i.val (2, (s.pll i.val).2)).when (decide (i.val < 23)) (·.reportFault 9 (pllIsland i.val))))

/-! ### Boot steps 3 to 5 (R426, R524 to R526) -/

/-- Verification of the image of a flash region at boot: whether it passes and is of the type asked for. R425, R429. -/
def State.bootVerify (s : State) (ty : Nat) (e : FlashEntry) : Bool × State :=
  let v := s.verifyImage (s.imageIn e)
  (decide (v.1 = bsOk) && decide (imgType (s.imageIn e) = ty), v.2)

/-- The first Pilot firmware copy that verifies, and the machine after its verification. R426, R525. -/
def State.firmware (s : State) : Nat → List Nat → Option (List Byte) × State
  | _, [] => (none, s)
  | ty, c :: cs =>
    match s.flashRegion ty c with
    | none => s.firmware ty cs
    | some e =>
      let v := s.bootVerify ty e
      if v.1 then (some (s.imageIn e), v.2) else v.2.firmware ty cs

/-- The boot ROM starts the boot flash: 1S-1S-1S, a pulse on BFL_RESET_N, and the mode its SFDP table advertises. R534, R543. -/
def State.startBootFlash (s : State) : State :=
  { s with boot := { s.boot with bflResetLow := false, bflMode := if Config.bootFlashOctal then 1 else 2 } }

/-- BOOT_FIRMWARE_LOADED: step 3, or recovery mode. In BLANK and SCRAPPED the boot ROM alone runs. R410, R426, R428, R525,
R543. -/
def execBootFirmwareLoaded (s : State) : Host.Outcome State Fault Refusal :=
  .next (if !s.booting ∨ s.boot.step ≠ 2 ∨ s.life = 0 ∨ s.life = 5 then s
    else
      let s := s.startBootFlash
      let s := s.wr K.rstDirectoryCopy ((s.directory.map Prod.fst).getD 0xFF)
      match s.firmware 1 [0, 1] with
      | (some image, s) =>
        let s := (s.wr K.idPilotFirmwareBuild (imgSequence image)).advanceRollback image
        { s with boot := { s.boot with step := 3 } }
      | (none, s) => if s.rd K.binBootState = 2 then s else (s.wr K.binBootState 2).almanac 24 0x1209 7)

/-- A bank, when it is valid: verified, and its body in order on a machine at its defaults. R426, R460, R526. -/
def State.validBank (s : State) (b : Nat) : Option (List Byte) × State :=
  match s.flashRegion 2 b with
  | none => (none, s)
  | some e =>
    let v := s.bootVerify 2 e
    let image := s.imageIn e
    (if v.1 && decide ((s.blank.putConfig (imgBody image)).code = Abort.ok) then some image else none, v.2)

/-- The bank in force of two: the higher Sequence, A when equal. R526. -/
def selectBank (a b : Option (List Byte)) : Option (Nat × List Byte) :=
  match a, b with
  | none, none => none
  | some x, none => some (0, x)
  | none, some y => some (1, y)
  | some x, some y => if imgSequence x < imgSequence y then some (1, y) else some (0, x)

/-- BOOT_CONFIG_SELECT: step 4. R426, R427, R526. -/
def execBootConfigSelect (s : State) : Host.Outcome State Fault Refusal :=
  .next (if !s.booting ∨ s.boot.step ≠ 3 then s
    else
      let a := s.validBank 0
      let b := a.2.validBank 1
      let s := b.2
      let s : State := { s with boot := { s.boot with step := 4 } }
      match selectBank a.1 b.1 with
      | some (n, image) =>
        let s := ((s.wr K.cmtInForceBank n).wr K.idConfigSequence (imgSequence image)).advanceRollback image
        { s with boot := { s.boot with bankSigner := imgSigner image } }
      | none =>
        let s : State := { s with boot := { s.boot with bankSigner := 0xFF } }
        ((s.wr K.cmtInForceBank 0xFF).wr K.idConfigSequence 0).almanac 24 0x1208 6)

/-- The flash parameters of the Almanac. R491. -/
def flashKeys : List Nat := [K.almFlashType, K.almFlashBase, K.almFlashSectors, K.almProgramTimeMax, K.almSuspendTimeMax]

/-- The entries AON has kept take the configuration anew: their defaults first. R441, R460, R491. -/
def State.forgetKept (s : State) : State :=
  { s with dict := s.dict.filter fun e => !(decide (e.1 / 256 = 0x5800) && (persistentRow e.1).isSome) }

/-- Flash parameters that change after a power-on's first configuration wait for the next power-on. R491. -/
def State.stageFlash (old s : State) : State :=
  flashKeys.foldl (fun (s : State) k =>
    if s.rd k = old.rd k then s
    else ({ s with staged := tset none s.staged k (some (s.rd k)) } : State).wr k (old.rd k)) s

/-- The bank in force, or defaults with every backbone port down, put in force. R426, R460. -/
def State.bootConfig (s : State) : State :=
  let t := s.forgetKept
  let t := match (if s.rd K.cmtInForceBank = 0xFF then none else t.flashRegion 2 (s.rd K.cmtInForceBank)) with
    | some e => (t.putConfig (imgBody (t.imageIn e))).state
    | none => (List.range 7).foldl (fun (s : State) p => s.wr (K.portAdminUp p) 0) t
  (if s.alm.configured then s.stageFlash t else t).wr K.cmtStagedWrites 0

/-- What the Rendezvous Unit and the pins take from their configuration at reset. R291, R299, R360. -/
def State.bootUnits (s : State) : State :=
  let c := s.rdv.cfg
  { s with
    rdv := { s.rdv with
      live := c
      sems := c.sems.foldl (fun t e => tset Sem.zero t e.1 ⟨e.2.toNat % 65536, []⟩) []
      events := c.events.foldl (fun t e => tset EvBit.zero t e.1 ⟨e.2.getLsbD 0, []⟩) [] }
    bio := { s.bio with pinLive := s.bio.pinCfg } }

/-- Derived entries of the blocks: pool cells, operating points, preemption verification. R16, R40, R318. -/
def State.bootEntries (s : State) : State :=
  let s := s.wr K.orchPoolCells (196608 - poolBase - s.rd K.orchPilotRegionCells)
  let s := (List.range 16).foldl (fun (s : State) n => s.wr (K.cluOperatingPointActive n) (s.rd (K.cluOperatingPoint n))) s
  (List.range 4).foldl (fun (s : State) p => s.wr (K.portVerifyStatus p) (if s.on (K.portVerifyDisable p) then 0 else vsInitial)) s

/-- A region's State as training starts; the CH9820-A2 refuses a Vaulted one. R391, R395. -/
def State.bootRegion (s : State) (r : Nat) : State :=
  if s.rd (K.drgSize r) = 0 then s.wr (K.drgState r) 3
  else if s.variant ≠ .a2s ∧ s.rd (K.drgKind r) = 2 then (s.wr (K.drgState r) 2).almanac 21 0x1009 5 [(1, r)]
  else s.wr (K.drgState r) 0

/-- The keys of a Sealed or Vaulted region, derived anew and delivered over the key bus: 64 bytes of AES-XTS-256 key and 32 of tag key
(how the context is written: log entry 69). R394, R415, R422. -/
def State.bootRegionKeys (s : State) (r : Nat) : State :=
  let k := if s.rd (K.drgSize r) = 0 ∨ s.rd (K.drgKind r) = 0 ∨ s.bin.drk.isEmpty then []
    else kmac256 s.bin.drk (ascii "DRAM" ++ s.bin.bootNonce ++ toLE 1 r) 96 []
  ({ s with dram := { s.dram with keys := tset [] s.dram.keys r k } } : State).when (!k.isEmpty) (·.bump K.ctrBinKeyDeliveries)

/-- DRAM training starts; a region that is refused takes no metadata. R2, R378, R394 to R396. -/
def State.bootDram (s : State) : State :=
  let s := (List.range 8).foldl (fun s r => (s.bootRegion r).bootRegionKeys r) s
  let taken (k : Nat) : Nat := (((regionsOf s.rd).zipIdx.filter fun e => decide (s.rd (K.drgState e.2) ≠ 2)).map fun e =>
    e.1.share).foldl (· + ·) k
  let s := (s.wr K.dramInstalledBytes (installedBytes s.rd)).wr K.dramMetaBytes (taken 0)
  if (List.range 2).any s.populated then
    let s := (List.range 2).foldl (fun (s : State) c =>
      if s.populated c then s.setDchan c { s.dchan c with step := 1, tries := 0 } else s) s
    (s.wr K.dramDramState 1).wr K.dramTrainStep 1
  else s

/-- The key blobs of the configuration, loaded in order of position. R417, R525. -/
def State.bootKeys (s : State) : State :=
  (tget [] s.uda.domains 0x70C2).foldl (fun s e => s.loadBlob (slice e.2 0 64)) s

/-- BOOT_CONFIG_APPLY: step 5. R12, R483, R517, R525. -/
def execBootConfigApply (s : State) : Host.Outcome State Fault Refusal :=
  .next (if !s.booting ∨ s.boot.step ≠ 4 then s
    else
      let s := s.bootConfig.bootUnits.bootEntries.bootKeys.bootDram
      let first := !s.alm.configured
      let s : State := { s with
        boot := { s.boot with step := 5, rstout := true }
        alm := { s.alm with configured := true } }
      let s := s.when first (·.wr K.almFlashState 1)
      let s := s.when (s.on K.rstAvsEnable) (·.wr K.rstAvsState 1)
      s.when (s.variant = .a2s) (·.releasePilot 1))

/-! ### Boot steps 7 to 9 (R525, R527) -/

/-- A cluster code image loaded into bank 0 of the clusters it names. R426, R527. -/
def State.bootCluster (s : State) (image : List Byte) : State :=
  (setBits 16 (imgTargets image)).foldl (fun (s : State) n => (s.putCode n 0 image true).wr (K.bankActiveBank n) 0) s

/-- A barrel code image loaded into the processors it names. R527. -/
def State.bootBarrel (s : State) (image : List Byte) : State :=
  (setBits 4 (imgTargets image)).foldl (fun (s : State) p => s.putBarrelCode p image true) s

/-- One directory entry of code. -/
def State.bootCode (s : State) (e : FlashEntry) : State :=
  if e.ty ≠ 3 ∧ e.ty ≠ 4 then s
  else
    let v := s.bootVerify e.ty e
    let image := s.imageIn e
    if !v.1 then v.2 else (if e.ty = 3 then v.2.bootCluster image else v.2.bootBarrel image).advanceRollback image

/-- Clusters without code stay out of service, processors without code HALTED; the others start. R353, R426, R525. -/
def State.startUnits (s : State) : State :=
  let none_ := (List.range 16).filter fun n => !s.codeLoaded n
  let s := none_.foldl (fun (s : State) n =>
    (List.range 4).foldl (fun (s : State) k => s.threadsOut (4 * n + k) excEcc)
      (s.wr K.sndOutOfServiceClusters (s.rd K.sndOutOfServiceClusters ||| 2 ^ n))) s
  (List.range 4).foldl (fun (s : State) p =>
    if tget false s.boot.barrelOk p then s.startProcessor p else s.wr (K.biopRunState p) 1) s

/-- BOOT_CODE_LOAD: step 7. R527. -/
def execBootCodeLoad (s : State) : Host.Outcome State Fault Refusal :=
  .next (if !s.booting ∨ s.boot.step ≠ 5 ∨ bit s.boot.stepsDone 7 = 1 then s
    else
      let l := (s.directory.map Prod.snd).getD []
      let s := (l.foldl (fun s e => s.bootCode e) s).startUnits
      { s with boot := { s.boot with stepsDone := s.boot.stepsDone ||| 128 } })

/-- Step 8 has ended: training is over, or no DRAM is installed. R378, R525. -/
def State.trained (s : State) : Bool := decide (s.rd K.dramDramState ≠ 1)

/-- BOOT_RUNNING: step 9; the device watchdog is armed. R508, R525, R530. -/
def execBootRunning (s : State) : Host.Outcome State Fault Refusal :=
  .next (if !s.booting ∨ s.boot.step ≠ 5 ∨ bit s.boot.stepsDone 7 = 0 ∨ !s.trained then s
    else
      let s := (s.wr K.binBootState 1).wr K.rstFullServiceTime ((s.now - s.boot.releasedAt) / 1000)
      { s with
        boot := { s.boot with step := 9, stepsDone := s.boot.stepsDone ||| 256 }
        saf := { s.saf with wdArmed := true, wdKickAt := s.now, wdKicked := false, wdFirst := none } })

/-- PILOT_PAIR_RESTARTED: the pair has its firmware again. R425, R507. -/
def execPilotPairRestarted (pair : Fin 2) (s : State) : Host.Outcome State Fault Refusal :=
  .next (if !s.saf.restarting.contains pair.val then s
    else match s.firmware 1 [0, 1] with
      | (none, s) => s
      | (some _, s) =>
        let s := { s with saf := { s.saf with restarting := s.saf.restarting.filter (· ≠ pair.val) } }
        ((s.bump K.ctrSafPilotRestarts).almanac 24 0x1504 5 [(1, pair.val)]).releasePilot pair.val)

/-! ### The adaptive-voltage loop (R517) -/

/-- AVS_STEP_TIMER: every monitor shows margin. -/
def execAvsStepTimer (s : State) : Host.Outcome State Fault Refusal :=
  .next (if !s.avsTracking ∨ !s.boot.avsWait.isEmpty then s else s.wr K.rstCoreVoltage (max 700 (s.rd K.rstCoreVoltage - 5)))

/-- AVS_MARGIN_ALARM: a rise of 20 mV, up to 0.85 V. -/
def execAvsMarginAlarm (s : State) : Host.Outcome State Fault Refusal :=
  .next (if !s.avsTracking then s else s.wr K.rstCoreVoltage (min 850 (s.rd K.rstCoreVoltage + 20)))

/-- AVS_REGULATOR_RESPONSE: the waiting rises may change their clocks. -/
def execAvsRegulatorResponse (s : State) : Host.Outcome State Fault Refusal :=
  .next (if !s.avsTracking then s else { s with boot := { s.boot with avsWait := [] } })

/-- AVS_REGULATOR_TIMEOUT: no answer, or an error. -/
def execAvsRegulatorTimeout (s : State) : Host.Outcome State Fault Refusal :=
  .next (if !s.avsTracking then s else (s.wr K.rstAvsState 2).wr K.rstCoreVoltage 850)

/-! ### Boundary scan (R410, R535) -/

/-- TAP_RESET: TRST_N goes low or high; in the other states the TAP stays in reset. -/
def execTapReset (low : Bool) (s : State) : Host.Outcome State Fault Refusal :=
  .next { s with boot := { s.boot with tapHeld := low || (decide (s.life ≠ 1) && decide (s.life ≠ 4)) } }

end Sys2Proof.Machine
end

