-- ==== Sys2Proof/Machine/Control.lean ====
section
/-! DEFINITION. The bit instructions (R213 to R215, R241), branches, jumps and hardware loops (R194, R242 to R244). -/

namespace Sys2Proof.Machine

/-! ### Bit instructions (R241) -/

/-- What a field is read from: the header window's words may be in error. R177, R213. -/
def State.bitSource (s : State) (t b w : Nat) (k : State → State) : State :=
  if b < 0x800 then s.readWindow t (b / 8) ((b + w - 1) / 8 + 1 - b / 8) k else k s

/-- A field read into a register. -/
def State.bitRead (s : State) (t rd b w : Nat) : State :=
  match s.bitFault t b w false with
  | some cause => s.fault_ t excAccess cause b
  | none => s.bitSource t b w fun s => s.writeReg t rd ((s.thread t).bitGet b w)

/-- A field written. -/
def State.bitWrite (s : State) (t b w : Nat) (v : Word) : State :=
  match s.bitFault t b w true with
  | some cause => s.fault_ t excAccess cause b
  | none =>
    let put (s : State) : State := (s.setThread t ((s.thread t).bitPut b w v)).done t
    if b < 0x800 then s.writeWindow t (b / 8) ((b + w - 1) / 8 + 1 - b / 8) (decide (b % 8 = 0) && decide (w % 8 = 0)) put else put s

/-- The address and width of a BITR instruction, or its fault. R241. -/
def bitrOperands (a w : Word) : Option (Nat × Nat) :=
  if 65536 ≤ a.toNat ∨ w.toNat = 0 ∨ 32 < w.toNat then none else some (a.toNat, w.toNat)

/-- BEXT. R241. -/
def execBext (t : Fin 580) (rd : Fin 32) (wm1 : Fin 32) (b : BitVec 16) (s : State) : Host.Outcome State Fault Refusal :=
  s.issue t.val (wordI 0x20 rd wm1 b) fun s => s.bitRead t.val rd.val b.toNat (wm1.val + 1)

/-- BINS. R241. -/
def execBins (t : Fin 580) (rd : Fin 32) (wm1 : Fin 32) (b : BitVec 16) (s : State) : Host.Outcome State Fault Refusal :=
  s.issue t.val (wordI 0x21 rd wm1 b) fun s => s.bitWrite t.val b.toNat (wm1.val + 1) (s.reg t.val rd.val)

/-- BSETF. R241. -/
def execBsetf (t : Fin 580) (wm1 : Fin 32) (b : BitVec 16) (s : State) : Host.Outcome State Fault Refusal :=
  s.issue t.val (wordI 0x22 0 wm1 b) fun s => s.bitWrite t.val b.toNat (wm1.val + 1) 0xFFFFFFFF#32

/-- BCLRF. R241. -/
def execBclrf (t : Fin 580) (wm1 : Fin 32) (b : BitVec 16) (s : State) : Host.Outcome State Fault Refusal :=
  s.issue t.val (wordI 0x23 0 wm1 b) fun s => s.bitWrite t.val b.toNat (wm1.val + 1) 0#32

/-- BEXTR: address in ra, width in rb. R241. -/
def execBextr (t : Fin 580) (rd ra rb : Fin 32) (s : State) : Host.Outcome State Fault Refusal :=
  s.issue t.val (wordR 0x24 rd ra rb false 1) fun s => match bitrOperands (s.reg t.val ra.val) (s.reg t.val rb.val) with
    | some (b, w) => s.bitRead t.val rd.val b w
    | none => s.fault_ t.val excAccess causeBitRegion (s.reg t.val ra.val).toNat

/-- BINSR: address in ra, width in rb. R241. -/
def execBinsr (t : Fin 580) (rd ra rb : Fin 32) (s : State) : Host.Outcome State Fault Refusal :=
  s.issue t.val (wordR 0x24 rd ra rb false 2) fun s => match bitrOperands (s.reg t.val ra.val) (s.reg t.val rb.val) with
    | some (b, w) => s.bitWrite t.val b w (s.reg t.val rd.val)
    | none => s.fault_ t.val excAccess causeBitRegion (s.reg t.val ra.val).toNat

/-- BBS and BBC: a branch on one bit. R241. -/
def State.bitBranch (s : State) (t b : Nat) (want : Bool) (off : Int) : State :=
  match s.bitFault t b 1 false with
  | some cause => s.fault_ t excAccess cause b
  | none => s.bitSource t b 1 fun s => s.branch t (((s.thread t).bitGet b 1 == 1#32) == want) off

/-- BBS. R241. -/
def execBbs (t : Fin 580) (b off : BitVec 13) (s : State) : Host.Outcome State Fault Refusal :=
  s.issue t.val (wordBB 0x25 b off) fun s => s.bitBranch t.val b.toNat true off.toInt

/-- BBC. R241. -/
def execBbc (t : Fin 580) (b off : BitVec 13) (s : State) : Host.Outcome State Fault Refusal :=
  s.issue t.val (wordBB 0x26 b off) fun s => s.bitBranch t.val b.toNat false off.toInt

/-! ### Branches and jumps (R242, R243) -/

/-- BEQ. R242. -/
def execBeq (t : Fin 580) (ra rb : Fin 32) (off : BitVec 16) (s : State) : Host.Outcome State Fault Refusal :=
  s.issue t.val (wordI 0x28 ra rb off) fun s =>
    let a := s.reg t.val ra.val
    let b := s.reg t.val rb.val
    s.branch t.val (a == b) off.toInt

/-- BNE. R242. -/
def execBne (t : Fin 580) (ra rb : Fin 32) (off : BitVec 16) (s : State) : Host.Outcome State Fault Refusal :=
  s.issue t.val (wordI 0x29 ra rb off) fun s =>
    let a := s.reg t.val ra.val
    let b := s.reg t.val rb.val
    s.branch t.val (a != b) off.toInt

/-- BLT. R242. -/
def execBlt (t : Fin 580) (ra rb : Fin 32) (off : BitVec 16) (s : State) : Host.Outcome State Fault Refusal :=
  s.issue t.val (wordI 0x2A ra rb off) fun s =>
    let a := s.reg t.val ra.val
    let b := s.reg t.val rb.val
    s.branch t.val (a.slt b) off.toInt

/-- BGE. R242. -/
def execBge (t : Fin 580) (ra rb : Fin 32) (off : BitVec 16) (s : State) : Host.Outcome State Fault Refusal :=
  s.issue t.val (wordI 0x2B ra rb off) fun s =>
    let a := s.reg t.val ra.val
    let b := s.reg t.val rb.val
    s.branch t.val (!a.slt b) off.toInt

/-- BLTU. R242. -/
def execBltu (t : Fin 580) (ra rb : Fin 32) (off : BitVec 16) (s : State) : Host.Outcome State Fault Refusal :=
  s.issue t.val (wordI 0x2C ra rb off) fun s =>
    let a := s.reg t.val ra.val
    let b := s.reg t.val rb.val
    s.branch t.val (a.ult b) off.toInt

/-- BGEU. R242. -/
def execBgeu (t : Fin 580) (ra rb : Fin 32) (off : BitVec 16) (s : State) : Host.Outcome State Fault Refusal :=
  s.issue t.val (wordI 0x2D ra rb off) fun s =>
    let a := s.reg t.val ra.val
    let b := s.reg t.val rb.val
    s.branch t.val (!a.ult b) off.toInt

/-- BCC. R242. -/
def execBcc (t : Fin 580) (cond : Fin 16) (off : BitVec 16) (s : State) : Host.Outcome State Fault Refusal :=
  s.issue t.val (0x2E * 2 ^ 26 + cond.val * 2 ^ 22 + off.toNat) fun s =>
    s.branch t.val (condHolds cond.val (s.thread t.val).tsw) off.toInt

/-- The link written and the jump taken. R243. -/
def State.link (s : State) (t rd target : Nat) : State :=
  if codeTop t < target then s.fault_ t excAccess causeFetch target
  else
    let x := s.thread t
    (s.setThread t (x.setReg rd (BitVec.ofNat 32 (x.pc + 4)))).jump t target flJump

/-- JAL. R243. -/
def execJal (t : Fin 580) (rd : Fin 32) (idx : BitVec 15) (s : State) : Host.Outcome State Fault Refusal :=
  s.issue t.val (0x30 * 2 ^ 26 + rd.val * 2 ^ 21 + idx.toNat) fun s => s.link t.val rd.val (4 * idx.toNat)

/-- JALR: a target beyond code is a FETCH fault, a misaligned one MISALIGNED; ra is read before the link is written. R209, R219,
R243. -/
def execJalr (t : Fin 580) (rd ra : Fin 32) (imm : BitVec 16) (s : State) : Host.Outcome State Fault Refusal :=
  s.issue t.val (wordI 0x31 rd ra imm) fun s =>
    let a := (s.reg t.val ra.val + imm.signExtend 32).toNat
    if codeTop t.val < a then s.fault_ t.val excAccess causeFetch a
    else if a % 4 ≠ 0 then s.fault_ t.val excMisaligned 0 a
    else s.link t.val rd.val a

/-! ### Loops (R194, R217, R244) -/

/-- LOOP and LOOPI: a body of `len` instructions run `count` times. The loop buffer has 4 entries of 16 instructions per core.
R194, R244. -/
def State.openLoop (s : State) (t w count len : Nat) : State :=
  let x := s.thread t
  if x.exl then s.illegal t illLoop w
  else if 2 ≤ x.loops.length then s.illegal t illThird w
  else if count = 0 then s.jump t (x.pc + 4 * (len + 1)) flBranch
  else
    let cap := decide (len ≤ 16) && decide (s.loopEntries t < 4)
    let s := s.done t
    let y := s.thread t
    let s := s.setThread t { y with loops := ⟨x.pc + 4, x.pc + 4 * len, count, cap⟩ :: y.loops }
    if cap then s.bumpCore t K.ctrCoreLoopCaptured else s

/-- LOOP: the count is in ra. R244. -/
def execLoop (t : Fin 580) (ra : Fin 32) (len : BitVec 16) (s : State) : Host.Outcome State Fault Refusal :=
  let w := wordI 0x32 0 ra len
  s.issue t.val w fun s => s.openLoop t.val w (s.reg t.val ra.val).toNat len.toNat

/-- LOOPI: the count is in the instruction. R244. -/
def execLoopi (t : Fin 580) (count : BitVec 10) (len : BitVec 16) (s : State) : Host.Outcome State Fault Refusal :=
  let w := 0x33 * 2 ^ 26 + count.toNat * 2 ^ 16 + len.toNat
  s.issue t.val w fun s => s.openLoop t.val w count.toNat len.toNat

/-- LPCLR: the innermost context closes. R244, R249. -/
def execLpclr (t : Fin 580) (s : State) : Host.Outcome State Fault Refusal :=
  s.issue t.val (wordS 0 0 0 6) fun s =>
    let x := s.thread t.val
    (s.setThread t.val { x with loops := x.loops.drop 1 }).done t.val

end Sys2Proof.Machine
end

