-- ==== Sys2Proof/Machine/Requests.lean ====
section
/-! DEFINITION. The ends of work items, commit posts and delay-list requests (R153, R154, R162, R245, R246), the Rendezvous requests
(R247) and the system instructions (R189, R206, R215, R217, R249, R250). -/

namespace Sys2Proof.Machine

/-! ### End of work (R245, R246) -/

/-- The bits of EndArg reserved for an end kind. R153. -/
def endReserved (kind : Nat) : Nat := if kind = 1 then 0x000F else if kind = 2 then 0xFF00 else 0x1C00

/-- PKTFWD, PKTDROP and PKTMC: the end goes to DX; after PKTDROP the thread is idle, else it writes its window cell. R159, R162,
R180, R245, R292. -/
def State.endPacket (s : State) (t w : Nat) (kind : Nat) (ra : Fin 32) (imm : BitVec 16) :
    Host.Outcome State Fault Refusal :=
  s.issue t w fun s =>
    let arg := (s.reg t ra.val + imm.setWidth 32).setWidth 16
    let x := s.thread t
    if arg.toNat &&& endReserved kind ≠ 0 then s.fault_ t excAccess causeReservedBits arg.toNat
    else match x.item with
      | some i =>
        if !i.isPacket then s.fault_ t excAccess causeWindow arg.toNat
        else
          let s := (((s.traceRetire t).traceEnd t kind 0).setSubs t x.second [])
          let s := (s.setThread t { s.thread t with loops := [] }).post_ t (.finish i.journal kind arg)
          if kind = 2 then s.idleThread t else s.park t .ending
      | none => s.fault_ t excAccess causeWindow arg.toNat

/-- PKTFWD. R245. -/
def execPktfwd (t : Fin 580) (ra : Fin 32) (imm : BitVec 16) (s : State) : Host.Outcome State Fault Refusal :=
  s.endPacket t.val (wordI 0x38 0 ra imm) 1 ra imm

/-- PKTDROP. R245. -/
def execPktdrop (t : Fin 580) (ra : Fin 32) (imm : BitVec 16) (s : State) : Host.Outcome State Fault Refusal :=
  s.endPacket t.val (wordI 0x39 0 ra imm) 2 ra imm

/-- PKTMC. R245. -/
def execPktmc (t : Fin 580) (ra : Fin 32) (imm : BitVec 16) (s : State) : Host.Outcome State Fault Refusal :=
  s.endPacket t.val (wordI 0x3A 0 ra imm) 3 ra imm

/-- WORKDONE: a TIMED or POSTED item ends; saved work resumes. R133, R180, R246, R279. -/
def execWorkdone (t : Fin 580) (s : State) : Host.Outcome State Fault Refusal :=
  s.issue t.val (wordV 0x3B 0 0 0 0 0 1) fun s =>
    match (s.thread t.val).item with
      | some i =>
        if i.isPacket then s.fault_ t.val excAccess causeWindow 0
        else ((s.traceRetire t.val).traceEnd t.val 4 0).workDone t.val
      | none => s.fault_ t.val excAccess causeWindow 0

/-- The journal entry of the packet a thread's current item holds. R154. -/
def Thread.heldPacket (x : Thread) : Option Nat :=
  match x.item with
  | some i => if i.isPacket then some i.journal else none
  | none => none

/-- What an image in data RAM raises when it is read: an error of a word it may read comes before any image's address fault. R216. -/
def State.imageEcc (s : State) (t a n : Nat) : Option Nat := if imageFault t a n = none then s.badRam t a n else none

/-- The exception of an instruction that reads images at the given addresses and lengths: an uncorrectable error, then ACCESS_FAULT,
then MISALIGNED, of the first image that has it. R216, R246. -/
def State.withImages (s : State) (t : Nat) (l : List (Nat × Nat)) (k : State → State) : State :=
  let fault (code : Nat) : Option (Nat × Nat × Nat) := l.findSome? fun e => match imageFault t e.1 e.2 with
    | some (c, cause) => if c = code then some (c, cause, e.1) else none
    | none => none
  match l.findSome? (fun e => s.imageEcc t e.1 e.2), (fault excAccess).or (fault excMisaligned) with
  | some w, _ => s.eccFault t (ramId t) w
  | none, some (code, cause, a) => s.fault_ t code cause a
  | none, none => k s

/-- CPOST: the slot image and its payload units leave for DX; the reply comes from the Ordered Release Unit. R154, R246. -/
def execCpost (t : Fin 580) (rs rb : Fin 32) (n : Fin 8) (p : Fin 2) (s : State) : Host.Outcome State Fault Refusal :=
  s.ask t.val (wordV 0x3B rs 0 rb n p 2) p.val fun s =>
    let a := (s.reg t.val rs.val).toNat
    let b := (s.reg t.val rb.val).toNat
    s.withImages t.val ((a, 16) :: if n.val = 0 then [] else [(b, 16 * n.val)]) fun s =>
      s.withImage t.val a 2 [] fun s slot => s.withImage t.val b (2 * n.val) [] fun s payload =>
        let x := s.thread t.val
        let s := s.post_ t.val (.post x.heldPacket x.second p.val (BitVec.ofNat 128 (ofLE slot)) payload)
        (s.setRp t.val x.second p.val (.out .post 0 s.usStrobe)).done t.val

/-- A request leaves for DX with its reply register outstanding, and the instruction retires. R18, R206, R274. -/
def State.request (s : State) (t p : Nat) (r : DxReq) : State :=
  let second := (s.thread t).second
  ((s.setRp t second p (.out .request 0 s.usStrobe)).sendDx t (.request second p r)).done t

/-- DINS: INSERT of a delay-list entry; the data half holds the handle. R137, R246. -/
def execDins (t : Fin 580) (rs ra : Fin 32) (p : Fin 2) (s : State) : Host.Outcome State Fault Refusal :=
  s.ask t.val (wordV 0x3B rs ra 0 0 p 3) p.val fun s =>
    let a := (s.reg t.val rs.val).toNat
    let l := (s.reg t.val ra.val).toNat
    s.withImages t.val [(a, 16)] fun s => s.withImage t.val a 2 [] fun s image =>
      s.request t.val p.val (.insert l (BitVec.ofNat 128 (ofLE image)))

/-- DCAN: CANCEL of a handle. R137, R246. -/
def execDcan (t : Fin 580) (ra : Fin 32) (p : Fin 2) (s : State) : Host.Outcome State Fault Refusal :=
  s.ask t.val (wordV 0x3B 0 ra 0 0 p 4) p.val fun s =>
    s.request t.val p.val (.cancel ((s.reg t.val ra.val).toNat % 65536))

/-! ### Rendezvous requests (R247) -/

/-- A request of the thread in its register set, replying into RPp. R206, R247. -/
def State.rdv_ (s : State) (t w : Nat) (p : Nat) (f : State → DxReq) : Host.Outcome State Fault Refusal :=
  s.ask t w p fun s => s.request t p (f s)

/-- LOCK. R247, R276. -/
def execLock (t : Fin 580) (ra rb : Fin 32) (p : Fin 2) (s : State) : Host.Outcome State Fault Refusal :=
  s.rdv_ t.val (wordV 0x3C 0 ra rb 0 p 0x01) p.val fun s => .lock (s.reg t.val ra.val).toNat false (s.timeoutOf t.val rb.val)

/-- TRYLOCK. R247. -/
def execTrylock (t : Fin 580) (ra : Fin 32) (p : Fin 2) (s : State) : Host.Outcome State Fault Refusal :=
  s.rdv_ t.val (wordV 0x3C 0 ra 0 0 p 0x02) p.val fun s => .lock (s.reg t.val ra.val).toNat true 0

/-- UNLOCK. R247, R279. -/
def execUnlock (t : Fin 580) (ra : Fin 32) (p : Fin 2) (s : State) : Host.Outcome State Fault Refusal :=
  s.rdv_ t.val (wordV 0x3C 0 ra 0 0 p 0x03) p.val fun s => .unlock (s.reg t.val ra.val).toNat

/-- CLRABND. R247, R280. -/
def execClrabnd (t : Fin 580) (ra : Fin 32) (p : Fin 2) (s : State) : Host.Outcome State Fault Refusal :=
  s.rdv_ t.val (wordV 0x3C 0 ra 0 0 p 0x04) p.val fun s => .clrAbnd (s.reg t.val ra.val).toNat

/-- SEMWAIT. R247, R281. -/
def execSemwait (t : Fin 580) (ra rb : Fin 32) (p : Fin 2) (s : State) : Host.Outcome State Fault Refusal :=
  s.rdv_ t.val (wordV 0x3C 0 ra rb 0 p 0x05) p.val fun s => .semWait (s.reg t.val ra.val).toNat (s.timeoutOf t.val rb.val)

/-- SEMSIG: the count is in rs[15:0]. R247, R282. -/
def execSemsig (t : Fin 580) (ra rs : Fin 32) (p : Fin 2) (s : State) : Host.Outcome State Fault Refusal :=
  s.rdv_ t.val (wordV 0x3C rs ra 0 0 p 0x06) p.val fun s => .semSig (s.reg t.val ra.val).toNat ((s.reg t.val rs.val).toNat % 65536)

/-- CHSEND: the words of rs to rs + n. R247, R289. -/
def execChsend (t : Fin 580) (ra rs rb : Fin 32) (n : Fin 8) (p : Fin 2) (s : State) : Host.Outcome State Fault Refusal :=
  s.ask t.val (wordV 0x3C rs ra rb n p 0x07) p.val fun s =>
    let words := (List.range (n.val + 1)).map fun i => s.reg t.val (rs.val + i)
    s.request t.val p.val (.chSend (s.reg t.val ra.val).toNat words (s.timeoutOf t.val rb.val)
      (if isBarrelThread t.val then some s.now else none))

/-- CHRECV into the 32-byte buffer at rs. R247, R290. -/
def execChrecv (t : Fin 580) (ra rs rb : Fin 32) (p : Fin 2) (s : State) : Host.Outcome State Fault Refusal :=
  s.ask t.val (wordV 0x3C rs ra rb 0 p 0x08) p.val fun s =>
    let b := (s.reg t.val rs.val).toNat
    match imageFault t.val b 32 with
    | some (code, cause) => s.fault_ t.val code cause b
    | none => s.request t.val p.val (.chRecv (s.reg t.val ra.val).toNat b (s.timeoutOf t.val rb.val))

/-- EVSET. R247, R291. -/
def execEvset (t : Fin 580) (ra : Fin 32) (p : Fin 2) (s : State) : Host.Outcome State Fault Refusal :=
  s.rdv_ t.val (wordV 0x3C 0 ra 0 0 p 0x09) p.val fun s => .evSet (s.reg t.val ra.val).toNat

/-- EVCLR. R247, R291. -/
def execEvclr (t : Fin 580) (ra : Fin 32) (p : Fin 2) (s : State) : Host.Outcome State Fault Refusal :=
  s.rdv_ t.val (wordV 0x3C 0 ra 0 0 p 0x0A) p.val fun s => .evClr (s.reg t.val ra.val).toNat

/-- EVWAIT. R247, R291. -/
def execEvwait (t : Fin 580) (ra rb : Fin 32) (p : Fin 2) (s : State) : Host.Outcome State Fault Refusal :=
  s.rdv_ t.val (wordV 0x3C 0 ra rb 0 p 0x0B) p.val fun s => .evWait (s.reg t.val ra.val).toNat (s.timeoutOf t.val rb.val)

/-- EVSUB. R247, R292. -/
def execEvsub (t : Fin 580) (ra : Fin 32) (p : Fin 2) (s : State) : Host.Outcome State Fault Refusal :=
  s.rdv_ t.val (wordV 0x3C 0 ra 0 0 p 0x0C) p.val fun s => .evSub (s.reg t.val ra.val).toNat

/-- EVUNSUB. R247, R292. -/
def execEvunsub (t : Fin 580) (ra : Fin 32) (p : Fin 2) (s : State) : Host.Outcome State Fault Refusal :=
  s.rdv_ t.val (wordV 0x3C 0 ra 0 0 p 0x0D) p.val fun s => .evUnsub (s.reg t.val ra.val).toNat

/-- AFADD, ACAS and ASWP: the address must lie in atomic memory and be word-aligned. R247, R283. -/
def State.atomic_ (s : State) (t w : Nat) (p : Nat) (ra : Fin 32) (f : Nat → DxReq) : Host.Outcome State Fault Refusal :=
  s.ask t w p fun s =>
    let a := (s.reg t ra.val).toNat
    if a < 0x20000000 ∨ 0x2000FFFF < a then s.fault_ t excAccess causeUnmapped a
    else if a % 4 ≠ 0 then s.fault_ t excMisaligned 0 a
    else s.request t p (f (a - 0x20000000))

/-- AFADD. R247, R283. -/
def execAfadd (t : Fin 580) (ra rb : Fin 32) (p : Fin 2) (s : State) : Host.Outcome State Fault Refusal :=
  s.atomic_ t.val (wordV 0x3C 0 ra rb 0 p 0x10) p.val ra fun off => .add off (s.reg t.val rb.val)

/-- ACAS. R247, R283. -/
def execAcas (t : Fin 580) (ra rb rs : Fin 32) (p : Fin 2) (s : State) : Host.Outcome State Fault Refusal :=
  s.atomic_ t.val (wordV 0x3C rs ra rb 0 p 0x11) p.val ra fun off =>
    .cas off (s.reg t.val rb.val) (s.reg t.val rs.val)

/-- ASWP. R247, R283. -/
def execAswp (t : Fin 580) (ra rs : Fin 32) (p : Fin 2) (s : State) : Host.Outcome State Fault Refusal :=
  s.atomic_ t.val (wordV 0x3C rs ra 0 0 p 0x12) p.val ra fun off => .swap off (s.reg t.val rs.val)

/-! ### System instructions (R249, R250) -/

/-- A special register that MFS reads at once, or none for a reply register or a reserved number. R203. -/
def Thread.special (x : Thread) (n : Nat) : Option Word :=
  let r := x.sregs
  match n with
  | 0 => some x.tsw
  | 1 => some r.epc
  | 2 => some r.ecode
  | 3 => some r.eaddr
  | 4 => some r.tvec
  | 5 => some r.witem
  | 6 => some r.wtag
  | _ => none

/-- The reply register that a special register's number reads while it is empty: the thread is BLOCKED on it. R188, R206. -/
def State.replyHold (s : State) (t n : Nat) : Option TState :=
  let m := (n - 8) / 2
  if n < 8 then none
  else match s.rp t (s.thread t).second m with
    | .full _ => none
    | _ => some (.blocked (.reply m))

/-- MFS: reading the status half of a reply consumes it; an empty reply register blocks the thread. R188, R203, R206, R249. -/
def execMfs (t : Fin 580) (r1 : Fin 32) (n : Fin 32) (s : State) : Host.Outcome State Fault Refusal :=
  s.issueOr t.val (wordS r1 n 0 1) (fun s => s.replyHold t.val n.val) fun s =>
    let x := s.thread t.val
    match x.special n.val with
    | some v => s.writeReg t.val r1.val v
    | none =>
      let m := (n.val - 8) / 2
      match s.rp t.val x.second m with
      | .full r =>
        if n.val % 2 = 0 then s.writeReg t.val r1.val r.data
        else
          let s := s.setThread t.val { x with ev := x.ev &&& ~~~(1#7 <<< m) }
          (s.setRp t.val x.second m .empty).writeReg t.val r1.val r.status
      | _ => s

/-- TSW bits that MTS may set: the flags and the traps; EXL may be written only as it stands. R204, R215. -/
def tswMtsOk (old v : BitVec 32) : Bool :=
  decide (v &&& ~~~0x00E0001F#32 = 0#32) && decide (v.getLsbD 23 = old.getLsbD 23)

/-- MTS: TSW and TVEC alone can be written. R203, R215, R249. -/
def execMts (t : Fin 580) (r1 : Fin 32) (n : Fin 32) (s : State) : Host.Outcome State Fault Refusal :=
  s.issue t.val (wordS r1 n 0 2) fun s =>
    let x := s.thread t.val
    let v := x.reg r1.val
    if n.val = 0 then
      if tswMtsOk x.tsw v then (s.setThread t.val { x with tsw := v }).done t.val
      else s.fault_ t.val excAccess causeReservedBits v.toNat
    else if v.toNat % 4 ≠ 0 ∨ codeTop t.val < v.toNat then s.fault_ t.val excAccess causeReservedBits v.toNat
    else (s.setThread t.val (x.setSregs { x.sregs with tvec := v })).done t.val

/-- ERET: PC := EPC, EXL := 0; loop contexts resume uncaptured. R217, R249. -/
def execEret (t : Fin 580) (s : State) : Host.Outcome State Fault Refusal :=
  s.issue t.val (wordS 0 0 0 3) fun s =>
    let x := s.thread t.val
    let pc := x.sregs.epc.toNat
    if !x.exl then s.illegal t.val illEret (wordS 0 0 0 3)
    else if codeTop t.val < pc then s.fault_ t.val excAccess causeFetch pc
    else
      let s := (s.traceRetire t.val).traceFlow t.val x.pc pc flEret
      s.setThread t.val { s.thread t.val with pc := pc, tsw := putBit x.tsw 23 false, loops := uncaptured x.loops }

/-- WFE: goes on at once when a masked event is pending, else waits. R189, R249. -/
def execWfe (t : Fin 580) (mask : BitVec 7) (r2 : Fin 32) (s : State) : Host.Outcome State Fault Refusal :=
  s.issue t.val (wordS 0 r2 mask.toNat 4) fun s =>
    let x := s.thread t.val
    if x.ev &&& mask ≠ 0#7 then s.endWfe t.val mask
    else
      let n := s.timeoutOf t.val r2.val
      (s.when (decide (n ≠ 0)) (·.takeTimer t.val)).park t.val (.waiting mask n s.usStrobe)

/-- The bytes of an image as an instruction would read it now, where nothing stands in the way. R246. -/
def State.peekImage (s : State) (t a : Nat) : Nat → Option (List Byte)
  | 0 => some []
  | n + 1 => match s.readRam t a 8 with
    | .bytes bs _ => (s.peekImage t (a + 8) n).map (bs ++ ·)
    | _ => none

/-- A doorbell that asks for a notice waits while RP2 is in use. R188, R206. -/
def State.doorbellHold (s : State) (t a ch : Nat) : Option TState :=
  if bit (s.rd (K.rtRights (s.lower (t / 8)))) 1 = 0 ∨ 15 < ch ∨ imageFault t a 32 ≠ none then none
  else match s.peekImage t a 4 with
    | some image => if dmaNotify (BitVec.ofNat 256 (ofLE image)) then s.rpBusy t 2 else none
    | none => none

/-- DMADB: rings the channel in r2 with the descriptor at r1. R249, R399, R405. -/
def execDmadb (t : Fin 580) (r1 r2 : Fin 32) (s : State) : Host.Outcome State Fault Refusal :=
  s.issueOr t.val (wordS r1 r2 0 5) (fun s => s.doorbellHold t.val (s.reg t.val r1.val).toNat (s.reg t.val r2.val).toNat) fun s =>
    let x := s.thread t.val
    let a := (s.reg t.val r1.val).toNat
    let ch := (s.reg t.val r2.val).toNat
    if bit (s.rd (K.rtRights (s.lower (t.val / 8)))) 1 = 0 then s.fault_ t.val excAccess causeRights a
    else if 15 < ch then s.fault_ t.val excAccess causeReservedBits ch
    else s.withImages t.val [(a, 32)] fun s => s.withImage t.val a 4 [] fun s image =>
      let d := BitVec.ofNat 256 (ofLE image)
      let ring (s : State) (notify : Option (Nat × Bool)) : State :=
        (s.doorbell ch ⟨d, 0, BitVec.ofNat 32 t.val, notify, 0, false⟩ true).done t.val
      if dmaNotify d then
        ring (s.setRp t.val x.second 2 (.out (.dma ch) 0 s.usStrobe)) (some (t.val, x.second))
      else ring s none

/-- SYSCALL: EPC is the next instruction. R217, R250. -/
def execSyscall (t : Fin 580) (imm : BitVec 16) (s : State) : Host.Outcome State Fault Refusal :=
  s.issue t.val (0x3F * 2 ^ 26 + imm.toNat) fun s =>
    (s.bumpCore t.val K.ctrExcSyscalls).raise t.val excSyscall 0 (imm.setWidth 32) ((s.thread t.val).pc + 4)

end Sys2Proof.Machine
end

