-- ==== Sys2Proof/Machine/Dispatch.lean ====
section
/-! DEFINITION. The dispatch of commands to their meanings: one arm per constructor of Instr. -/

namespace Sys2Proof.Machine

def exec (i : Instr) (s : State) : Host.Outcome State Fault Refusal :=
  match i with
  | .modeWrite p code => Sys2Proof.Machine.execModeWrite p code s
  | .linkReprogramDone p => Sys2Proof.Machine.execLinkReprogramDone p s
  | .linkStateChange p st => Sys2Proof.Machine.execLinkStateChange p st s
  | .sgmiiAnComplete speed => Sys2Proof.Machine.execSgmiiAnComplete speed s
  | .macRxFrame p u age => Sys2Proof.Machine.execMacRxFrame p u age s
  | .pauseQuantaExpiry p prio => Sys2Proof.Machine.execPauseQuantaExpiry p prio s
  | .backpressureChange p => Sys2Proof.Machine.execBackpressureChange p s
  | .pauseRefreshTimer p => Sys2Proof.Machine.execPauseRefreshTimer p s
  | .preemptVerifyTimer p => Sys2Proof.Machine.execPreemptVerifyTimer p s
  | .macTxEnd p => Sys2Proof.Machine.execMacTxEnd p s
  | .cipherSuiteWrite p secy suite => Sys2Proof.Machine.execCipherSuiteWrite p secy suite s
  | .macsecScWrite p sc used rx secy sci => Sys2Proof.Machine.execMacsecScWrite p sc used rx secy sci s
  | .parseFrame p => Sys2Proof.Machine.execParseFrame p s
  | .classifyFrame p => Sys2Proof.Machine.execClassifyFrame p s
  | .scanComplete lane => Sys2Proof.Machine.execScanComplete lane s
  | .parseGraphWrite g => Sys2Proof.Machine.execParseGraphWrite g s
  | .keyProfileWrite p image => Sys2Proof.Machine.execKeyProfileWrite p image s
  | .ruleWrite pos valid value mask action => Sys2Proof.Machine.execRuleWrite pos valid value mask action s
  | .patternWrite pos im => Sys2Proof.Machine.execPatternWrite pos im s
  | .learnInsert w => Sys2Proof.Machine.execLearnInsert w s
  | .ageSweepVisit w slot => Sys2Proof.Machine.execAgeSweepVisit w slot s
  | .brambleFind target image => Sys2Proof.Machine.execBrambleFind target image s
  | .brambleInsert target image => Sys2Proof.Machine.execBrambleInsert target image s
  | .brambleDelete target image => Sys2Proof.Machine.execBrambleDelete target image s
  | .rehashStart w => Sys2Proof.Machine.execRehashStart w s
  | .rehashSwap w => Sys2Proof.Machine.execRehashSwap w s
  | .rehashCancel w => Sys2Proof.Machine.execRehashCancel w s
  | .rehashCopyDone w => Sys2Proof.Machine.execRehashCopyDone w s
  | .brambleProfileWrite p ranges => Sys2Proof.Machine.execBrambleProfileWrite p ranges s
  | .lodestarStreamWrite pos word => Sys2Proof.Machine.execLodestarStreamWrite pos word s
  | .lodestarIngressPoint p window soon instant => Sys2Proof.Machine.execLodestarIngressPoint p window soon instant s
  | .lodestarDelayedStart e lead => Sys2Proof.Machine.execLodestarDelayedStart e lead s
  | .lodestarHoldTx e lead => Sys2Proof.Machine.execLodestarHoldTx e lead s
  | .lodestarVerdict p part sent => Sys2Proof.Machine.execLodestarVerdict p part sent s
  | .ticketIssue p => Sys2Proof.Machine.execTicketIssue p s
  | .dispatcherPost l affinity tag => Sys2Proof.Machine.execDispatcherPost l affinity tag s
  | .dispatcherGrant => Sys2Proof.Machine.execDispatcherGrant s
  | .preemptSave t => Sys2Proof.Machine.execPreemptSave t s
  | .delayListInsert l w => Sys2Proof.Machine.execDelayListInsert l w s
  | .delayListCancel h => Sys2Proof.Machine.execDelayListCancel h s
  | .delayEntryDue l => Sys2Proof.Machine.execDelayEntryDue l s
  | .waitTimeout t second m => Sys2Proof.Machine.execWaitTimeout t second m s
  | .gaugeRefresh => Sys2Proof.Machine.execGaugeRefresh s
  | .commitPost t => Sys2Proof.Machine.execCommitPost t s
  | .packetEndSampled t => Sys2Proof.Machine.execPacketEndSampled t s
  | .packetRelease => Sys2Proof.Machine.execPacketRelease s
  | .windowCellCopyDone t => Sys2Proof.Machine.execWindowCellCopyDone t s
  | .faultReport t => Sys2Proof.Machine.execFaultReport t s
  | .drainFenceDone j => Sys2Proof.Machine.execDrainFenceDone j s
  | .threadWorkStart t => Sys2Proof.Machine.execThreadWorkStart t s
  | .windowCopyDone t => Sys2Proof.Machine.execWindowCopyDone t s
  | .storeBufferDrain c => Sys2Proof.Machine.execStoreBufferDrain c s
  | .helperRefusalHoldEnd t => Sys2Proof.Machine.execHelperRefusalHoldEnd t s
  | .divideComplete c => Sys2Proof.Machine.execDivideComplete c s
  | .replyArrival t second m => Sys2Proof.Machine.execReplyArrival t second m s
  | .lockstepMismatch q => Sys2Proof.Machine.execLockstepMismatch q s
  | .threadWatchdogExpiry t => Sys2Proof.Machine.execThreadWatchdogExpiry t s
  | .operatingPointWrite n v => Sys2Proof.Machine.execOperatingPointWrite n v s
  | .operatingPointChangeDone n => Sys2Proof.Machine.execOperatingPointChangeDone n s
  | .switch n => Sys2Proof.Machine.execSwitch n s
  | .switchDrained n => Sys2Proof.Machine.execSwitchDrained n s
  | .codeBankLoad n image => Sys2Proof.Machine.execCodeBankLoad n image s
  | .add t rd ra rb f => Sys2Proof.Machine.execAdd t rd ra rb f s
  | .addc t rd ra rb f => Sys2Proof.Machine.execAddc t rd ra rb f s
  | .sub t rd ra rb f => Sys2Proof.Machine.execSub t rd ra rb f s
  | .subb t rd ra rb f => Sys2Proof.Machine.execSubb t rd ra rb f s
  | .neg t rd ra f => Sys2Proof.Machine.execNeg t rd ra f s
  | .cmp t ra rb => Sys2Proof.Machine.execCmp t ra rb s
  | .and t rd ra rb f => Sys2Proof.Machine.execAnd t rd ra rb f s
  | .or t rd ra rb f => Sys2Proof.Machine.execOr t rd ra rb f s
  | .xor t rd ra rb f => Sys2Proof.Machine.execXor t rd ra rb f s
  | .andn t rd ra rb f => Sys2Proof.Machine.execAndn t rd ra rb f s
  | .not t rd ra f => Sys2Proof.Machine.execNot t rd ra f s
  | .shl t rd ra rb f => Sys2Proof.Machine.execShl t rd ra rb f s
  | .shr t rd ra rb f => Sys2Proof.Machine.execShr t rd ra rb f s
  | .asr t rd ra rb f => Sys2Proof.Machine.execAsr t rd ra rb f s
  | .ror t rd ra rb f => Sys2Proof.Machine.execRor t rd ra rb f s
  | .rol t rd ra rb f => Sys2Proof.Machine.execRol t rd ra rb f s
  | .min t rd ra rb => Sys2Proof.Machine.execMin t rd ra rb s
  | .max t rd ra rb => Sys2Proof.Machine.execMax t rd ra rb s
  | .minu t rd ra rb => Sys2Proof.Machine.execMinu t rd ra rb s
  | .maxu t rd ra rb => Sys2Proof.Machine.execMaxu t rd ra rb s
  | .slt t rd ra rb => Sys2Proof.Machine.execSlt t rd ra rb s
  | .sltu t rd ra rb => Sys2Proof.Machine.execSltu t rd ra rb s
  | .clz t rd ra => Sys2Proof.Machine.execClz t rd ra s
  | .popc t rd ra => Sys2Proof.Machine.execPopc t rd ra s
  | .bswap t rd ra => Sys2Proof.Machine.execBswap t rd ra s
  | .bswaph t rd ra => Sys2Proof.Machine.execBswaph t rd ra s
  | .sextb t rd ra => Sys2Proof.Machine.execSextb t rd ra s
  | .sexth t rd ra => Sys2Proof.Machine.execSexth t rd ra s
  | .zexth t rd ra => Sys2Proof.Machine.execZexth t rd ra s
  | .mul t rd ra rb f => Sys2Proof.Machine.execMul t rd ra rb f s
  | .mulh t rd ra rb => Sys2Proof.Machine.execMulh t rd ra rb s
  | .mulhu t rd ra rb => Sys2Proof.Machine.execMulhu t rd ra rb s
  | .div t rd ra rb => Sys2Proof.Machine.execDiv t rd ra rb s
  | .divu t rd ra rb => Sys2Proof.Machine.execDivu t rd ra rb s
  | .dadd t rd ra rb => Sys2Proof.Machine.execDadd t rd ra rb s
  | .daddc t rd ra rb => Sys2Proof.Machine.execDaddc t rd ra rb s
  | .dsub t rd ra rb => Sys2Proof.Machine.execDsub t rd ra rb s
  | .bin2bcd t rd ra => Sys2Proof.Machine.execBin2bcd t rd ra s
  | .bcd2bin t rd ra => Sys2Proof.Machine.execBcd2bin t rd ra s
  | .digasc t rd ra => Sys2Proof.Machine.execDigasc t rd ra s
  | .ascdig t rd ra => Sys2Proof.Machine.execAscdig t rd ra s
  | .addi t rd ra imm => Sys2Proof.Machine.execAddi t rd ra imm s
  | .andi t rd ra imm => Sys2Proof.Machine.execAndi t rd ra imm s
  | .ori t rd ra imm => Sys2Proof.Machine.execOri t rd ra imm s
  | .xori t rd ra imm => Sys2Proof.Machine.execXori t rd ra imm s
  | .shli t rd ra imm => Sys2Proof.Machine.execShli t rd ra imm s
  | .shri t rd ra imm => Sys2Proof.Machine.execShri t rd ra imm s
  | .asri t rd ra imm => Sys2Proof.Machine.execAsri t rd ra imm s
  | .rori t rd ra imm => Sys2Proof.Machine.execRori t rd ra imm s
  | .lui t rd imm => Sys2Proof.Machine.execLui t rd imm s
  | .cmpi t ra imm => Sys2Proof.Machine.execCmpi t ra imm s
  | .lb t rd ra imm => Sys2Proof.Machine.execLb t rd ra imm s
  | .lbu t rd ra imm => Sys2Proof.Machine.execLbu t rd ra imm s
  | .lh t rd ra imm => Sys2Proof.Machine.execLh t rd ra imm s
  | .lhu t rd ra imm => Sys2Proof.Machine.execLhu t rd ra imm s
  | .lw t rd ra imm => Sys2Proof.Machine.execLw t rd ra imm s
  | .ld t rd ra imm => Sys2Proof.Machine.execLd t rd ra imm s
  | .sb t rd ra imm => Sys2Proof.Machine.execSb t rd ra imm s
  | .sh t rd ra imm => Sys2Proof.Machine.execSh t rd ra imm s
  | .sw t rd ra imm => Sys2Proof.Machine.execSw t rd ra imm s
  | .sd t rd ra imm => Sys2Proof.Machine.execSd t rd ra imm s
  | .bext t rd wm1 b => Sys2Proof.Machine.execBext t rd wm1 b s
  | .bins t rd wm1 b => Sys2Proof.Machine.execBins t rd wm1 b s
  | .bsetf t wm1 b => Sys2Proof.Machine.execBsetf t wm1 b s
  | .bclrf t wm1 b => Sys2Proof.Machine.execBclrf t wm1 b s
  | .bextr t rd ra rb => Sys2Proof.Machine.execBextr t rd ra rb s
  | .binsr t rd ra rb => Sys2Proof.Machine.execBinsr t rd ra rb s
  | .bbs t b off => Sys2Proof.Machine.execBbs t b off s
  | .bbc t b off => Sys2Proof.Machine.execBbc t b off s
  | .beq t ra rb off => Sys2Proof.Machine.execBeq t ra rb off s
  | .bne t ra rb off => Sys2Proof.Machine.execBne t ra rb off s
  | .blt t ra rb off => Sys2Proof.Machine.execBlt t ra rb off s
  | .bge t ra rb off => Sys2Proof.Machine.execBge t ra rb off s
  | .bltu t ra rb off => Sys2Proof.Machine.execBltu t ra rb off s
  | .bgeu t ra rb off => Sys2Proof.Machine.execBgeu t ra rb off s
  | .bcc t cond off => Sys2Proof.Machine.execBcc t cond off s
  | .jal t rd idx => Sys2Proof.Machine.execJal t rd idx s
  | .jalr t rd ra imm => Sys2Proof.Machine.execJalr t rd ra imm s
  | .loop t ra len => Sys2Proof.Machine.execLoop t ra len s
  | .loopi t count len => Sys2Proof.Machine.execLoopi t count len s
  | .pktfwd t ra imm => Sys2Proof.Machine.execPktfwd t ra imm s
  | .pktdrop t ra imm => Sys2Proof.Machine.execPktdrop t ra imm s
  | .pktmc t ra imm => Sys2Proof.Machine.execPktmc t ra imm s
  | .workdone t => Sys2Proof.Machine.execWorkdone t s
  | .cpost t rs rb n p => Sys2Proof.Machine.execCpost t rs rb n p s
  | .dins t rs ra p => Sys2Proof.Machine.execDins t rs ra p s
  | .dcan t ra p => Sys2Proof.Machine.execDcan t ra p s
  | .lock t ra rb p => Sys2Proof.Machine.execLock t ra rb p s
  | .trylock t ra p => Sys2Proof.Machine.execTrylock t ra p s
  | .unlock t ra p => Sys2Proof.Machine.execUnlock t ra p s
  | .clrabnd t ra p => Sys2Proof.Machine.execClrabnd t ra p s
  | .semwait t ra rb p => Sys2Proof.Machine.execSemwait t ra rb p s
  | .semsig t ra rs p => Sys2Proof.Machine.execSemsig t ra rs p s
  | .chsend t ra rs rb n p => Sys2Proof.Machine.execChsend t ra rs rb n p s
  | .chrecv t ra rs rb p => Sys2Proof.Machine.execChrecv t ra rs rb p s
  | .evset t ra p => Sys2Proof.Machine.execEvset t ra p s
  | .evclr t ra p => Sys2Proof.Machine.execEvclr t ra p s
  | .evwait t ra rb p => Sys2Proof.Machine.execEvwait t ra rb p s
  | .evsub t ra p => Sys2Proof.Machine.execEvsub t ra p s
  | .evunsub t ra p => Sys2Proof.Machine.execEvunsub t ra p s
  | .afadd t ra rb p => Sys2Proof.Machine.execAfadd t ra rb p s
  | .acas t ra rb rs p => Sys2Proof.Machine.execAcas t ra rb rs p s
  | .aswp t ra rs p => Sys2Proof.Machine.execAswp t ra rs p s
  | .mfc t r n x => Sys2Proof.Machine.execMfc t r n x s
  | .mtc t r n x => Sys2Proof.Machine.execMtc t r n x s
  | .mfs t r1 n => Sys2Proof.Machine.execMfs t r1 n s
  | .mts t r1 n => Sys2Proof.Machine.execMts t r1 n s
  | .eret t => Sys2Proof.Machine.execEret t s
  | .wfe t mask r2 => Sys2Proof.Machine.execWfe t mask r2 s
  | .dmadb t r1 r2 => Sys2Proof.Machine.execDmadb t r1 r2 s
  | .lpclr t => Sys2Proof.Machine.execLpclr t s
  | .syscall t imm => Sys2Proof.Machine.execSyscall t imm s
  | .helperOpStart n h => Sys2Proof.Machine.execHelperOpStart n h s
  | .helperOpComplete t second h => Sys2Proof.Machine.execHelperOpComplete t second h s
  | .gcmEnc t => Sys2Proof.Machine.execGcmEnc t s
  | .gcmDec t => Sys2Proof.Machine.execGcmDec t s
  | .gmac t => Sys2Proof.Machine.execGmac t s
  | .shake128 t => Sys2Proof.Machine.execShake128 t s
  | .shake256 t => Sys2Proof.Machine.execShake256 t s
  | .sha3_256 t => Sys2Proof.Machine.execSha3_256 t s
  | .sha3_512 t => Sys2Proof.Machine.execSha3_512 t s
  | .kmac256 t => Sys2Proof.Machine.execKmac256 t s
  | .crc32 t => Sys2Proof.Machine.execCrc32 t s
  | .crc32c t => Sys2Proof.Machine.execCrc32c t s
  | .crc8 t => Sys2Proof.Machine.execCrc8 t s
  | .crc16 t => Sys2Proof.Machine.execCrc16 t s
  | .crc32F4ac t => Sys2Proof.Machine.execCrc32F4ac t s
  | .crc64 t => Sys2Proof.Machine.execCrc64 t s
  | .crcprog t => Sys2Proof.Machine.execCrcprog t s
  | .csum t => Sys2Proof.Machine.execCsum t s
  | .csumupd t => Sys2Proof.Machine.execCsumupd t s
  | .brFind t => Sys2Proof.Machine.execBrFind t s
  | .rtSearch t => Sys2Proof.Machine.execRtSearch t s
  | .brInsert t => Sys2Proof.Machine.execBrInsert t s
  | .brDelete t => Sys2Proof.Machine.execBrDelete t s
  | .scan t => Sys2Proof.Machine.execScan t s
  | .quiescenceWake g => Sys2Proof.Machine.execQuiescenceWake g s
  | .rendezvousConfigWrite w => Sys2Proof.Machine.execRendezvousConfigWrite w s
  | .atomicMemoryWrite w v => Sys2Proof.Machine.execAtomicMemoryWrite w v s
  | .orchardRelease owner h => Sys2Proof.Machine.execOrchardRelease owner h s
  | .orchardFree dma h => Sys2Proof.Machine.execOrchardFree dma h s
  | .reclaim h => Sys2Proof.Machine.execReclaim h s
  | .reclaimAll => Sys2Proof.Machine.execReclaimAll s
  | .recover => Sys2Proof.Machine.execRecover s
  | .recoverDone => Sys2Proof.Machine.execRecoverDone s
  | .claim base count => Sys2Proof.Machine.execClaim base count s
  | .unclaim base count => Sys2Proof.Machine.execUnclaim base count s
  | .pilotRegionWrite h image => Sys2Proof.Machine.execPilotRegionWrite h image s
  | .spillMigrate h => Sys2Proof.Machine.execSpillMigrate h s
  | .spillReadDone h => Sys2Proof.Machine.execSpillReadDone h s
  | .chronoTick => Sys2Proof.Machine.execChronoTick s
  | .rateAdjustWrite d v => Sys2Proof.Machine.execRateAdjustWrite d v s
  | .stepOffsetWrite d v => Sys2Proof.Machine.execStepOffsetWrite d v s
  | .ppsInEdge quarter => Sys2Proof.Machine.execPpsInEdge quarter s
  | .ppsMissed => Sys2Proof.Machine.execPpsMissed s
  | .ppsOutEdge => Sys2Proof.Machine.execPpsOutEdge s
  | .ppsOutFall => Sys2Proof.Machine.execPpsOutFall s
  | .tmHandover => Sys2Proof.Machine.execTmHandover s
  | .tmLinkDownDiscard p => Sys2Proof.Machine.execTmLinkDownDiscard p s
  | .tmTxSelect p sent lead => Sys2Proof.Machine.execTmTxSelect p sent lead s
  | .gateEvent p => Sys2Proof.Machine.execGateEvent p s
  | .configChange p v => Sys2Proof.Machine.execConfigChange p v s
  | .configChangeApply p => Sys2Proof.Machine.execConfigChangeApply p s
  | .frerResetTimeout f => Sys2Proof.Machine.execFrerResetTimeout f s
  | .ptpTsRead p => Sys2Proof.Machine.execPtpTsRead p s
  | .gateListWrite p operational entry word => Sys2Proof.Machine.execGateListWrite p operational entry word s
  | .streamQueueWrite pos word => Sys2Proof.Machine.execStreamQueueWrite pos word s
  | .streamFilterWrite pos enable maxSdu blockOnOversize meterEnable meter => Sys2Proof.Machine.execStreamFilterWrite pos enable maxSdu blockOnOversize meterEnable meter s
  | .flowMeterWrite pos cir eir cbs ebs coupling dropOnYellow markRed => Sys2Proof.Machine.execFlowMeterWrite pos cir eir cbs ebs coupling dropOnYellow markRed s
  | .atsShaperWrite pos cir cbs maxResidence => Sys2Proof.Machine.execAtsShaperWrite pos cir cbs maxResidence s
  | .frerRecoveryWrite pos history timeout takeNoSeq strip => Sys2Proof.Machine.execFrerRecoveryWrite pos history timeout takeNoSeq strip s
  | .clearBlock pos => Sys2Proof.Machine.execClearBlock pos s
  | .clearRed pos => Sys2Proof.Machine.execClearRed pos s
  | .multicastGroupWrite g image => Sys2Proof.Machine.execMulticastGroupWrite g image s
  | .halt p => Sys2Proof.Machine.execHalt p s
  | .run p => Sys2Proof.Machine.execRun p s
  | .barrelCodeLoad p image => Sys2Proof.Machine.execBarrelCodeLoad p image s
  | .pinConfigWrite pin w => Sys2Proof.Machine.execPinConfigWrite pin w s
  | .barrelWatchdogExpiry b => Sys2Proof.Machine.execBarrelWatchdogExpiry b s
  | .set b => Sys2Proof.Machine.execSet b s
  | .get b => Sys2Proof.Machine.execGet b s
  | .edge b => Sys2Proof.Machine.execEdge b s
  | .gset b => Sys2Proof.Machine.execGset b s
  | .now b => Sys2Proof.Machine.execNow b s
  | .kick b => Sys2Proof.Machine.execKick b s
  | .timedSetApply => Sys2Proof.Machine.execTimedSetApply s
  | .pinEdgeCapture pin level => Sys2Proof.Machine.execPinEdgeCapture pin level s
  | .txpush b => Sys2Proof.Machine.execTxpush b s
  | .rxpop b => Sys2Proof.Machine.execRxpop b s
  | .ackarm b => Sys2Proof.Machine.execAckarm b s
  | .setstate b => Sys2Proof.Machine.execSetstate b s
  | .txabort b => Sys2Proof.Machine.execTxabort b s
  | .assistEvent u e w n last => Sys2Proof.Machine.execAssistEvent u e w n last s
  | .ackSlotStart u => Sys2Proof.Machine.execAckSlotStart u s
  | .upsub b => Sys2Proof.Machine.execUpsub b s
  | .batchTimeout k => Sys2Proof.Machine.execBatchTimeout k s
  | .bridgeDownlink => Sys2Proof.Machine.execBridgeDownlink s
  | .dntailWrite b r => Sys2Proof.Machine.execDntailWrite b r s
  | .dramTrainStepDone c ok => Sys2Proof.Machine.execDramTrainStepDone c ok s
  | .regionInitDone r => Sys2Proof.Machine.execRegionInitDone r s
  | .periodicCal c => Sys2Proof.Machine.execPeriodicCal c s
  | .dramRequest requester addr write data size => Sys2Proof.Machine.execDramRequest requester addr write data size s
  | .dramReadComplete c sub => Sys2Proof.Machine.execDramReadComplete c sub s
  | .dramWriteDrain c sub => Sys2Proof.Machine.execDramWriteDrain c sub s
  | .ddrAlert c => Sys2Proof.Machine.execDdrAlert c s
  | .refreshDue c sub rank => Sys2Proof.Machine.execRefreshDue c sub rank s
  | .refreshWindowEnd c sub rank b => Sys2Proof.Machine.execRefreshWindowEnd c sub rank b s
  | .powerDownIdle c sub rank => Sys2Proof.Machine.execPowerDownIdle c sub rank s
  | .patrolScrub addr => Sys2Proof.Machine.execPatrolScrub addr s
  | .dramLineWrite line image => Sys2Proof.Machine.execDramLineWrite line image s
  | .dramTimingWrite rec_ v => Sys2Proof.Machine.execDramTimingWrite rec_ v s
  | .dmaPilotDoorbell ch d pair => Sys2Proof.Machine.execDmaPilotDoorbell ch d pair s
  | .dmaAbort ch => Sys2Proof.Machine.execDmaAbort ch s
  | .transferStart => Sys2Proof.Machine.execTransferStart s
  | .transferComplete => Sys2Proof.Machine.execTransferComplete s
  | .cqTailWrite v => Sys2Proof.Machine.execCqTailWrite v s
  | .cqFullTimeout => Sys2Proof.Machine.execCqFullTimeout s
  | .rng n => Sys2Proof.Machine.execRng n s
  | .loadBlob blob => Sys2Proof.Machine.execLoadBlob blob s
  | .mkaDerive h ckn len => Sys2Proof.Machine.execMkaDerive h ckn len s
  | .mkaIcv h mkpdu => Sys2Proof.Machine.execMkaIcv h mkpdu s
  | .sakNew h long => Sys2Proof.Machine.execSakNew h long s
  | .sakUnwrap h wrapped => Sys2Proof.Machine.execSakUnwrap h wrapped s
  | .installSa h p secy sc an salt ssci => Sys2Proof.Machine.execInstallSa h p secy sc an salt ssci s
  | .loadSlot h cluster slot => Sys2Proof.Machine.execLoadSlot h cluster slot s
  | .destroy h => Sys2Proof.Machine.execDestroy h s
  | .verify image => Sys2Proof.Machine.execVerify image s
  | .quote nonce => Sys2Proof.Machine.execQuote nonce s
  | .kwkExport recipient => Sys2Proof.Machine.execKwkExport recipient s
  | .lifeCycleRequest target role => Sys2Proof.Machine.execLifeCycleRequest target role s
  | .lcWriteDone => Sys2Proof.Machine.execLcWriteDone s
  | .quoteNonceWrite nonce => Sys2Proof.Machine.execQuoteNonceWrite nonce s
  | .kwkExportRecipientWrite key role => Sys2Proof.Machine.execKwkExportRecipientWrite key role s
  | .oemKeyRevoke v role => Sys2Proof.Machine.execOemKeyRevoke v role s
  | .otpWrite w v role => Sys2Proof.Machine.execOtpWrite w v role s
  | .keyBlobWrite pos blob => Sys2Proof.Machine.execKeyBlobWrite pos blob s
  | .tamperActionWrite d v => Sys2Proof.Machine.execTamperActionWrite d v s
  | .tamperTrip d => Sys2Proof.Machine.execTamperTrip d s
  | .zeroise v => Sys2Proof.Machine.execZeroise v s
  | .trngHealthFail => Sys2Proof.Machine.execTrngHealthFail s
  | .binnacleBoot trng => Sys2Proof.Machine.execBinnacleBoot trng s
  | .hello => Sys2Proof.Machine.execHello s
  | .openKey => Sys2Proof.Machine.execOpenKey s
  | .openSig => Sys2Proof.Machine.execOpenSig s
  | .close => Sys2Proof.Machine.execClose s
  | .udaRead => Sys2Proof.Machine.execUdaRead s
  | .udaWrite => Sys2Proof.Machine.execUdaWrite s
  | .segRead => Sys2Proof.Machine.execSegRead s
  | .segWrite => Sys2Proof.Machine.execSegWrite s
  | .segWriteTimeout j => Sys2Proof.Machine.execSegWriteTimeout j s
  | .tableRead => Sys2Proof.Machine.execTableRead s
  | .tableWrite => Sys2Proof.Machine.execTableWrite s
  | .flashImageLoad copy image => Sys2Proof.Machine.execFlashImageLoad copy image s
  | .commitStaged => Sys2Proof.Machine.execCommitStaged s
  | .commitImage => Sys2Proof.Machine.execCommitImage s
  | .commitExport => Sys2Proof.Machine.execCommitExport s
  | .commitDone ok => Sys2Proof.Machine.execCommitDone ok s
  | .sessionOpenTimeout j => Sys2Proof.Machine.execSessionOpenTimeout j s
  | .sessionIdleTimeout j => Sys2Proof.Machine.execSessionIdleTimeout j s
  | .udaCanRequest => Sys2Proof.Machine.execUdaCanRequest s
  | .dictWindowLoad t => Sys2Proof.Machine.execDictWindowLoad t s
  | .dictWindowStore t => Sys2Proof.Machine.execDictWindowStore t s
  | .almanacRecordIntake origin => Sys2Proof.Machine.execAlmanacRecordIntake origin s
  | .almanacPost image pilot => Sys2Proof.Machine.execAlmanacPost image pilot s
  | .almanacClear => Sys2Proof.Machine.execAlmanacClear s
  | .flushDelayTimer => Sys2Proof.Machine.execFlushDelayTimer s
  | .flushPageDone failed status => Sys2Proof.Machine.execFlushPageDone failed status s
  | .urgentFlushDone => Sys2Proof.Machine.execUrgentFlushDone s
  | .flashHeadSearchDone => Sys2Proof.Machine.execFlashHeadSearchDone s
  | .aonTimeUpdate => Sys2Proof.Machine.execAonTimeUpdate s
  | .aonTimeTimeout => Sys2Proof.Machine.execAonTimeTimeout s
  | .traceCounterInterval => Sys2Proof.Machine.execTraceCounterInterval s
  | .traceM0FrameTimeout => Sys2Proof.Machine.execTraceM0FrameTimeout s
  | .memoryPassStart => Sys2Proof.Machine.execMemoryPassStart s
  | .memorySlice faults => Sys2Proof.Machine.execMemorySlice faults s
  | .logicSliceInterval => Sys2Proof.Machine.execLogicSliceInterval s
  | .logicSliceStart c => Sys2Proof.Machine.execLogicSliceStart c s
  | .sliceDeferred => Sys2Proof.Machine.execSliceDeferred s
  | .logicSliceDone pass => Sys2Proof.Machine.execLogicSliceDone pass s
  | .helperSliceDone pass => Sys2Proof.Machine.execHelperSliceDone pass s
  | .fullTest v => Sys2Proof.Machine.execFullTest v s
  | .fullTestDone failures => Sys2Proof.Machine.execFullTestDone failures s
  | .faultClassWrite pos v => Sys2Proof.Machine.execFaultClassWrite pos v s
  | .safetyFault report => Sys2Proof.Machine.execSafetyFault report s
  | .safeResetDelayExpiry => Sys2Proof.Machine.execSafeResetDelayExpiry s
  | .safeRelease v => Sys2Proof.Machine.execSafeRelease v s
  | .pilotKick pair => Sys2Proof.Machine.execPilotKick pair s
  | .pilotWatchdogExpiry pair => Sys2Proof.Machine.execPilotWatchdogExpiry pair s
  | .pilotLockstepMismatch pair => Sys2Proof.Machine.execPilotLockstepMismatch pair s
  | .pilotPairRestarted pair => Sys2Proof.Machine.execPilotPairRestarted pair s
  | .deviceKick v => Sys2Proof.Machine.execDeviceKick v s
  | .deviceWdExpiry => Sys2Proof.Machine.execDeviceWdExpiry s
  | .powerOn => Sys2Proof.Machine.execPowerOn s
  | .porst low => Sys2Proof.Machine.execPorst low s
  | .resetRequest v => Sys2Proof.Machine.execResetRequest v s
  | .resetRequestDelay => Sys2Proof.Machine.execResetRequestDelay s
  | .resetRelease => Sys2Proof.Machine.execResetRelease s
  | .pllLock pll => Sys2Proof.Machine.execPllLock pll s
  | .pllLockTimeout pll => Sys2Proof.Machine.execPllLockTimeout pll s
  | .pllLossOfLock pll => Sys2Proof.Machine.execPllLossOfLock pll s
  | .bootFirmwareLoaded => Sys2Proof.Machine.execBootFirmwareLoaded s
  | .bootConfigSelect => Sys2Proof.Machine.execBootConfigSelect s
  | .bootConfigApply => Sys2Proof.Machine.execBootConfigApply s
  | .bootCodeLoad => Sys2Proof.Machine.execBootCodeLoad s
  | .bootRunning => Sys2Proof.Machine.execBootRunning s
  | .pwrfailWarning low => Sys2Proof.Machine.execPwrfailWarning low s
  | .powerFailRecovery => Sys2Proof.Machine.execPowerFailRecovery s
  | .avsStepTimer => Sys2Proof.Machine.execAvsStepTimer s
  | .avsMarginAlarm => Sys2Proof.Machine.execAvsMarginAlarm s
  | .avsRegulatorResponse => Sys2Proof.Machine.execAvsRegulatorResponse s
  | .avsRegulatorTimeout => Sys2Proof.Machine.execAvsRegulatorTimeout s
  | .tapReset low => Sys2Proof.Machine.execTapReset low s
  | .alertNHigh c => Sys2Proof.Machine.execAlertNHigh c s
  | .writeMaxAgeReached c => Sys2Proof.Machine.execWriteMaxAgeReached c s
  | .trngHealthRecovery => Sys2Proof.Machine.execTrngHealthRecovery s
  | .rollbackWriteDone => Sys2Proof.Machine.execRollbackWriteDone s
  | .flashEraseDone failed status => Sys2Proof.Machine.execFlashEraseDone failed status s
  | .blockingLoadData t => Sys2Proof.Machine.execBlockingLoadData t s

end Sys2Proof.Machine
end

