-- ==== Sys2Proof/Safety.lean ====
section
/-! DEFINITION. The terms the statements use: safe steps, a thread that can issue, what an instruction that writes one register leaves,
and the invariants of every step. -/

namespace Sys2Proof.Machine

/-- The step ends neither in a fault nor in a refusal. -/
def Safe (s : State) : Prop := ∃ t, step s = .next t

/-- The command answers a next state of which `P` holds. -/
def Leads (o : Host.Outcome State Fault Refusal) (P : State → Prop) : Prop := ∃ u, o = .next u ∧ P u

/-- Thread t issues instruction i: it is READY, its cluster's issue does not stand still, its PC lies within code, and the word there is
the instruction's, is not reserved and meets no uncorrectable error. R16, R177, R181, R219, R227. -/
def State.CanIssue (s : State) (t : Nat) (i : Instr) : Prop :=
  (s.thread t).st = .ready ∧ s.issueStopped t = false ∧ (s.thread t).pc ≤ codeTop t
    ∧ (s.codeKey t).bind (fun k => s.badIn k 4) = none
    ∧ ∃ w, wordOf i = some w ∧ s.fetchWord t w = w ∧ reservedCause t w = none

/-- Where thread t issues instruction i, the command answers a next state of which `P` holds. -/
def State.Runs (s : State) (t : Nat) (i : Instr) (P : State → Prop) : Prop := s.CanIssue t i → Leads (exec i s) P

/-- The PC after the instruction at the PC of x has retired with `next` as its next address: the last instruction of the innermost
loop body goes back to the first while more than one pass remains and EXL is 0. R244. -/
def Thread.pcAfter (x : Thread) (next : Nat) : Nat :=
  match x.loops with
  | [] => next
  | c :: _ => if x.exl = false ∧ x.pc = c.last ∧ 1 < c.remaining then c.start else next

/-- What no instruction of thread t but an end, a trap or a memory access touches: the other threads, all memory, and of the thread
its special registers, reply registers, work item, window and descriptor. -/
structure State.Frame (s u : State) (t : Nat) : Prop where
  others : ∀ v, v ≠ t → u.thread v = s.thread v
  mem : u.mem = s.mem
  set0 : (u.thread t).set0 = (s.thread t).set0
  set1 : (u.thread t).set1 = (s.thread t).set1
  item : (u.thread t).item = (s.thread t).item
  window : (u.thread t).window = (s.thread t).window
  desc : (u.thread t).desc = (s.thread t).desc
  ev : (u.thread t).ev = (s.thread t).ev
  hregs : (u.thread t).hregs = (s.thread t).hregs

/-- u is s after an instruction of thread t that writes v into register rd, leaves the status word w and retires with `next` as its next
address: register w0 stays 0, and every other register keeps its value. R203, R244. -/
structure State.Ran (s u : State) (t rd : Nat) (v : Word) (w : BitVec 32) (next : Nat) : Prop where
  regs : ∀ r, (u.thread t).reg r = if r = rd ∧ r ≠ 0 then v else (s.thread t).reg r
  tsw : (u.thread t).tsw = w
  pc : (u.thread t).pc = (s.thread t).pcAfter next
  ready : (u.thread t).st = .ready
  frame : s.Frame u t

/-- The same for an instruction that goes on to the one after it. -/
abbrev State.Wrote (s u : State) (t rd : Nat) (v : Word) (w : BitVec 32) : Prop := s.Ran u t rd v w ((s.thread t).pc + 4)

/-- u is s after a load of n bytes into rd (a doubleword into rd and rd + 1) by thread t. R203, R240. -/
structure State.Loaded (s u : State) (t rd n : Nat) (signed : Bool) (bs : List Byte) : Prop where
  regs : ∀ r, (u.thread t).reg r =
    if r = 0 then 0#32
    else if r = rd then (if signed then BitVec.ofInt 32 (toSigned (8 * n) (ofLE bs)) else BitVec.ofNat 32 (ofLE bs))
    else if n = 8 ∧ r = rd + 1 then BitVec.ofNat 32 (ofLE bs / 2 ^ 32)
    else (s.thread t).reg r
  tsw : (u.thread t).tsw = (s.thread t).tsw
  pc : (u.thread t).pc = (s.thread t).pcAfter ((s.thread t).pc + 4)
  ready : (u.thread t).st = .ready
  frame : s.Frame u t

/-- The memory of u is that of s but for the bytes stored at each of some keys, in their order: the two data RAMs of a lockstep pair.
R195. -/
def State.StoredAt (s u : State) (keys : List Nat) (bs : List Byte) : Prop :=
  ∀ k, mget u.mem k = match keys.reverse.find? (fun b => decide (b ≤ k) && decide (k < b + bs.length)) with
    | some b => bs.getD (k - b) 0#8
    | none => mget s.mem k

/-- The memory of u is that of s but for the bytes stored at a key. -/
def State.Stored (s u : State) (key : Nat) (bs : List Byte) : Prop :=
  ∀ k, mget u.mem k = if key ≤ k then bs.getD (k - key) (mget s.mem k) else mget s.mem k

/-- No store of the thread's core waits in the store buffer for a byte of the access, and no word it meets is in error.
R177, R190. -/
def State.Clear (s : State) (t a n : Nat) : Prop :=
  (s.core (coreOf t)).sb.all (fun e => !e.overlaps a n) = true
    ∧ s.badRam t a n = none

/-- No word of thread t's header window is in error. R177. -/
def State.WindowSound (s : State) (t : Nat) : Prop := (s.thread t).wbad = []

/-- The thread has sent request of reply register m and goes on: its registers, PC and status are those of a retired instruction that
writes none. R187, R206. -/
structure State.Sent (s u : State) (t : Nat) : Prop where
  regs : ∀ r, (u.thread t).reg r = (s.thread t).reg r
  tsw : (u.thread t).tsw = (s.thread t).tsw
  pc : (u.thread t).pc = (s.thread t).pcAfter ((s.thread t).pc + 4)
  ready : (u.thread t).st = .ready
  item : (u.thread t).item = (s.thread t).item
  mem : u.mem = s.mem

/-- No wake-up stands in the crossing from DX to thread t's island. R18, R292. -/
def State.NoSignal (s : State) (t : Nat) : Prop := ∀ e ∈ s.fromDx (crossOf t), ∀ b, e.2 ≠ .signal b

/-- Of the events r that stand behind one in a crossing to DX, the first waits for a command of its own, so that none is sampled with the
one before it. R18. -/
def State.Wait (s : State) (r : List (Nat × ToDx)) : Prop := ∀ e, r.head? = some e → s.samplesNow e.2 = false

/-- A reply of a unit on its way to reply register m of the thread's set: source, status, data. R206, R275. -/
def State.Replied (u : State) (s : State) (t m source status : Nat) (data : Word) : Prop :=
  u.rp t (s.thread t).second m = .flying ⟨BitVec.ofNat 32 (source * 2 ^ 28 + status * 256), data⟩ [] 0

/-- Where thread t issues request i, reply register m is empty and nothing stands ahead in its crossing to DX, so that DX samples the
request at once, the command answers a next state of which `P` holds. R18, R187, R206. -/
def State.Requests (s : State) (t m : Nat) (i : Instr) (P : State → Prop) : Prop :=
  s.rp t (s.thread t).second m = .empty → s.toDx (crossOf t) = [] → s.Runs t i P

/-- A status word with Z, N, C and OV replaced; none: the flag keeps its value. R221. -/
def withFlags (w : BitVec 32) (z n : Bool) (c v : Option Bool) : BitVec 32 :=
  let w := putBit (putBit w 0 z) 1 n
  let w := match c with
    | some b => putBit w 2 b
    | none => w
  match v with
  | some b => putBit w 3 b
  | none => w

/-- The handler of thread t is entered with an exception code, cause and EADDR: EPC, ECODE and EADDR are saved in the set in force, EXL
is 1 and the PC is TVEC. R216 to R219. -/
structure State.Trapped (s u : State) (t code cause : Nat) (eaddr : BitVec 32) (epc : Nat) : Prop where
  pc : (u.thread t).pc = (s.thread t).sregs.tvec.toNat
  epc : (u.thread t).sregs.epc = BitVec.ofNat 32 epc
  ecode : (u.thread t).sregs.ecode = BitVec.ofNat 32 (cause * 256 + code)
  eaddr : (u.thread t).sregs.eaddr = eaddr
  tsw : (u.thread t).tsw = (s.thread t).tsw ||| 0x00800000#32
  regs : (u.thread t).regs = (s.thread t).regs
  ready : (u.thread t).st = .ready
  others : ∀ v, v ≠ t → u.thread v = s.thread v
  mem : u.mem = s.mem

/-- A vectored exception of thread t enters its handler: TVEC is nonzero and EXL is 0. R216, R217. -/
def State.CanTrap (s : State) (t : Nat) : Prop := (s.thread t).sregs.tvec ≠ 0#32 ∧ (s.thread t).exl = false

/-- A bit of the one-time-programmable memory. R427. -/
def State.otpBit (s : State) (w i : Nat) : Bool := (s.otpWord w).testBit i

/-- A key put into slot i of the key store, which was free: the other slots keep what they hold. R419. -/
def State.Keeps (s u : State) (i usage keyId : Nat) (key : List Byte) : Prop :=
  i < 256 ∧ (s.keyEntry i).used = false ∧ u.keyEntry i = ⟨true, (s.keyEntry i).gen, usage, keyId, key⟩ ∧
    ∀ j, j ≠ i → u.keyEntry j = s.keyEntry j

/-- The word of a Sounding result of the present instant: memory, instance, word, bit, value read, outcome. R503. -/
def State.resultWord (s : State) (mem inst word bit_ stuck outcome : Nat) : Nat :=
  mem * 2 ^ 120 + inst * 2 ^ 112 + word * 2 ^ 80 + bit_ * 2 ^ 72 + stuck * 2 ^ 71 + outcome * 2 ^ 68 + s.domainNs 0 % 2 ^ 64

/-- Nothing waits for the end of an OTP write. R413, R435, R522. -/
def State.NoneWaits (s : State) : Prop := s.bin.zeroWait = none ∧ s.bin.trips = [] ∧ s.boot.waiting = []

/-- No session has a request waiting but behind a commit that the Pilot holds. R454. -/
def State.Settled (s : State) : Prop := ∀ k, s.pilotHolds k = true ∨ (s.session k).waiting = []

/-- The head of the engine's queue is a well-formed request r of a row, under the Mac of open session j. R450, R453. -/
structure State.Signs (s : State) (r : UdaReq) (rest : List UdaReq) (row j : Nat) : Prop where
  head : s.uda.engineQ = r :: rest
  formed : wellFormedMsg r.msg = true
  row : rowOf r.msg = row
  keyed : hasMac r.msg = true
  found : s.findSession 2 (msgSession r.msg) = some j
  mac : kmac256 (s.session j).kc (r.msg.take (16 + msgLength r.msg)) 16 (ascii "CHATIA-UDA") = r.msg.drop (16 + msgLength r.msg)
  settled : s.Settled

/-- The same with a Sequence that is new, and no commit of the session under way. R453, R454. -/
structure State.Asks (s : State) (r : UdaReq) (rest : List UdaReq) (row j : Nat) : Prop extends State.Signs s r rest row j where
  fresh : (s.session j).judge (msgSequence r.msg) = .above ∨ (s.session j).judge (msgSequence r.msg) = .within
  free : s.pilotHolds j = false

/-- The state in which such a request is carried out: off the queue, the session's Sequence and instant accepted, Requests counted.
R453, R463. -/
def State.taken (s : State) (r : UdaReq) (rest : List UdaReq) (j : Nat) : State :=
  let x := { s.session j with at_ := s.now }
  let s := { s with uda := { s.uda with engineQ := rest } }
  ((s.setSession j x).setSession j (x.accept (msgSequence r.msg))).bump K.ctrUdaRequests

/-- The session's response to r, of type ty, is the last it keeps, and r is off the queue. R445, R453. -/
def State.Answered (u : State) (r : UdaReq) (rest : List UdaReq) (j ty id : Nat) (kd body : List Byte) : Prop :=
  (u.session j).cache.head? = some (msgSequence r.msg, udaMsg ty id (msgSequence r.msg) body kd) ∧ u.uda.engineQ = rest

end Sys2Proof.Machine
end

