-- ==== Sys2Proof/Certificates/Slice0/Obligations.lean ====
section
/-! DEFINITION. The statements for the provers: what commands do (completion, results, frames), what every step keeps, and what reset
leaves. A statement rests on the rules its entry in OBLIGATIONS.json cites; a clause that rests on a choice of the model names its log
entry. -/

open Sys2Proof Sys2Proof.Machine

/-- For every command, state and rest of the queue, step with the command at the front is exec of it on the state that holds the
rest. (00_scope.md) -/
def Obligations.StepRunsFront : Prop :=
  ∀ (c : Instr) (s : State) (rest : List Instr), step { s with pending := c :: rest } = exec c { s with pending := rest }

/-- In every state a step answers a next state, neither a fault nor a refusal; with an empty queue that state is the same (log
entry 2). (00_scope.md) -/
def Obligations.EveryCommandIsAnswered : Prop :=
  (∀ s : State, Safe s) ∧ (∀ s : State, s.pending = [] → step s = .next s)

/-- For every state, when a step answers a next state, the queue there is the queue without its front, and the variant is the
same: no command puts a command into the queue or takes a second one from it. (00_scope.md) -/
def Obligations.StepTakesOneCommand : Prop :=
  ∀ s t : State, step s = .next t → t.pending = s.pending.tail ∧ t.variant = s.variant

/-- For every state whose memory is in canonical form (addresses strictly rising, no entry equal to what an unlisted byte reads
as), when a step answers a next state, its memory is in canonical form: two states whose bytes are equal hold equal memories.
(01_architecture.md) -/
def Obligations.MemoryStaysCanonical : Prop :=
  ∀ s t : State, Memory.wf s.mem = true → step s = .next t → Memory.wf t.mem = true

/-- For every bit of OTP and every state in which it is 1, when a step answers a next state, it is 1 there: no command, reset,
zeroisation or power-on changes an OTP bit from 1 to 0 (R414). (18_binnacle.md) -/
def Obligations.OtpBitsNeverClear : Prop :=
  ∀ (s t : State) (w i : Nat), s.otpBit w i = true → step s = .next t → t.otpBit w i = true

/-- In the state after reset no command waits, memory is canonical and lists nothing, internal reset is released and no boot
step has ended, the safe-state outputs are low, no fault is latched, the measurement registers are zero, no session is open, no
UDA request waits, and UdaPort is 24017. (23_power_reset_boot.md, 18_binnacle.md, 22_sounding_safety.md, 19_urros_uda.md) -/
def Obligations.ResetState : Prop :=
  let z := State.reset
  z.pending = [] ∧ Memory.wf z.mem = true ∧ z.mem = [] ∧ z.boot.asserted = false ∧ z.boot.step = 0 ∧ z.saf.safeOut = false ∧
    z.rd K.safFaultStatus = 0 ∧ (∀ i : Fin 4, slice (z.octetsOf (K.binMR i)) 0 64 = List.replicate 64 0#8) ∧
    z.uda.sessions = [] ∧ z.uda.engineQ = [] ∧ z.rd K.udaUdaPort = 24017

/-- For every state in which the thread can issue, each of ADD, ADDC, SUB, SUBB, NEG, CMP and CMPI answers a next state in which
rd holds the sum or difference (w0 stays 0; CMP and CMPI write none), the flags are those of R221 when the S bit is set (always
for CMP and CMPI) and unchanged otherwise, the PC has moved on, and every other register, the special registers, the other
threads and memory are unchanged. (10_wenkin_encoding.md, 09_wenkin_programming_model.md) -/
def Obligations.AddSubtractWrites : Prop :=
  ∀ (s : State) (t : Fin 580) (rd ra rb : Fin 32) (f : Bool) (imm : BitVec 16),
    let x := s.thread t
    let a := x.reg ra
    let b := x.reg rb
    let c := b2n (x.tsw.getLsbD 2)
    let i := imm.signExtend 32
    let out (n : Int) : Bool := decide (n < -2 ^ 31 ∨ 2 ^ 31 ≤ n)
    let fl (v : Word) (cy ov : Bool) : BitVec 32 := withFlags x.tsw (v == 0#32) v.msb (some cy) (some ov)
    let w (v : Word) (cy ov : Bool) : BitVec 32 := if f then fl v cy ov else x.tsw
    let sum := a + b
    let sumc := a + b + BitVec.ofNat 32 c
    let dif := a - b
    let difc := a - b - BitVec.ofNat 32 c
    s.Runs t (.add t rd ra rb f) (fun u => s.Wrote u t rd sum
      (w sum (decide (2 ^ 32 ≤ a.toNat + b.toNat)) (out (a.toInt + b.toInt)))) ∧
    s.Runs t (.addc t rd ra rb f) (fun u => s.Wrote u t rd sumc
      (w sumc (decide (2 ^ 32 ≤ a.toNat + b.toNat + c)) (out (a.toInt + b.toInt + c)))) ∧
    s.Runs t (.sub t rd ra rb f) (fun u => s.Wrote u t rd dif
      (w dif (decide (a.toNat < b.toNat)) (out (a.toInt - b.toInt)))) ∧
    s.Runs t (.subb t rd ra rb f) (fun u => s.Wrote u t rd difc
      (w difc (decide (a.toNat < b.toNat + c)) (out (a.toInt - b.toInt - c)))) ∧
    s.Runs t (.neg t rd ra f) (fun u => s.Wrote u t rd (-a)
      (w (-a) (decide (a ≠ 0#32)) (decide (a = 0x80000000#32)))) ∧
    s.Runs t (.cmp t ra rb) (fun u => s.Wrote u t 0 0#32
      (fl dif (decide (a.toNat < b.toNat)) (out (a.toInt - b.toInt)))) ∧
    s.Runs t (.cmpi t ra imm) (fun u => s.Wrote u t 0 0#32
      (fl (a - i) (decide (a.toNat < i.toNat)) (out (a.toInt - i.toInt))))

/-- For every state in which the thread can issue, each of AND, OR, XOR, ANDN, NOT, SHL, SHR, ASR, ROR and ROL answers a next
state with the result of the operands in rd, the flags of R221 and R224 when the S bit is set (a shift by 0 and a rotate leave
C; a shift beyond the width gives its limit), and the frame of a one-register instruction. (10_wenkin_encoding.md,
09_wenkin_programming_model.md) -/
def Obligations.LogicAndShiftsWrite : Prop :=
  ∀ (s : State) (t : Fin 580) (rd ra rb : Fin 32) (f : Bool),
    let x := s.thread t
    let a := x.reg ra
    let b := x.reg rb
    let n := b.toNat
    let w (v : Word) (c : Option Bool) : BitVec 32 := if f then withFlags x.tsw (v == 0#32) v.msb c none else x.tsw
    let sh (c : Bool) : Option Bool := if n = 0 then none else some c
    let is (j : Instr) (v : Word) (c : Option Bool) : Prop :=
      s.Runs t j fun u => s.Wrote u t rd v (w v c)
    is (.and t rd ra rb f) (a &&& b) none ∧
    is (.or t rd ra rb f) (a ||| b) none ∧
    is (.xor t rd ra rb f) (a ^^^ b) none ∧
    is (.andn t rd ra rb f) (a &&& ~~~b) none ∧
    is (.not t rd ra f) (~~~a) none ∧
    is (.shl t rd ra rb f) (if n < 32 then a <<< n else 0#32) (sh (decide (n ≤ 32) && a.getLsbD (32 - n))) ∧
    is (.shr t rd ra rb f) (if n < 32 then a >>> n else 0#32) (sh (decide (n ≤ 32) && a.getLsbD (n - 1))) ∧
    is (.asr t rd ra rb f) (a.sshiftRight (min n 31)) (sh (if n < 32 then a.getLsbD (n - 1) else a.msb)) ∧
    is (.ror t rd ra rb f) (a.rotateRight (n % 32)) none ∧
    is (.rol t rd ra rb f) (a.rotateLeft (n % 32)) none

/-- For every state in which the thread can issue, each of the thirteen instructions answers a next state with its result in rd,
the status word unchanged, and the frame of a one-register instruction. CLZ counts the zero bits above the highest set bit (32
for 0) and POPC the set bits. For every state in which the thread can issue, each immediate instruction answers a next state
with its result in rd (ADDI sign-extends its immediate, the logical ones zero-extend it, LUI places it in the upper half), the
status word unchanged, and the frame of a one-register instruction. (10_wenkin_encoding.md) -/
def Obligations.SelectsAndImmediatesWrite : Prop :=
  (
  ∀ (s : State) (t : Fin 580) (rd ra rb : Fin 32),
    let a := (s.thread t).reg ra
    let b := (s.thread t).reg rb
    let is (j : Instr) (v : Word) : Prop :=
      s.Runs t j fun u => s.Wrote u t rd v (s.thread t).tsw
    let by_ (i : Nat) : Word := (a >>> (8 * i)) &&& 0xFF#32
    is (.min t rd ra rb) (if a.toInt < b.toInt then a else b) ∧
    is (.max t rd ra rb) (if a.toInt < b.toInt then b else a) ∧
    is (.minu t rd ra rb) (if a.toNat < b.toNat then a else b) ∧
    is (.maxu t rd ra rb) (if a.toNat < b.toNat then b else a) ∧
    is (.slt t rd ra rb) (if a.toInt < b.toInt then 1#32 else 0#32) ∧
    is (.sltu t rd ra rb) (if a.toNat < b.toNat then 1#32 else 0#32) ∧
    is (.clz t rd ra) (BitVec.ofNat 32 (if a = 0#32 then 32 else 31 - a.toNat.log2)) ∧
    is (.popc t rd ra) (BitVec.ofNat 32 ((List.range 32).filter fun i => a.getLsbD i).length) ∧
    is (.bswap t rd ra) ((by_ 0 <<< 24) ||| (by_ 1 <<< 16) ||| (by_ 2 <<< 8) ||| by_ 3) ∧
    is (.bswaph t rd ra) ((by_ 2 <<< 24) ||| (by_ 3 <<< 16) ||| (by_ 0 <<< 8) ||| by_ 1) ∧
    is (.sextb t rd ra) ((a.setWidth 8).signExtend 32) ∧
    is (.sexth t rd ra) ((a.setWidth 16).signExtend 32) ∧
    is (.zexth t rd ra) (a &&& 0xFFFF#32)) ∧
  (
  ∀ (s : State) (t : Fin 580) (rd ra : Fin 32) (imm : BitVec 16),
    let a := (s.thread t).reg ra
    let n := imm.toNat
    let z : Word := imm.setWidth 32
    let is (j : Instr) (v : Word) : Prop :=
      s.Runs t j fun u => s.Wrote u t rd v (s.thread t).tsw
    is (.addi t rd ra imm) (a + imm.signExtend 32) ∧
    is (.andi t rd ra imm) (a &&& z) ∧
    is (.ori t rd ra imm) (a ||| z) ∧
    is (.xori t rd ra imm) (a ^^^ z) ∧
    is (.shli t rd ra imm) (if n < 32 then a <<< n else 0#32) ∧
    is (.shri t rd ra imm) (if n < 32 then a >>> n else 0#32) ∧
    is (.asri t rd ra imm) (a.sshiftRight (min n 31)) ∧
    is (.rori t rd ra imm) (a.rotateRight (n % 32)) ∧
    is (.lui t rd imm) (z <<< 16))

/-- For every state in which the thread can issue, MUL puts the low word of the product into rd and, with the S bit, Z and N of
that word and OV when the signed product does not fit in 32 bits (C keeps its value); MULH and MULHU put the high word of the
signed and of the unsigned product into rd and leave the status word. Every other register, the special registers, the other
threads and memory are unchanged. (R223) -/
def Obligations.MultiplyGivesTheProduct : Prop :=
  ∀ (s : State) (t : Fin 580) (rd ra rb : Fin 32) (f : Bool),
    let x := s.thread t
    let a := x.reg ra
    let b := x.reg rb
    let p := a.toInt * b.toInt
    let m := BitVec.ofInt 32 p
    s.Runs t (.mul t rd ra rb f) (fun u => s.Wrote u t rd m
      (if f then withFlags x.tsw (m == 0#32) m.msb none (some (decide (p < -2 ^ 31 ∨ 2 ^ 31 ≤ p))) else x.tsw)) ∧
    s.Runs t (.mulh t rd ra rb) (fun u => s.Wrote u t rd (BitVec.ofInt 32 (p / 2 ^ 32)) x.tsw) ∧
    s.Runs t (.mulhu t rd ra rb) (fun u => s.Wrote u t rd (BitVec.ofNat 32 (a.toNat * b.toNat / 2 ^ 32)) x.tsw)

/-- DIV and DIVU of an even rd take a free divider with their operands and hold the thread. DIVIDE_COMPLETE of a divide by a
nonzero divisor frees the divider and leaves the quotient in rd (discarded for w0) and the remainder in rd + 1; a divide by zero
without TRAP_DZ leaves all ones and the dividend and sets DZ; with TRAP_DZ the thread's handler is entered with DIVIDE_TRAP.
(10_wenkin_encoding.md, 09_wenkin_programming_model.md, 08_wenkin_core.md) -/
def Obligations.DividesTakeTheDivider : Prop :=
  (∀ (s : State) (t : Fin 580) (rd ra rb : Fin 32),
    let x := s.thread t
    let a := x.reg ra
    let b := x.reg rb
    rd.val % 2 = 0 → (s.core (coreOf t)).div = none →
      s.Runs t (.div t rd ra rb) (fun u => (u.core (coreOf t)).div = some ⟨t, rd, a, b, true⟩ ∧
        (u.thread t).st = .held .dividing ∧ (u.thread t).regs = x.regs ∧ (u.thread t).pc = x.pc ∧ s.Frame u t) ∧
      s.Runs t (.divu t rd ra rb) (fun u => (u.core (coreOf t)).div = some ⟨t, rd, a, b, false⟩ ∧
        (u.thread t).st = .held .dividing ∧ (u.thread t).regs = x.regs ∧ (u.thread t).pc = x.pc ∧ s.Frame u t)) ∧
  (∀ (s : State) (c : Fin 72) (d : DivOp), (s.core c).div = some d →
    let x := s.thread d.tid
    let q := if d.signed then d.a.toInt.tdiv d.b.toInt else (d.a.toNat / d.b.toNat : Nat)
    let r := if d.signed then d.a.toInt.tmod d.b.toInt else (d.a.toNat % d.b.toNat : Nat)
    (d.b ≠ 0#32 →
      Leads (exec (.divideComplete c) s) fun u => (u.core c).div = none ∧ (u.thread d.tid).st = .ready ∧
        (u.thread d.tid).reg d.rd = (if d.rd = 0 then 0#32 else BitVec.ofInt 32 q) ∧ (u.thread d.tid).reg (d.rd + 1) = BitVec.ofInt 32 r ∧
        (u.thread d.tid).tsw.getLsbD 4 = false ∧ u.mem = s.mem) ∧
    (d.b = 0#32 → x.trapDz = false →
      Leads (exec (.divideComplete c) s) fun u => (u.core c).div = none ∧ (u.thread d.tid).st = .ready ∧
        (u.thread d.tid).reg d.rd = (if d.rd = 0 then 0#32 else 0xFFFFFFFF#32) ∧ (u.thread d.tid).reg (d.rd + 1) = d.a ∧
        (u.thread d.tid).tsw.getLsbD 4 = true ∧ u.mem = s.mem) ∧
    (d.b = 0#32 → x.trapDz = true → s.CanTrap d.tid →
      Leads (exec (.divideComplete c) s) fun u => (u.core c).div = none ∧ (u.thread d.tid).pc = x.sregs.tvec.toNat ∧
        (u.thread d.tid).regs = x.regs ∧ (u.thread d.tid).sregs.ecode = 0x004#32 ∧
        (u.thread d.tid).sregs.epc = BitVec.ofNat 32 x.pc ∧ (u.thread d.tid).tsw.getLsbD 4 = true ∧ u.mem = s.mem))

/-- On operands whose packed digits are valid, each decimal instruction answers a next state with its result in rd, Z set by the
result, OV 0 (BIN2BCD: 1 when the value exceeds 99,999,999), C the decimal carry or borrow (BIN2BCD: 0; the conversions leave
it), and the frame of a one-register instruction. An operand with an invalid digit gives 0 with OV 1.
(09_wenkin_programming_model.md, 10_wenkin_encoding.md) -/
def Obligations.DecimalWrites : Prop :=
  ∀ (s : State) (t : Fin 580) (rd ra rb : Fin 32),
    let x := s.thread t
    let a := x.reg ra
    let b := x.reg rb
    let cin := b2n (x.tsw.getLsbD 2)
    let is (j : Instr) (v : Word) (ov : Bool) (c : Option Bool) : Prop :=
      s.Runs t j fun u => s.Wrote u t rd v (withFlags x.tsw (v == 0#32) (x.tsw.getLsbD 1) c (some ov))
    let dec (n : Nat) : Word := BitVec.ofNat 32 (toBcd 8 (n % 10 ^ 8))
    let wn (v : Word) : BitVec 32 := withFlags x.tsw (v == 0#32) (x.tsw.getLsbD 1) none (some false)
    (∀ m n, bcdVal 8 a.toNat = some m → bcdVal 8 b.toNat = some n →
      is (.dadd t rd ra rb) (dec (m + n)) false (some (decide (10 ^ 8 ≤ m + n))) ∧
      is (.daddc t rd ra rb) (dec (m + n + cin)) false (some (decide (10 ^ 8 ≤ m + n + cin))) ∧
      is (.dsub t rd ra rb) (dec (m + 10 ^ 8 - n)) false (some (decide (m < n)))) ∧
    (bcdVal 8 a.toNat = none ∨ bcdVal 8 b.toNat = none →
      is (.dadd t rd ra rb) 0#32 true (some false) ∧
      is (.daddc t rd ra rb) 0#32 true (some false) ∧
      is (.dsub t rd ra rb) 0#32 true (some false)) ∧
    is (.bin2bcd t rd ra) (dec a.toNat) (decide (99999999 < a.toNat)) (some false) ∧
    (∀ m, bcdVal 8 a.toNat = some m → is (.bcd2bin t rd ra) (BitVec.ofNat 32 m) false none) ∧
    (bcdVal 8 a.toNat ≠ none → s.Runs t (.digasc t rd ra) fun u => ∃ v, s.Wrote u t rd v (wn v) ∧
      ∀ i, i < 4 → (v >>> (8 * i)) &&& 0xFF#32 = 0x30#32 + ((a >>> (4 * (3 - i))) &&& 0xF#32)) ∧
    ((∀ i, i < 4 → 0x30#32 ≤ (a >>> (8 * i)) &&& 0xFF#32 ∧ (a >>> (8 * i)) &&& 0xFF#32 ≤ 0x39#32) →
      s.Runs t (.ascdig t rd ra) fun u => ∃ v, s.Wrote u t rd v (wn v) ∧ v.toNat < 2 ^ 16 ∧
        ∀ i, i < 4 → 0x30#32 + ((v >>> (4 * (3 - i))) &&& 0xF#32) = (a >>> (8 * i)) &&& 0xFF#32)

/-- A load whose address is aligned and wholly within the thread's data RAM, with no waiting store and no word in error on it
(of a lockstep pair, in either RAM), answers a next state in which rd (for LD an even rd, and rd + 1) holds the little-endian
bytes of memory, sign-extended by LB and LH; a load within the W bytes of a packet thread's header window that holds no error
takes the window's bytes, and one within the descriptor the descriptor's. Every other register, the status word, memory and the
other threads are unchanged. (10_wenkin_encoding.md, 09_wenkin_programming_model.md, 08_wenkin_core.md) -/
def Obligations.LoadsRetire : Prop :=
  ∀ (s : State) (t : Fin 580) (rd ra : Fin 32) (imm : BitVec 16) (i : Instr) (n : Nat) (sg : Bool),
    (i, n, sg) ∈ [(Instr.lb t rd ra imm, 1, true), (.lbu t rd ra imm, 1, false), (.lh t rd ra imm, 2, true),
      (.lhu t rd ra imm, 2, false), (.lw t rd ra imm, 4, false), (.ld t rd ra imm, 8, false)] →
    (n = 8 → rd.val % 2 = 0) →
    let x := s.thread t
    let a := (x.reg ra + imm.signExtend 32).toNat
    (a + n ≤ ramTop t → a % n = 0 → s.Clear t a n →
      s.Runs t i fun u => s.Loaded u t rd n sg (s.loadBytes (ramBase t).1 ((ramBase t).2 + a) n)) ∧
    (t.val < 512 → 0x10000 ≤ a → a - 0x10000 + n ≤ s.windowBytes t → s.windowBytes t ≤ 256 → s.WindowSound t →
      s.Runs t i fun u => s.Loaded u t rd n sg (slice x.window (a - 0x10000) n)) ∧
    (t.val < 512 → 0x10100 ≤ a → a + n ≤ 0x10130 → s.windowBytes t ≠ 0 →
      s.Runs t i fun u => s.Loaded u t rd n sg (slice x.descBytes (a - 0x10100) n))

/-- A load of shared memory or, at 4 or 8 bytes, of atomic memory leaves the thread BLOCKED at the same PC; where nothing stands
ahead of it in the crossing to DX it holds the bytes that were in memory (and the doubleword in error it met), where an event
that waits for its command stands ahead it is last in the crossing. BLOCKING_LOAD_DATA writes the bytes that have come to the
thread's registers and retires it. LD from the dictionary window by a thread with the DICT right and an empty RP3 leaves it
BLOCKED on the window. (08_wenkin_core.md, 10_wenkin_encoding.md, 12_rendezvous.md) -/
def Obligations.BlockingLoadsRetire : Prop :=
  (∀ (s : State) (t : Fin 580) (rd ra : Fin 32) (imm : BitVec 16) (i : Instr) (n : Nat) (sg : Bool),
    (i, n, sg) ∈ [(Instr.lb t rd ra imm, 1, true), (.lbu t rd ra imm, 1, false), (.lh t rd ra imm, 2, true),
      (.lhu t rd ra imm, 2, false), (.lw t rd ra imm, 4, false), (.ld t rd ra imm, 8, false)] →
    (n = 8 → rd.val % 2 = 0) →
    let x := s.thread t
    let a := (x.reg ra + imm.signExtend 32).toNat
    (t.val < 512 → 0x20000 ≤ a → a + n ≤ 0x60000 → a % n = 0 →
      s.badIn (memKey .shared (262144 * clusterOf t + (a - 0x20000))) n = none →
      s.Runs t i fun u => u.mem = s.mem ∧ (u.thread t).pc = x.pc ∧ (u.thread t).regs = x.regs ∧
        (u.thread t).st = .blocked (.load ⟨rd, sg, n, s.loadBytes .shared (262144 * clusterOf t + (a - 0x20000)) n, none⟩)) ∧
    (4 ≤ n → 0x20000000 ≤ a → a + n ≤ 0x20010000 → a % n = 0 → s.toDx (crossOf t) = [] →
      let w := (a - 0x20000000) / 8
      s.Runs t i fun u => u.mem = s.mem ∧ (u.thread t).pc = x.pc ∧ (u.thread t).regs = x.regs ∧
        (t.val, FromDx.loaded) ∈ u.fromDx (crossOf t) ∧ u.toDx (crossOf t) = [] ∧
        (u.thread t).st = .blocked (.load ⟨rd, sg, n, s.loadBytes .atomic (a - 0x20000000) n,
          if w ∈ s.rdv.badAtomic then some (8, w) else none⟩)) ∧
    (4 ≤ n → 0x20000000 ≤ a → a + n ≤ 0x20010000 → a % n = 0 → ∀ v m r, s.toDx (crossOf t) = (v, m) :: r → s.samplesNow m = false →
      s.Runs t i fun u => u.mem = s.mem ∧ (u.thread t).pc = x.pc ∧ (u.thread t).regs = x.regs ∧
        u.toDx (crossOf t) = s.toDx (crossOf t) ++ [(t.val, .load (a - 0x20000000) n)] ∧
        (u.thread t).st = .blocked (.load ⟨rd, sg, n, [], none⟩)) ∧
    (n = 8 → 0x40000000 ≤ a → a + n ≤ 0x48000000 → a % 8 = 0 → s.dictRight t = true → s.rp t x.second 3 = .empty →
      s.Runs t i fun u => u.mem = s.mem ∧ (u.thread t).pc = x.pc ∧ (u.thread t).regs = x.regs ∧
        (u.thread t).st = .blocked (.dictLoad a rd))) ∧
  (∀ (s : State) (t : Fin 580) (l : PendLoad), (s.thread t).st = .blocked (.load l) → l.bad = none →
    (l.size = 8 → l.rd % 2 = 0) → s.loadCrosses t = false → s.NoSignal t →
    Leads (exec (.blockingLoadData t) s) fun u => s.Loaded u t l.rd l.size l.signed l.data)

/-- A store of a packet thread to its data RAM enters the last of at most 8 store-buffer entries and leaves memory alone;
STORE_BUFFER_DRAIN writes the oldest entry's bytes to the core's data RAM, of a lockstep pair to both, and no other byte. A
store of a barrel thread or Pilot core to its data RAM, and a store to shared memory or, with nothing ahead of it in the
crossing, to atomic memory, writes exactly its bytes, where a store of part of a word meets no uncorrectable error; a store
within an error-free header window replaces exactly its bytes of the window. No register is written, and the thread goes on.
(10_wenkin_encoding.md, 08_wenkin_core.md, 09_wenkin_programming_model.md) -/
def Obligations.StoresWriteTheirBytes : Prop :=
  (∀ (s : State) (t : Fin 580) (rd ra : Fin 32) (imm : BitVec 16) (i : Instr) (n : Nat),
    (i, n) ∈ [(Instr.sb t rd ra imm, 1), (.sh t rd ra imm, 2), (.sw t rd ra imm, 4), (.sd t rd ra imm, 8)] →
    (n = 8 → rd.val % 2 = 0) →
    let x := s.thread t
    let a := (x.reg ra + imm.signExtend 32).toNat
    let bs := toLE n ((x.reg rd).toNat + (if n = 8 then (x.reg (rd + 1)).toNat * 2 ^ 32 else 0))
    (t.val < 512 → a + n ≤ 0xF800 → a % n = 0 → (s.core (coreOf t)).sb.length < 8 →
      s.Runs t i fun u => s.Wrote u t 0 0#32 x.tsw ∧ (u.core (coreOf t)).sb = (s.core (coreOf t)).sb ++ [⟨a, bs, t, x.seq⟩]) ∧
    (512 ≤ t.val → a + n ≤ ramTop t → a % n = 0 → s.mergeRam t a bs = none →
      s.Runs t i fun u => s.Sent { u with mem := s.mem } t ∧ s.Stored u (memKey (ramBase t).1 ((ramBase t).2 + a)) bs) ∧
    (t.val < 512 → 0x20000 ≤ a → a + n ≤ 0x60000 → a % n = 0 →
      (n < 4 → s.badIn (memKey .shared (262144 * clusterOf t + (a - 0x20000))) n = none) →
      s.Runs t i fun u => s.Sent { u with mem := s.mem } t ∧
        s.Stored u (memKey .shared (262144 * clusterOf t + (a - 0x20000))) bs) ∧
    (4 ≤ n → 0x20000000 ≤ a → a + n ≤ 0x20010000 → a % n = 0 → n = 8 ∨ ((a - 0x20000000) / 8) ∉ s.rdv.badAtomic →
      s.toDx (crossOf t) = [] →
      s.Runs t i fun u => s.Sent { u with mem := s.mem } t ∧ s.Stored u (memKey .atomic (a - 0x20000000)) bs) ∧
    (t.val < 512 → 0x10000 ≤ a → a - 0x10000 + n ≤ s.windowBytes t → s.windowBytes t ≤ 256 → s.WindowSound t →
      s.Runs t i fun u => s.Sent u t ∧ (u.thread t).window = patch x.window (a - 0x10000) bs)) ∧
  (∀ (s : State) (c : Fin 64) (e : SbEntry) (r : List SbEntry), (s.core c).sb = e :: r →
    s.mergeRam e.tid e.addr e.data = none →
    Leads (exec (.storeBufferDrain c) s) fun u => (u.core c).sb = r ∧ s.StoredAt u ((s.ramKeys e.tid).map (· + e.addr)) e.data) ∧
  (∀ (s : State) (t : Nat), t < 512 →
    s.ramKeys t = if s.lockstep (t / 8) then [memKey .coreData (65536 * (t / 8 - t / 8 % 2)), memKey .coreData (65536 * (t / 8 - t / 8 % 2 + 1))]
      else [memKey .coreData (65536 * (t / 8))])

/-- For a thread whose handler can be entered, a load or store outside its data address map, misaligned, of a size its region
does not list, without the DICT right, beyond the window, to the descriptor or to the code alias enters the handler with the
exception code and cause of the access check, EADDR the data address and EPC the instruction's PC; nothing is loaded or stored.
An odd register of LD or SD is a reserved word: ILLEGAL_INSTRUCTION with cause 2 and EADDR the word.
(09_wenkin_programming_model.md, 10_wenkin_encoding.md) -/
def Obligations.AccessFaultsTrap : Prop :=
  ∀ (s : State) (t : Fin 580) (rd ra : Fin 32) (imm : BitVec 16), s.CanTrap t →
    let x := s.thread t
    let a := (x.reg ra + imm.signExtend 32).toNat
    (∀ i n st, (i, n, st) ∈ [(Instr.lb t rd ra imm, 1, false), (.lbu t rd ra imm, 1, false), (.lh t rd ra imm, 2, false),
        (.lhu t rd ra imm, 2, false), (.lw t rd ra imm, 4, false), (.ld t rd ra imm, 8, false), (.sb t rd ra imm, 1, true),
        (.sh t rd ra imm, 2, true), (.sw t rd ra imm, 4, true), (.sd t rd ra imm, 8, true)] →
      (n = 8 → rd.val % 2 = 0) →
      (∀ code cause, s.accessFault t a n st = some (code, cause) →
        s.Runs t i fun u => s.Trapped u t code cause (BitVec.ofNat 32 a) x.pc) ∧
      (t.val < 512 → 0x08000000 ≤ a → a < 0x08040000 →
        s.Runs t i fun u => s.Trapped u t 0x01 4 (BitVec.ofNat 32 a) x.pc) ∧
      (a + n ≤ ramTop t → a % n ≠ 0 → s.Runs t i fun u => s.Trapped u t 0x03 0 (BitVec.ofNat 32 a) x.pc)) ∧
    (rd.val % 2 = 1 → x.st = .ready → s.issueStopped t = false → x.pc ≤ codeTop t →
      ∀ j ∈ [Instr.ld t rd ra imm, .sd t rd ra imm], ∀ w, wordOf j = some w → s.fetchWord t w = w →
        Leads (exec j s) fun u => s.Trapped u t 0x02 2 (BitVec.ofNat 32 w) x.pc)

/-- On a field that the bit address space admits, with no word of the header window in error, BEXT and BEXTR write it
zero-extended to rd, BINS and BINSR write rd's low bits to it, BSETF sets and BCLRF clears it, and BBS and BBC go to their
target when the bit is 1 or 0. A window bit address b is bit 7 - b mod 8 of window byte b div 8; in the registers it is bit b
mod 32 of register (b - 0x1000) div 32. (10_wenkin_encoding.md, 09_wenkin_programming_model.md) -/
def Obligations.BitFieldsRetire : Prop :=
  (∀ (s : State) (t : Fin 580) (rd ra rb wm1 : Fin 32) (b : BitVec 16),
    let x := s.thread t
    let w := wm1.val + 1
    let wr (j : Instr) (b w : Nat) (v : Word) : Prop := s.Runs t j fun u =>
      let y := x.bitPut b w v
      (∀ r, (u.thread t).reg r = y.reg r) ∧ (u.thread t).tsw = y.tsw ∧ (u.thread t).window = y.window ∧
        (u.thread t).pc = y.pcAfter (x.pc + 4) ∧ u.mem = s.mem ∧ ∀ v, v ≠ t.val → u.thread v = s.thread v
    (s.bitFault t b.toNat w false = none → s.WindowSound t →
      s.Runs t (.bext t rd wm1 b) fun u => s.Wrote u t rd (x.bitGet b.toNat w) x.tsw) ∧
    (s.bitFault t b.toNat w true = none → s.WindowSound t →
      wr (.bins t rd wm1 b) b.toNat w (x.reg rd) ∧ wr (.bsetf t wm1 b) b.toNat w 0xFFFFFFFF#32 ∧
        wr (.bclrf t wm1 b) b.toNat w 0#32) ∧
    ((x.reg ra).toNat < 65536 → 1 ≤ (x.reg rb).toNat → (x.reg rb).toNat ≤ 32 → s.WindowSound t →
      (s.bitFault t (x.reg ra).toNat (x.reg rb).toNat false = none → s.Runs t (.bextr t rd ra rb) fun u =>
        s.Wrote u t rd (x.bitGet (x.reg ra).toNat (x.reg rb).toNat) x.tsw) ∧
      (s.bitFault t (x.reg ra).toNat (x.reg rb).toNat true = none →
        wr (.binsr t rd ra rb) (x.reg ra).toNat (x.reg rb).toNat (x.reg rd)))) ∧
  (∀ (s : State) (t : Fin 580) (b off : BitVec 13), s.bitFault t b.toNat 1 false = none → s.WindowSound t →
    let x := s.thread t
    let to_ := (BitVec.ofInt 32 (x.pc + 4 * off.toInt)).toNat
    to_ ≤ codeTop t →
    s.Runs t (.bbs t b off) (fun u => s.Ran u t 0 0#32 x.tsw (if x.bitGet b.toNat 1 = 1#32 then to_ else x.pc + 4)) ∧
    s.Runs t (.bbc t b off) (fun u => s.Ran u t 0 0#32 x.tsw (if x.bitGet b.toNat 1 = 1#32 then x.pc + 4 else to_))) ∧
  (∀ (x : Thread) (b : Nat), b < 0x800 →
    x.bitGet b 1 = if (x.window.getD (b / 8) 0#8).getLsbD (7 - b % 8) then 1#32 else 0#32) ∧
  (∀ (x : Thread) (b : Nat), 0x1000 ≤ b → b < 0x1400 →
    x.bitGet b 1 = if (x.reg ((b - 0x1000) / 32)).getLsbD (b % 32) then 1#32 else 0#32)

/-- A branch whose target lies within code goes to PC + 4 x offset when its condition holds of the two registers (BCC: of the
flags) and else to the next instruction; JAL and JALR write PC + 4 to rd and go to their target, JALR's taken from ra before the
link is written. No other register and no flag changes. A target beyond code raises ACCESS_FAULT with cause FETCH.
(10_wenkin_encoding.md) -/
def Obligations.BranchesAndJumpsGo : Prop :=
  ∀ (s : State) (t : Fin 580) (rd ra rb : Fin 32) (off imm : BitVec 16) (idx : BitVec 15) (cond : Fin 16),
    let x := s.thread t
    let a := x.reg ra
    let b := x.reg rb
    let to_ := (BitVec.ofInt 32 (x.pc + 4 * off.toInt)).toNat
    let goes (j : Instr) (taken : Prop) : Prop :=
      (¬taken → s.Runs t j fun u => s.Ran u t 0 0#32 x.tsw (x.pc + 4)) ∧
      (taken → to_ ≤ codeTop t → s.Runs t j fun u => s.Ran u t 0 0#32 x.tsw to_) ∧
      (taken → codeTop t < to_ → s.CanTrap t → s.Runs t j fun u => s.Trapped u t 0x01 9 (BitVec.ofNat 32 to_) x.pc)
    goes (.beq t ra rb off) (a = b) ∧
    goes (.bne t ra rb off) (a ≠ b) ∧
    goes (.blt t ra rb off) (a.toInt < b.toInt) ∧
    goes (.bge t ra rb off) (b.toInt ≤ a.toInt) ∧
    goes (.bltu t ra rb off) (a.toNat < b.toNat) ∧
    goes (.bgeu t ra rb off) (b.toNat ≤ a.toNat) ∧
    (cond.val ≠ 15 → goes (.bcc t cond off) (condHolds cond x.tsw = true)) ∧
    (4 * idx.toNat ≤ codeTop t →
      s.Runs t (.jal t rd idx) fun u => s.Ran u t rd (BitVec.ofNat 32 (x.pc + 4)) x.tsw (4 * idx.toNat)) ∧
    (let j := (a + imm.signExtend 32).toNat
     j ≤ codeTop t → j % 4 = 0 →
      s.Runs t (.jalr t rd ra imm) fun u => s.Ran u t rd (BitVec.ofNat 32 (x.pc + 4)) x.tsw j)

/-- With EXL 0, a body length above 0 and fewer than two contexts open, a LOOP or LOOPI with a count above 0 opens a context
from PC + 4 to PC + 4 x length with that count, ahead of the older one; a count of 0 goes past the body and opens none; a third
context is ILLEGAL_INSTRUCTION with cause 4. LPCLR closes the innermost context. (10_wenkin_encoding.md, 08_wenkin_core.md) -/
def Obligations.LoopsOpenAndClose : Prop :=
  ∀ (s : State) (t : Fin 580) (ra : Fin 32) (count : BitVec 10) (len : BitVec 16),
    let x := s.thread t
    let opens (j : Instr) (n : Nat) : Prop :=
      (0 < n → x.loops.length < 2 → s.Runs t j fun u => s.Ran u t 0 0#32 x.tsw (x.pc + 4) ∧
        ∃ cap, (u.thread t).loops = ⟨x.pc + 4, x.pc + 4 * len.toNat, n, cap⟩ :: (x.retire (x.pc + 4)).1.loops) ∧
      (n = 0 → x.loops.length < 2 → x.pc + 4 * (len.toNat + 1) ≤ codeTop t →
        s.Runs t j fun u => s.Ran u t 0 0#32 x.tsw (x.pc + 4 * (len.toNat + 1))) ∧
      (x.loops.length = 2 → s.CanTrap t → s.Runs t j fun u => ∃ w, wordOf j = some w ∧ s.Trapped u t 0x02 4 (BitVec.ofNat 32 w) x.pc)
    (len ≠ 0#16 → x.exl = false →
      opens (.loop t ra len) (x.reg ra).toNat ∧ opens (.loopi t count len) count.toNat) ∧
    (s.Runs t (.lpclr t) fun u =>
      let y := { x with loops := x.loops.drop 1 }
      (u.thread t).loops = (y.retire (x.pc + 4)).1.loops ∧ (u.thread t).pc = y.pcAfter (x.pc + 4) ∧
        (∀ r, (u.thread t).reg r = x.reg r) ∧ s.Frame u t)

/-- A packet thread holding a PACKET or REPLAY item whose EndArg sets no reserved bit sends its end (kind and EndArg) to DX,
last in its crossing; after PKTFWD and PKTMC it is ending with no loop open, after PKTDROP it holds no item. WORKDONE of a TIMED
or POSTED item in the first register set, with no saved work, leaves the thread without item. The word of an instruction of
packet work is reserved with cause 3 on barrel threads and Pilot cores, and enters their handler as ILLEGAL_INSTRUCTION with
that cause. (10_wenkin_encoding.md, 07_ordering_replay.md, 08_wenkin_core.md) -/
def Obligations.EndsLeaveForDx : Prop :=
  (∀ (s : State) (t : Fin 580) (ra : Fin 32) (imm : BitVec 16) (i : Item), t.val < 512 →
    (s.thread t).item = some i →
    let x := s.thread t
    let arg : BitVec 16 := (x.reg ra + imm.setWidth 32).setWidth 16
    (i.isPacket = true →
      (arg.toNat &&& 0x000F = 0 → s.Runs t (.pktfwd t ra imm) fun u =>
        u.toDx (crossOf t) = s.toDx (crossOf t) ++ [(t.val, .finish i.journal 1 arg)] ∧ (u.thread t).st = .ending ∧ (u.thread t).loops = []) ∧
      (arg.toNat &&& 0xFF00 = 0 → s.Runs t (.pktdrop t ra imm) fun u =>
        u.toDx (crossOf t) = s.toDx (crossOf t) ++ [(t.val, .finish i.journal 2 arg)] ∧ (u.thread t).item = none ∧ (u.thread t).loops = []) ∧
      (arg.toNat &&& 0x1C00 = 0 → s.Runs t (.pktmc t ra imm) fun u =>
        u.toDx (crossOf t) = s.toDx (crossOf t) ++ [(t.val, .finish i.journal 3 arg)] ∧ (u.thread t).st = .ending ∧ (u.thread t).loops = [])) ∧
    (i.isPacket = false → x.saved = none →
      s.Runs t (.workdone t) fun u => (u.thread t).item = none ∧ (u.thread t).loops = [])) ∧
  (∀ (s : State) (t : Fin 580) (ra rs rb : Fin 32) (imm : BitVec 16) (n : Fin 8) (p : Fin 2), s.CanTrap t →
    512 ≤ t.val →
    ∀ i ∈ [Instr.pktfwd t ra imm, .pktdrop t ra imm, .pktmc t ra imm, .workdone t, .cpost t rs rb n p, .dins t rs ra p,
        .dcan t ra p, .dmadb t rs ra],
      ∀ w, wordOf i = some w → s.fetchWord t w = w → reservedCause t w = some 3 → (s.thread t).st = .ready → (s.thread t).pc ≤ codeTop t →
        Leads (exec i s) fun u => s.Trapped u t 0x02 3 (BitVec.ofNat 32 w) (s.thread t).pc) ∧
  (∀ (t : Nat) (ra rs rb : Fin 32) (n : Fin 8) (p : Fin 2) (imm : BitVec 16), 512 ≤ t → n.val ≤ 4 →
    ∀ w ∈ [wordI 0x38 0 ra imm, wordI 0x39 0 ra imm, wordI 0x3A 0 ra imm, wordV 0x3B 0 0 0 0 0 1, wordV 0x3B rs 0 rb n p 2,
        wordV 0x3B rs ra 0 0 p 3, wordV 0x3B 0 ra 0 0 p 4, wordS rs ra 0 5], reservedCause t w = some 3)

/-- With aligned images clear of waiting stores and errors: CPOST sends the slot image and n payload units of its item to DX,
last in the crossing, and its reply register waits; with nothing ahead in the crossing, DINS of a WORK entry of a Scheduled
level into a list with room replies status 0 or 1 and the list holds one entry more; DCAN of a handle no entry has replies
NOT_FOUND; DMADB of a thread with the doorbell right, for a valid descriptor of a free channel, starts the transfer with that
thread as origin. (10_wenkin_encoding.md, 06_dispatcher.md, 07_ordering_replay.md, 17_dma.md) -/
def Obligations.WorkRequestsLeave : Prop :=
  ∀ (s : State) (t : Fin 580) (rs ra rb : Fin 32) (n : Fin 8) (p : Fin 2), t.val < 512 →
    let x := s.thread t
    let a := (x.reg rs).toNat
    let b := (x.reg rb).toNat
    let at_ (a n : Nat) : List Byte := s.loadBytes .coreData (65536 * (t.val / 8) + a) n
    let good (a n : Nat) : Prop := a + n ≤ 0xF800 ∧ a % 8 = 0 ∧ s.Clear t a n
    (s.rp t x.second p = .empty → good a 16 → (n.val ≠ 0 → good b (16 * n)) →
      s.Runs t (.cpost t rs rb n p) fun u =>
        u.toDx (crossOf t) = s.toDx (crossOf t) ++
            [(t.val, .post x.heldPacket x.second p (BitVec.ofNat 128 (ofLE (at_ a 16))) (at_ b (16 * n)))] ∧
          u.rp t x.second p = .out .post 0 s.usStrobe ∧ (∀ r, (u.thread t).reg r = x.reg r) ∧ u.mem = s.mem) ∧
    (good a 16 →
      let w := ofLE (at_ a 16)
      let l := (x.reg ra).toNat
      l < 8 → bits w 44 32 = 0 → bits w 63 48 ≠ 0 → s.classOf (bits w 47 45) = 0 → (s.delayList l).entries.length < 2048 →
      (∃ k, k < 2048 ∧ ∀ e ∈ (s.delayList l).entries, e.slot ≠ k) →
      s.Requests t p (.dins t rs ra p) fun u =>
        (u.delayList l).entries.length = (s.delayList l).entries.length + 1 ∧ (∀ r, (u.thread t).reg r = x.reg r) ∧
          ∃ d st, st ≤ 1 ∧ State.Replied u s t p 2 st d) ∧
    ((s.delayList ((x.reg ra).toNat % 65536 / 2 ^ 13)).entries.all
        (fun e => delayHandle ((x.reg ra).toNat % 65536 / 2 ^ 13) e ≠ (x.reg ra).toNat % 65536) = true →
      s.Requests t p (.dcan t ra p) fun u => s.Sent u t ∧ State.Replied u s t p 2 5 0#32) ∧
    (let d := BitVec.ofNat 256 (ofLE (at_ a 32))
     let ch := (x.reg ra).toNat
     good a 32 → ch < 16 → bit (s.rd (K.rtRights (s.lower (t.val / 8)))) 1 = 1 → s.doorbellStatus ch d true = 0 →
       s.on K.dmaCqEnable = true → dmaNotify d = false →
      s.Runs t (.dmadb t rs ra) fun u => s.Sent u t ∧ u.dma.queue = s.dma.queue ++ [ch] ∧
        ∃ y, tget none u.dma.chans ch = some y ∧ y.desc = d ∧ y.origin = 0 ∧ y.requester = BitVec.ofNat 32 t)

/-- For a thread whose request DX samples at once and whose core admits the lock's group: LOCK and TRYLOCK of a free lock make
it the holder and reply OK, or ABANDONED while the mark stands; LOCK of a lock another requester holds enters the queue behind
equal or higher priority and the register waits; TRYLOCK replies BUSY and leaves the lock alone; UNLOCK by the holder frees a
lock no one waits for and replies OK; CLRABND by the holder clears the mark. UNLOCK by the holder of a lock with waiters makes
the head waiter its holder, takes it off the queue and sends that waiter's register the reply OK, or ABANDONED while the mark
stands; the reply to the unlocking thread is OK. (12_rendezvous.md, 10_wenkin_encoding.md) -/
def Obligations.LocksAreTakenAndLet : Prop :=
  (
  ∀ (s : State) (t : Fin 580) (ra rb : Fin 32) (p : Fin 2),
    let x := s.thread t
    let l := (x.reg ra).toNat
    let me : Holder := .requester t x.second
    l < 4096 → s.lockRight t (l / 256) = true →
    (∀ i ∈ [Instr.lock t ra rb p, .trylock t ra p], (s.lock l).holder = none →
      s.Requests t p i fun u => u.lock l = { s.lock l with holder := some me } ∧ s.Sent u t ∧
        State.Replied u s t p 1 (if (s.lock l).abandoned then 1 else 0) 0#32) ∧
    (∀ h, (s.lock l).holder = some h → h ≠ .requester t true → h ≠ .requester t false →
      (s.Requests t p (.trylock t ra p) fun u => u.lock l = s.lock l ∧ s.Sent u t ∧ State.Replied u s t p 1 2 0#32) ∧
      (s.Requests t p (.lock t ra rb p) fun u => (u.lock l).holder = some h ∧ s.Sent u t ∧
        (u.lock l).waiters = joinByPrio ⟨t, x.second, p, s.waitPrio ⟨t, x.second, p⟩, [], 0⟩ (s.lock l).waiters ∧
        ∃ n, u.rp t x.second p = .out (.lock l) n s.usStrobe)) ∧
    ((s.lock l).holder = some me →
      ((s.lock l).waiters = [] → s.Requests t p (.unlock t ra p) fun u =>
        u.lock l = { s.lock l with holder := none } ∧ s.Sent u t ∧ State.Replied u s t p 1 0 0#32) ∧
      (s.Requests t p (.clrabnd t ra p) fun u =>
        u.lock l = { s.lock l with abandoned := false } ∧ s.Sent u t ∧ State.Replied u s t p 1 0 0#32))) ∧
  (
  ∀ (s : State) (t : Fin 580) (ra : Fin 32) (p : Fin 2) (w : Waiter) (r : List Waiter),
    let x := s.thread t
    let l := (x.reg ra).toNat
    l < 4096 → s.lockRight t (l / 256) = true → (s.lock l).holder = some (.requester t x.second) →
    (s.lock l).waiters = w :: r → w.tid ≠ t →
    s.Requests t p (.unlock t ra p) fun u =>
      u.lock l = { s.lock l with holder := some (.requester w.tid w.second), waiters := r } ∧
      u.rp w.tid w.second w.rp = .flying ⟨BitVec.ofNat 32 (2 ^ 28 + (if (s.lock l).abandoned then 256 else 0)), 0#32⟩ [] 0 ∧
      State.Replied u s t p 1 0 0#32)

/-- SEMWAIT of a semaphore with count above 0 takes one and replies the count left; at 0 it queues. SEMSIG with no waiter adds
its count up to MaxCount, where it saturates and says so. AFADD, ACAS and ASWP of an aligned word of atomic memory not in error
reply the old value and store the sum, the new value when the old one equals the compare value, or the new value; no other byte
of memory changes. (12_rendezvous.md, 10_wenkin_encoding.md) -/
def Obligations.SemaphoresAndAtomicsReply : Prop :=
  ∀ (s : State) (t : Fin 580) (ra rb rs : Fin 32) (p : Fin 2),
    let x := s.thread t
    let n := (x.reg ra).toNat
    (n < 1024 →
      (0 < (s.sem n).count → s.Requests t p (.semwait t ra rb p) fun u => s.Sent u t ∧
        u.sem n = { s.sem n with count := (s.sem n).count - 1 } ∧
        State.Replied u s t p 1 0 (BitVec.ofNat 32 ((s.sem n).count - 1))) ∧
      ((s.sem n).count = 0 → s.Requests t p (.semwait t ra rb p) fun u => s.Sent u t ∧ (u.sem n).count = 0 ∧
        (u.sem n).waiters = joinByPrio ⟨t, x.second, p, s.waitPrio ⟨t, x.second, p⟩, [], 0⟩ (s.sem n).waiters) ∧
      (let k := (x.reg rs).toNat % 65536
       k ≠ 0 → (s.sem n).waiters = [] → s.Requests t p (.semsig t ra rs p) fun u => s.Sent u t ∧
        (u.sem n).count = min ((s.sem n).count + k) (s.semMax n) ∧
        State.Replied u s t p 1 (if s.semMax n < (s.sem n).count + k then 8 else 0)
          (BitVec.ofNat 32 (min ((s.sem n).count + k) (s.semMax n))))) ∧
    (0x20000000 ≤ n → n ≤ 0x2000FFFC → n % 4 = 0 → ((n - 0x20000000) / 8) ∉ s.rdv.badAtomic →
      let key := memKey .atomic (n - 0x20000000)
      let old : Word := BitVec.ofNat 32 (ofLE (mread s.mem key 4))
      let swaps (j : Instr) (v : Word) : Prop := s.Requests t p j fun u =>
        s.Stored u key (toLE 4 v.toNat) ∧ State.Replied u s t p 1 0 old ∧ ∀ r, (u.thread t).reg r = x.reg r
      swaps (.afadd t ra rb p) (old + x.reg rb) ∧
      swaps (.acas t ra rb rs p) (if old = x.reg rb then x.reg rs else old) ∧
      swaps (.aswp t ra rs p) (x.reg rs))

/-- On a channel open to the thread: CHSEND with no receiver waiting and room left puts its words last in the channel and
replies OK; with a receiver waiting it hands them to that receiver. CHRECV of a channel that holds a message and no waiting
sender takes the oldest and replies its length, its words bound for the buffer; of an empty channel with no sender it waits
behind equal or higher priority. (12_rendezvous.md, 10_wenkin_encoding.md) -/
def Obligations.ChannelsCarryMessages : Prop :=
  ∀ (s : State) (t : Fin 580) (ra rs rb : Fin 32) (n : Fin 8) (p : Fin 2),
    let x := s.thread t
    let c := (x.reg ra).toNat
    let words := (List.range (n.val + 1)).map fun k => x.reg (rs + k)
    c < 1024 → (s.chanOpen c = true ∨ s.member (c / 64) t = true) →
    (rs.val + n.val ≤ 31 → isBarrelThread t = false →
      ((s.rdvChan c).receivers = [] → (s.rdvChan c).msgs.length < s.chanDepth c →
        s.Requests t p (.chsend t ra rs rb n p) fun u => s.Sent u t ∧
          (u.rdvChan c).msgs = (s.rdvChan c).msgs ++ [words] ∧ State.Replied u s t p 1 0 0#32) ∧
      (∀ w r, (s.rdvChan c).receivers = w :: r → w.tid ≠ t →
        s.Requests t p (.chsend t ra rs rb n p) fun u => (u.rdvChan c).receivers = r ∧ (u.rdvChan c).msgs = (s.rdvChan c).msgs ∧
          State.Replied u s t p 1 0 0#32 ∧
          u.rp w.tid w.second w.rp = .flying ⟨BitVec.ofNat 32 (2 ^ 28), BitVec.ofNat 32 (n.val + 1)⟩ words w.buf)) ∧
    (isBarrelThread t = true → s.Requests t p (.chsend t ra rs rb n p) fun u => s.Sent u t ∧
      u.toDx (crossOf t) = [(t.val, .request x.second p (.chSend c words ((x.reg rb).toNat % 65536) (some s.now)))]) ∧
    (let buf := (x.reg rs).toNat
     buf + 32 ≤ ramTop t → buf % 8 = 0 → (s.rdvChan c).senders = [] →
      (∀ m ms, (s.rdvChan c).msgs = m :: ms → s.Requests t p (.chrecv t ra rs rb p) fun u => s.Sent u t ∧
        (u.rdvChan c).msgs = ms ∧ u.rp t x.second p = .flying ⟨BitVec.ofNat 32 (2 ^ 28), BitVec.ofNat 32 m.length⟩ m buf) ∧
      ((s.rdvChan c).msgs = [] → s.Requests t p (.chrecv t ra rs rb p) fun u => s.Sent u t ∧ (u.rdvChan c).msgs = [] ∧
        (u.rdvChan c).receivers = joinByPrio ⟨t, x.second, p, s.waitPrio ⟨t, x.second, p⟩, [], buf⟩ (s.rdvChan c).receivers))

/-- EVSET of a bit without waiters and subscribers sets it and EVCLR clears it; EVWAIT of a set bit replies OK and clears it
when AutoClear is set, of a clear bit it queues; EVSUB adds the bit to the item's subscriptions while there are fewer than 8,
and EVUNSUB removes it. Each replies OK (a waiting EVWAIT does not reply). (12_rendezvous.md, 10_wenkin_encoding.md) -/
def Obligations.EventBitsWakeAndSubscribe : Prop :=
  ∀ (s : State) (t : Fin 580) (ra rb : Fin 32) (p : Fin 2),
    let x := s.thread t
    let e := (x.reg ra).toNat
    let ok (u : State) : Prop := s.Sent u t ∧ State.Replied u s t p 1 0 0#32
    e < 1024 → (s.eventOpen e = true ∨ s.member (e / 64) t = true) →
    ((s.evbit e).waiters = [] → s.rdv.subs.all (fun kl => !kl.2.contains e) = true →
      s.Requests t p (.evset t ra p) fun u => ok u ∧ (u.evbit e).value = true) ∧
    (s.Requests t p (.evclr t ra p) fun u => ok u ∧ u.evbit e = { s.evbit e with value := false }) ∧
    ((s.evbit e).value = true → s.Requests t p (.evwait t ra rb p) fun u => ok u ∧ (u.evbit e).value = !s.autoClear e) ∧
    ((s.evbit e).value = false → s.Requests t p (.evwait t ra rb p) fun u => s.Sent u t ∧ (u.evbit e).value = false ∧
      (u.evbit e).waiters = joinByPrio ⟨t, x.second, p, s.waitPrio ⟨t, x.second, p⟩, [], 0⟩ (s.evbit e).waiters) ∧
    (e ∉ s.subsOf t x.second → (s.subsOf t x.second).length < 8 → s.Requests t p (.evsub t ra p) fun u => ok u ∧
      u.subsOf t x.second = s.subsOf t x.second ++ [e]) ∧
    (s.Requests t p (.evunsub t ra p) fun u => ok u ∧ u.subsOf t x.second = (s.subsOf t x.second).filter (· ≠ e))

/-- MFS reads TSW, EPC, ECODE, EADDR, TVEC, WITEM and WTAG into rd; of a full reply register it reads the data half, or the
status half and empties the register. MTS writes TSW when it sets no reserved bit and leaves EXL alone, and TVEC when it is an
aligned code address. ERET with EXL 1 goes to EPC and clears EXL. WFE with a masked event pending goes on.
(10_wenkin_encoding.md, 09_wenkin_programming_model.md, 08_wenkin_core.md) -/
def Obligations.SystemRegistersAndTraps : Prop :=
  ∀ (s : State) (t : Fin 580) (r1 r2 : Fin 32) (mask : BitVec 7),
    let x := s.thread t
    let v := x.reg r1
    (∀ (n : Fin 32) (w : Word), (n, w) ∈ [(0, x.tsw), (1, x.sregs.epc), (2, x.sregs.ecode), (3, x.sregs.eaddr), (4, x.sregs.tvec),
        (5, x.sregs.witem), (6, x.sregs.wtag)] →
      s.Runs t (.mfs t r1 n) fun u => s.Wrote u t r1 w x.tsw) ∧
    (∀ (m : Fin 4) r, s.rp t x.second m = .full r →
      (s.Runs t (.mfs t r1 ⟨8 + 2 * m.val, by omega⟩) fun u => s.Wrote u t r1 r.data x.tsw) ∧
      (s.Runs t (.mfs t r1 ⟨9 + 2 * m.val, by omega⟩) fun u =>
        (u.thread t).reg r1 = (if r1 = 0 then 0#32 else r.status) ∧ u.rp t x.second m = .empty ∧ (u.thread t).ev.getLsbD m = false)) ∧
    (v &&& 0xFF1FFFE0#32 = 0#32 → v.getLsbD 23 = x.tsw.getLsbD 23 → s.Runs t (.mts t r1 0) fun u => s.Wrote u t 0 0#32 v) ∧
    (v.toNat % 4 = 0 → v.toNat ≤ codeTop t → s.Runs t (.mts t r1 4) fun u =>
      (u.thread t).sregs = { x.sregs with tvec := v } ∧ (u.thread t).tsw = x.tsw ∧ ∀ r, (u.thread t).reg r = x.reg r) ∧
    (x.exl = true → x.sregs.epc.toNat ≤ codeTop t → s.Runs t (.eret t) fun u =>
      (u.thread t).pc = x.sregs.epc.toNat ∧ (u.thread t).tsw = x.tsw &&& 0xFF7FFFFF#32 ∧ (u.thread t).regs = x.regs ∧
        s.Frame u t) ∧
    (x.ev &&& mask ≠ 0#7 → s.Runs t (.wfe t mask r2) fun u => (u.thread t).st = .ready ∧
      (u.thread t).ev = x.ev &&& ~~~(mask &&& 0x70#7) ∧ (u.thread t).regs = x.regs ∧
        (u.thread t).pc = x.pcAfter (x.pc + 4))

/-- For every state in which the thread can issue: SYSCALL of a packet thread counts Syscalls in its core's record; when TVEC is
nonzero and EXL is 0 it enters the handler with ECODE code 0x08, EPC the address of the next instruction and EADDR the
zero-extended immediate, the general registers, other threads and memory unchanged; else the thread is reset and holds no work
item. (R250) -/
def Obligations.SyscallRaisesItsException : Prop :=
  ∀ (s : State) (t : Fin 580) (imm : BitVec 16),
    s.Runs t (.syscall t imm) fun u =>
      (t.val < 512 → u.rd (K.ctrExcSyscalls (t.val / 8)) = (s.rd (K.ctrExcSyscalls (t.val / 8)) + 1) % 2 ^ 64) ∧
      (s.CanTrap t → s.Trapped u t 0x08 0 (imm.setWidth 32) ((s.thread t).pc + 4)) ∧
      (¬s.CanTrap t → (u.thread t).item = none ∧ (u.thread t).loops = [])

/-- MODE_WRITE of a code of the port's list writes it and, when it differs from Mode, takes the link down and starts the
reprogramming; any other code is refused with the value-range abort code. LINK_REPROGRAM_DONE ends it. A reported link state
other than UP is taken, a loss of UP is counted, and UP is taken when AdminUp is 1 and nothing holds the port down.
SGMII_AN_COMPLETE gives the speed. A pause ends at PAUSE_QUANTA_EXPIRY, a change or refresh of back-pressure queues a PAUSE, or
in mode 2 PFC frames for the priorities that start and stop, and PREEMPT_VERIFY_TIMER queues a verify frame, or fails the
verification after three. (02_port_complex.md) -/
def Obligations.PortsFollowTheirLinks : Prop :=
  ∀ (s : State) (p q : Fin 8),
    let x := s.port p
    (∀ c : BitVec 8,
      let listed := (p.val < 4 ∧ 1 ≤ c.toNat ∧ c.toNat ≤ 4) ∨ (4 ≤ p.val ∧ p.val < 7 ∧ c = 5#8) ∨ (p = 7 ∧ c = 6#8)
      (listed → s.rd (K.portMode p) = c.toNat → Leads (exec (.modeWrite p c) s) fun u => u.rd (K.portMode p) = c.toNat ∧
        u.port p = x ∧ u.abort = Abort.ok) ∧
      (listed → s.rd (K.portMode p) ≠ c.toNat → Leads (exec (.modeWrite p c) s) fun u => u.rd (K.portMode p) = c.toNat ∧
        u.rd (K.portLinkState p) = 0 ∧ u.port p = { x with reprog := true } ∧ u.abort = Abort.ok) ∧
      (¬ listed → exec (.modeWrite p c) s = .next { s with abort := 0x03000006 })) ∧
    (Leads (exec (.linkReprogramDone p) s) fun u => u.port p = { x with reprog := false } ∧ u.dict = s.dict ∧ u.mem = s.mem) ∧
    (∀ st : Fin 4, st ≠ 1 → Leads (exec (.linkStateChange p st) s) fun u => u.rd (K.portLinkState p) = st ∧ u.mem = s.mem ∧
      u.rd (K.portLinkDownCount p) = if s.rd (K.portLinkState p) = 1 then (s.rd (K.portLinkDownCount p) + 1) % 2 ^ 32
        else s.rd (K.portLinkDownCount p)) ∧
    (s.on (K.portAdminUp p) = true → x.reprog = false → s.portHeld p = false → (p = 7 → x.anDone = true) →
      Leads (exec (.linkStateChange p 1) s) fun u => u.rd (K.portLinkState p) = 1 ∧ u.mem = s.mem) ∧
    (∀ v : Fin 3, Leads (exec (.sgmiiAnComplete v) s) fun u => u.rd (K.portSgmiiSpeed 7) = v ∧ (u.port 7).anDone = true) ∧
    (Leads (exec (.pauseQuantaExpiry p none) s) fun u => u.port p = { x with pauseAll := 0 } ∧ u.dict = s.dict) ∧
    (Leads (exec (.pauseQuantaExpiry p (some q)) s) fun u => tget 0 (u.port p).pausePrio q = 0 ∧ (u.port p).pauseAll = x.pauseAll ∧
      u.dict = s.dict) ∧
    (4 ≤ p.val → p.val < 7 → s.rd (K.portFlowControl p) = 1 →
      (x.bp = 0#8 → s.pressed p ≠ 0#8 → Leads (exec (.backpressureChange p) s) fun u =>
        (u.port p).ctrlQ = x.ctrlQ ++ [.pause (s.rd (K.portPauseQuanta p))] ∧ (u.port p).bp = s.pressed p) ∧
      (x.bp ≠ 0#8 → s.pressed p = 0#8 → Leads (exec (.backpressureChange p) s) fun u =>
        (u.port p).ctrlQ = x.ctrlQ ++ [.pause 0] ∧ (u.port p).bp = 0#8) ∧
      (x.bp ≠ 0#8 → Leads (exec (.pauseRefreshTimer p) s) fun u =>
        (u.port p).ctrlQ = x.ctrlQ ++ [.pause (s.rd (K.portPauseQuanta p))] ∧ (u.port p).bp = x.bp)) ∧
    (4 ≤ p.val → p.val < 7 → s.rd (K.portFlowControl p) = 2 →
      (let new := s.pressed p
       let on := new &&& ~~~x.bp
       let off := x.bp &&& ~~~new
       x.bp ≠ new → Leads (exec (.backpressureChange p) s) fun u => (u.port p).bp = new ∧
        (u.port p).ctrlQ = x.ctrlQ ++ (if on = 0#8 then [] else [.pfc on (s.rd (K.portPauseQuanta p))]) ++
          (if off = 0#8 then [] else [.pfc off 0])) ∧
      (x.bp ≠ 0#8 → Leads (exec (.pauseRefreshTimer p) s) fun u =>
        (u.port p).ctrlQ = x.ctrlQ ++ [.pfc x.bp (s.rd (K.portPauseQuanta p))] ∧ (u.port p).bp = x.bp)) ∧
    (p.val < 4 → s.on (K.portPreemptEnable p) = true → s.on (K.portVerifyDisable p) = false →
      s.rd (K.portVerifyStatus p) = 1 ∨ s.rd (K.portVerifyStatus p) = 2 →
      (x.verifyTries < 3 → Leads (exec (.preemptVerifyTimer p) s) fun u => (u.port p).ctrlQ = x.ctrlQ ++ [.verify] ∧
        (u.port p).verifyTries = x.verifyTries + 1 ∧ u.rd (K.portVerifyStatus p) = 2) ∧
      (3 ≤ x.verifyTries → Leads (exec (.preemptVerifyTimer p) s) fun u => u.rd (K.portVerifyStatus p) = 4 ∧ u.port p = x))

/-- With the link up, a frame of 64 to MaxFrame bytes with a right FCS and no pause type joins the received frames as MACsec
delivers it (marked when MACsec drops it; on M0 without its FCS) and is counted; on a zone port a fragment with a right mCRC
begins or, with the count expected, continues a partial frame, and one with another count discards it; one below 64 bytes is
counted as a runt and leaves no frame; on a zone port a verify frame is answered by a respond frame, which ends a verification.
The end of a transmission frees the line and counts the frame. PTP_TS_READ takes the oldest record. A cipher suite 1 to 4 is
written with its PnThreshold (a suite without XPN whatever the window); any other is refused. A secure channel in range is
installed to receive or, the SecY's only one, to transmit, or, unused, cleared with its four associations. (02_port_complex.md,
14_time_and_egress.md) -/
def Obligations.MacsMoveFrames : Prop :=
  (∀ (s : State) (b : List Byte) (age : BitVec 32), s.rd (K.portLinkState 7) = 1 → 64 ≤ b.length →
    b.length ≤ s.rd (K.portMaxFrame 7) → leAt b (b.length - 4) 4 = fcs (b.take (b.length - 4)) →
    beAt (b.take (b.length - 4)) 12 2 ≠ 0x8808 → (s.port 7).lodeIn = none →
    Leads (exec (.macRxFrame 7 (.frame b false) age) s) fun u => u.mem = s.mem ∧
      u.rd (K.ctrPortRxFrames 7) = (s.rd (K.ctrPortRxFrames 7) + 1) % 2 ^ 64 ∧
      ∃ f : RxFrame, (u.port 7).rxQ = (s.port 7).rxQ ++ [f] ∧ f.bytes = b.take (b.length - 4) ∧ f.secY = 0xFF#8 ∧ f.outcome = 0#3) ∧
  (∀ (s : State) (p : Fin 8) (b : List Byte) (age : BitVec 32), s.rd (K.portLinkState p) = 1 → 64 ≤ b.length →
    b.length ≤ s.rd (K.portMaxFrame p) → leAt b (b.length - 4) 4 = fcs (b.take (b.length - 4)) →
    beAt (b.take (b.length - 4)) 12 2 ≠ 0x8808 → (s.port p).lodeIn = none →
    let out := (s.macsecRx p (b.take (b.length - 4))).1.out
    Leads (exec (.macRxFrame p (.frame b false) age) s) fun u =>
      u.rd (K.ctrPortRxFrames p) = (s.rd (K.ctrPortRxFrames p) + 1) % 2 ^ 64 ∧
      ∃ f : RxFrame, (u.port p).rxQ = (s.port p).rxQ ++ [f] ∧ f.dropped = out.isNone ∧
        ∀ d y o, out = some (d, y, o) → f.bytes = d ∧ f.secY = y ∧ f.outcome = o) ∧
  (∀ (s : State) (p : Fin 8) (b : List Byte) (age : BitVec 32) (n : Nat) (c : Fin 4), s.rd (K.portLinkState p) = 1 → p.val < 4 →
    4 ≤ b.length →
    let x := s.port p
    let body := b.take (b.length - 4)
    (x.rxFrag = none → ofLE (b.drop (b.length - 4)) = mcrc body →
      Leads (exec (.macRxFrame p (.fragment true true c b false) age) s) fun u =>
        (u.port p).rxPartial = body ∧ (u.port p).rxFrag = some 0 ∧ (u.port p).rxQ = x.rxQ) ∧
    (x.rxFrag = some n → n = c.val → ofLE (b.drop (b.length - 4)) = mcrc (x.rxPartial ++ body) →
      Leads (exec (.macRxFrame p (.fragment true false c b false) age) s) fun u =>
        (u.port p).rxPartial = x.rxPartial ++ body ∧ (u.port p).rxFrag = some ((n + 1) % 4) ∧ (u.port p).rxQ = x.rxQ) ∧
    (x.rxFrag = some n → n ≠ c.val →
      Leads (exec (.macRxFrame p (.fragment true false c b true) age) s) fun u =>
        (u.port p).rxPartial = [] ∧ (u.port p).rxFrag = none ∧
          u.rd (K.ctrPortRxAssemblyError p) = (s.rd (K.ctrPortRxAssemblyError p) + 1) % 2 ^ 64)) ∧
  (∀ (s : State) (p : Fin 8) (b : List Byte) (age : BitVec 32), s.rd (K.portLinkState p) = 1 → b.length < 64 →
    (s.port p).lodeIn = none →
    Leads (exec (.macRxFrame p (.frame b false) age) s) fun u =>
      u.rd (K.ctrPortRxRunt p) = (s.rd (K.ctrPortRxRunt p) + 1) % 2 ^ 64 ∧ u.port p = s.port p) ∧
  (∀ (s : State) (p : Fin 8) (age : BitVec 32), s.rd (K.portLinkState p) = 1 → p.val < 4 →
    (Leads (exec (.macRxFrame p .verify age) s) fun u => (u.port p).ctrlQ = (s.port p).ctrlQ ++ [.respond]) ∧
    (s.rd (K.portVerifyStatus p) = 2 →
      Leads (exec (.macRxFrame p .respond age) s) fun u => u.rd (K.portVerifyStatus p) = 3 ∧ u.port p = s.port p)) ∧
  (∀ (s : State) (p : Fin 8) (f : TxFrame), (s.port p).line = some f → s.lodePending p = false →
    Leads (exec (.macTxEnd p) s) fun u => (u.port p).line = none ∧ (u.port p).preempted = (s.port p).preempted ∧
      u.rd (K.ctrPortTxFrames p) = (s.rd (K.ctrPortTxFrames p) + 1) % 2 ^ 64 ∧
      u.rd (K.ctrPortTxBytes p) = (s.rd (K.ctrPortTxBytes p) + f.length) % 2 ^ 64) ∧
  (∀ (s : State) (p : Fin 8) r rest, (s.tmPort p).ptp = r :: rest →
    Leads (exec (.ptpTsRead p) s) fun u => (u.tmPort p).ptp = rest ∧ u.reply.length = 16 ∧ u.dict = s.dict) ∧
  (∀ (s : State) (p : Fin 7) (y : Fin 64) (suite : BitVec 8), y.val < secyCount p →
    (suite = 1#8 ∨ suite = 2#8 ∨ (suite = 3#8 ∨ suite = 4#8) ∧ s.rd (K.secyReplayWindow (secyIx p y)) ≤ 0x3FFFFFFF →
      Leads (exec (.cipherSuiteWrite p y suite) s) fun u => u.rd (K.secyCipherSuite (secyIx p y)) = suite.toNat ∧
        u.rd (K.secyPnThreshold (secyIx p y)) = (if suite.toNat ≤ 2 then 0xC0000000 else 0xC000000000000000) ∧
          u.abort = Abort.ok) ∧
    (suite = 0#8 ∨ 5 ≤ suite.toNat → exec (.cipherSuiteWrite p y suite) s = .next { s with abort := 0x03000006 })) ∧
  (∀ (s : State) (p : Fin 7) (c : Fin 256) (rx : Bool) (y : Fin 64) (sci : BitVec 64), c.val < scCount p → y.val < secyCount p →
    (Leads (exec (.macsecScWrite p c true true y sci) s) fun u => u.chan p c = ⟨true, true, y, sci, (s.chan p c).ctrs⟩ ∧
      u.opStatus = 0) ∧
    ((∀ d, d < scCount p → d ≠ c.val → (s.chan p d).used = true → (s.chan p d).rx = false → (s.chan p d).secy ≠ y.val) →
      Leads (exec (.macsecScWrite p c true false y sci) s) fun u => u.chan p c = ⟨true, false, y, sci, (s.chan p c).ctrs⟩ ∧
        u.opStatus = 0) ∧
    (Leads (exec (.macsecScWrite p c false rx y sci) s) fun u => u.chan p c = SecChan.zero ∧ u.opStatus = 0 ∧
      ∀ an, an < 4 → u.sa (4 * scKey p c + an) = Sa.zero))

/-- PARSE_FRAME takes a port's oldest received frame (on M0 alternately with the ACF bridge's); one that finds cells and that
MACsec does not drop joins the parsed frames with its length, cells, timestamp and parse status, any other leaves them as they
are. CLASSIFY_FRAME takes the oldest parsed frame and counts its status: a failed status frees the cells when ParseFailAction
says drop; a Drop rule and a miss are counted; a Forward rule without lookup, learning or scan sends the descriptor with the
rule's fields to DX when nothing waits before it. SCAN_COMPLETE of a free lane takes its oldest scan; where its descriptor is
the next to go, it goes with the match of highest action and lowest index, a Drop match drops it and an Exception match takes it
to the exception path. A table write of an image within its rules, of every form, writes exactly that entry with status 0;
another is refused. (03_parse_classify.md, 13_orchard.md, 15_barrel_io.md) -/
def Obligations.FramesAreParsedAndClassified : Prop :=
  (∀ (s s1 : State) (p : Fin 8) (f : RxFrame), s.nextRx p = some (f, s1) →
    let w := (s1.writeFrame (s.poolOf p (s.ingressPriority p f.bytes)) f.bytes).1
    Leads (exec (.parseFrame p) s) fun u => (u.port p).rxQ = (s1.port p).rxQ ∧ u.bio.inject = s1.bio.inject ∧
      (∀ h, w = some h → f.dropped = false → ∃ q : Parsed, u.parsedQ p = s.parsedQ p ++ [q] ∧ q.length = f.bytes.length ∧
        q.firstCell = h ∧ q.ts = f.ts ∧ q.status = (s.parse p f.bytes).status) ∧
      (w = none ∨ f.dropped = true → u.parsedQ p = s.parsedQ p)) ∧
  (∀ (s : State) (p : Fin 8) (f : RxFrame) (r : List RxFrame), (s.port p).rxQ = f :: r →
    ((p ≠ 7 ∨ s.bio.inject = [] ∨ s.bio.injectTurn = false) →
      ∃ s1, s.nextRx p = some (f, s1) ∧ (s1.port p).rxQ = r ∧ s1.bio.inject = s.bio.inject) ∧
    (∀ g q, p = 7 → s.bio.inject = g :: q → s.bio.injectTurn = true →
      ∃ s1, s.nextRx p = some (g, s1) ∧ (s1.port p).rxQ = f :: r ∧ s1.bio.inject = q)) ∧
  (∀ (s : State) (p : Fin 8) (q : Parsed) (r : List Parsed), s.parsedQ p = q :: r →
    (Leads (exec (.classifyFrame p) s) fun u => u.parsedQ p = r ∧
      u.rd (parseCounter p q.status) = (s.rd (parseCounter p q.status) + 1) % 2 ^ 64) ∧
    (2 ≤ q.status → bit (s.rd K.prsParseFailAction) q.status = 0 →
      exec (.classifyFrame p) s = .next (((s.setParsedQ p r).bump (parseCounter p q.status)).freeChain q.firstCell ownIngress)) ∧
    (let b := s.frameBytes q.firstCell q.length
     q.status ≤ 1 → s.isUdaFrame p b q = false → s.ruleErrors (westPort p) = [] →
      (s.ruleFind (westPort p) (s.searchKey p b q) = none →
        Leads (exec (.classifyFrame p) s) fun u => u.rd (K.ctrPrsRuleNoHit p) = (s.rd (K.ctrPrsRuleNoHit p) + 1) % 2 ^ 64 ∧
          u.outQ p = s.outQ p) ∧
      (∀ ix rule, s.ruleFind (westPort p) (s.searchKey p b q) = some (ix, rule) →
        let act := (tget Rule.zero s.pc.rules ix).action
        (actVerdict act = 1 → Leads (exec (.classifyFrame p) s) fun u =>
          u.rd (K.ctrPrsRuleDrop p) = (s.rd (K.ctrPrsRuleDrop p) + 1) % 2 ^ 64 ∧ u.outQ p = s.outQ p ∧ u.pc.toDx = s.pc.toDx) ∧
        (actVerdict act = 0 → actLookup act = false → actLearn act = false →
          bit (s.rd (K.prsScanClassMask (actFlow act / 64))) (actFlow act % 64) = 0 → s.outQ p = [] → s.safeState = false →
          Leads (exec (.classifyFrame p) s) fun u => u.outQ p = [] ∧
            u.pc.toDx = s.pc.toDx ++ [{ q.desc p with
              ruleAction := act, ruleHit := true, ruleIndex := BitVec.ofNat 13 ix, orderDomain := BitVec.ofNat 10 (actDomain act),
              level := BitVec.ofNat 3 (actLevel act), windowSize := BitVec.ofNat 2 (actWindow act),
              flowClass := BitVec.ofNat 8 (actFlow act) }])))) ∧
  (∀ (s : State) (lane : Fin 8) c r, tget [] s.pc.lanes lane = c :: r → s.laneBusy lane = false →
    (Leads (exec (.scanComplete lane) s) fun u => tget [] u.pc.lanes lane = r ∧
      u.rd (K.ctrPrsScanScanned c.port) = (s.rd (K.ctrPrsScanScanned c.port) + 1) % 2 ^ 64) ∧
    (∀ o : OutDesc, s.outQ c.port = [o] → o.id = c.id → s.safeState = false →
      Leads (exec (.scanComplete lane) s) fun u => u.outQ c.port = [] ∧
        match topMatch (s.scan c.bytes c.flowClass).1 with
        | none => u.pc.toDx = s.pc.toDx ++ [o.desc]
        | some (i, a) =>
          if a = 2 ∨ a = 3 then u.pc.toDx = s.pc.toDx ∧ (a = 3 →
            u.rd (K.ctrPrsPatternDrop c.port) = (s.rd (K.ctrPrsPatternDrop c.port) + 1) % 2 ^ 64)
          else u.pc.toDx = s.pc.toDx ++ [{ o.desc with patternHit := true, patternId := BitVec.ofNat 12 i }])) ∧
  (∀ (s : State) (n prof : BitVec 8), 1 ≤ n.toNat → n.toNat ≤ 15 → prof.toNat ≤ 15 →
    Leads (exec (.parseGraphWrite (.native n prof)) s) fun u => u.opStatus = 0 ∧ u.nodeProfile n.toNat = prof.toNat ∧
      u.pc.nodes = s.pc.nodes ∧ u.pc.transitions = s.pc.transitions) ∧
  (∀ (s : State) (n : BitVec 8) (a b c d e f g : Nat) (l : Option Nat) (t : Bool), 0x40 ≤ n.toNat → n.toNat ≤ 0x7F →
    (Leads (exec (.parseGraphWrite (.node n false l a b c d e f t g)) s) fun u => u.opStatus = 0 ∧
      tget ProgNode.zero u.pc.nodes n.toNat = ProgNode.zero) ∧
    (1 ≤ f → f ≤ 32 → e ≤ 4095 → g ≤ 15 →
      (∃ k, l = some k ∧ 1 ≤ k ∧ k ≤ 256) ∨ (l = none ∧ 1 ≤ b ∧ b ≤ 16 ∧ c ∈ [1, 2, 4, 8] ∧ d ≤ 255 ∧ a ≤ 4095) →
      Leads (exec (.parseGraphWrite (.node n true l a b c d e f t g)) s) fun u => u.opStatus = 0 ∧
        tget ProgNode.zero u.pc.nodes n.toNat = ⟨true, l, a, b, c, d, e, f, t, g⟩ ∧
        ∀ k, k ≠ n.toNat → tget ProgNode.zero u.pc.nodes k = tget ProgNode.zero s.pc.nodes k)) ∧
  (∀ (s : State) (k : BitVec 16) (frm dest : BitVec 8) (v m : BitVec 32), k.toNat < 1024 →
    (Leads (exec (.parseGraphWrite (.transition k false frm v m dest)) s) fun u => u.opStatus = 0 ∧
      tget Transition.zero u.pc.transitions k.toNat = Transition.zero) ∧
    (((1 ≤ frm.toNat ∧ frm.toNat ≤ 15) ∨ (0x40 ≤ frm.toNat ∧ frm.toNat ≤ 0x7F)) →
      (0x40 ≤ dest.toNat ∧ dest.toNat ≤ 0x7F) ∨ (0x40 ≤ frm.toNat ∧ 1 ≤ dest.toNat ∧ dest.toNat ≤ 15) →
      Leads (exec (.parseGraphWrite (.transition k true frm v m dest)) s) fun u => u.opStatus = 0 ∧
        tget Transition.zero u.pc.transitions k.toNat = ⟨true, frm.toNat, v, m, dest.toNat⟩ ∧
        ∀ j, j ≠ k.toNat → tget Transition.zero u.pc.transitions j = tget Transition.zero s.pc.transitions j)) ∧
  (∀ (s : State) (p : Fin 16) (image : List Byte),
    (image.length = 128 → (∀ i, i < 16 → extractOk (leAt image (8 * i) 8) = true) →
      Leads (exec (.keyProfileWrite p image) s) fun u => u.opStatus = 0 ∧
        ∀ i, i < 256 → tget 0 u.pc.keyProfiles i =
          if i / 16 = p.val then leAt image (8 * (i % 16)) 8 else tget 0 s.pc.keyProfiles i) ∧
    (image.length ≠ 128 ∨ (∃ i, i < 16 ∧ extractOk (leAt image (8 * i) 8) = false) →
      exec (.keyProfileWrite p image) s = .next (s.status opRefused))) ∧
  (∀ (s : State) (pos : Fin 8192) (v : Bool) (value mask : BitVec 512) (act : BitVec 32),
    (actOk act = true → Leads (exec (.ruleWrite pos v value mask act) s) fun u => u.opStatus = 0 ∧
      tget Rule.zero u.pc.rules pos =
        ⟨v, value, mask, act, (tget Rule.zero s.pc.rules pos).hits, false, false, false, false, false, false⟩ ∧
      ∀ k, k ≠ pos.val → tget Rule.zero u.pc.rules k = tget Rule.zero s.pc.rules k) ∧
    (actOk act = false → exec (.ruleWrite pos v value mask act) s = .next (s.status opRefused))) ∧
  (∀ (s : State) (pos : Fin 4096) (im : PatternImage), 1 ≤ im.bytes.length → im.bytes.length ≤ 64 → im.anchor.toNat ≤ 2 →
    im.offset.toNat ≤ 2047 → im.range.toNat ≤ 2047 → im.action.toNat ≤ 3 →
    Leads (exec (.patternWrite pos im) s) fun u => u.opStatus = 0 ∧
      tget Pattern.zero u.pc.patterns pos = ⟨im.valid, im.bytes, im.noCase, im.anchor.toNat, im.offset.toNat, im.range.toNat,
        im.flowValue, im.flowMask, im.action.toNat, (tget Pattern.zero s.pc.patterns pos).hits, false⟩ ∧
      ∀ k, k ≠ pos.val → tget Pattern.zero u.pc.patterns k = tget Pattern.zero s.pc.patterns k)

/-- A RELEASE answers the first outcome of R307 that holds: of a buffer other owners still hold it clears the bit and answers
LEFT, by the last owner it frees the buffer. A FREE by the Pilot or the DMA Engine that is not the last owner quarantines the
buffer and answers NOT LAST, and one by the last frees it; RECLAIM of a quarantined buffer frees it, RECLAIM ALL every one
(their chains being disjoint); RECOVER starts a walk and RECOVER_DONE ends it and leaves every reachable cell. A range within
the Pilot region that overlaps no claim is claimed, UNCLAIM of exactly that range ends the claim, and a claimed cell takes a
256-byte image. SPILL_MIGRATE of the buffer that migrates next frees its on-chip cell and counts it, and SPILL_READ_DONE ends
the requested reads of the buffer's cells. (13_orchard.md) -/
def Obligations.CellsAreOwnedAndReturned : Prop :=
  (∀ (s : State) (o : Fin 12) (h : BitVec 24), let c := s.cell h.toNat
    s.isBufferCell h.toNat = true → c.allocated = true → c.head = true → c.quarantined = false → c.owners.getLsbD o = true →
    (c.owners &&& ~~~(1#16 <<< o.val) ≠ 0#16 → Leads (exec (.orchardRelease o h) s) fun u => u.opStatus = 1 ∧
      (h.toNat < 0x200000 → u.mem = s.mem) ∧
      u.cell h.toNat = { c with owners := c.owners &&& ~~~(1#16 <<< o.val) }) ∧
    (c.owners = 1#16 <<< o.val → s.badLinkOf h.toNat = none →
      Leads (exec (.orchardRelease o h) s) fun u => u.opStatus = 0 ∧ (u.cell h.toNat).allocated = false ∧
        u.rd K.ctrOrchFrees = (s.rd K.ctrOrchFrees + 1) % 2 ^ 64)) ∧
  (∀ (s : State) (o : Fin 12) (h : BitVec 24),
    let c := s.cell h.toNat
    let left := c.owners &&& ~~~(1#16 <<< o.val)
    Leads (exec (.orchardRelease o h) s) fun u => u.opStatus =
      if s.isBufferCell h.toNat = false then 6 else if c.allocated = false then 2 else if c.head = false then 6
      else if c.quarantined = true then 5 else if c.owners.getLsbD o = false then 4 else if left ≠ 0#16 then 1
      else if s.badLinkOf h.toNat = none then 0 else 5) ∧
  (∀ (s : State) (d : Bool) (h : BitVec 24), let c := s.cell h.toNat
    let o := if d then 10 else 9
    s.isBufferCell h.toNat = true → c.allocated = true → c.head = true →
    (c.quarantined = false → c.owners.getLsbD o = true →
      (c.owners &&& ~~~(1#16 <<< o) ≠ 0#16 → Leads (exec (.orchardFree d h) s) fun u => u.opStatus = 3 ∧
        (h.toNat < 0x200000 → u.mem = s.mem) ∧ u.cell h.toNat = { c with quarantined := true }) ∧
      (c.owners = 1#16 <<< o → s.badLinkOf h.toNat = none →
        Leads (exec (.orchardFree d h) s) fun u => u.opStatus = 0 ∧ (u.cell h.toNat).allocated = false ∧
          u.rd K.ctrOrchFrees = (s.rd K.ctrOrchFrees + 1) % 2 ^ 64 ∧
          (d = false → ∀ x ∈ u.pc.exceptionQ, x.firstCell ≠ h))) ∧
    (c.quarantined = true → Leads (exec (.reclaim h) s) fun u => u.opStatus = 0 ∧ (u.cell h.toNat).allocated = false ∧
      h.toNat ∉ u.orch.quarantineList)) ∧
  (∀ s : State, s.on K.orchRecoverState = false →
    (∀ h ∈ s.quarantinedHeads, s.isBufferCell h = true ∧ (s.cell h).allocated = true ∧ (s.cell h).head = true ∧
      (s.cell h).quarantined = true) →
    (∀ g ∈ s.quarantinedHeads, ∀ h ∈ s.quarantinedHeads, g ≠ h → ∀ c ∈ s.chain g, c ∉ s.chain h) →
    Leads (exec .reclaimAll s) fun u => u.abort = 0 ∧
      ∀ h ∈ s.quarantinedHeads, h ∉ u.orch.quarantineList ∧ (u.cell h).allocated = false) ∧
  (∀ s : State, (s.on K.orchRecoverState = false →
      Leads (exec .recover s) fun u => u.on K.orchRecoverState = true ∧ u.abort = 0 ∧ u.mem = s.mem) ∧
    (s.on K.orchRecoverState = true →
      (Leads (exec .recoverDone s) fun u => u.on K.orchRecoverState = false ∧
        ∀ h, h ∈ s.reachable ++ s.orch.sinceWalk → u.cell h = s.cell h) ∧
      exec .recover s = .next { s with abort := 0x03000008 } ∧ exec .reclaimAll s = .next { s with abort := 0x03000008 })) ∧
  (∀ (s : State) (b : BitVec 24) (n : BitVec 32), s.pilotBase ≤ b.toNat → b.toNat + n.toNat ≤ 196608 →
    (s.orch.claims.all (fun c => decide (b.toNat + n.toNat ≤ c.1) || decide (c.1 + c.2 ≤ b.toNat)) = true →
      Leads (exec (.claim b n) s) fun u => u.opStatus = 9 ∧ u.orch.claims = s.orch.claims ++ [(b.toNat, n.toNat)]) ∧
    ((b.toNat, n.toNat) ∈ s.orch.claims → Leads (exec (.unclaim b n) s) fun u => u.opStatus = 9 ∧
      (b.toNat, n.toNat) ∉ u.orch.claims)) ∧
  (∀ (s : State) (h : BitVec 24) (image : List Byte), s.claimed h.toNat = true → image.length = 256 → h.toNat < 196608 →
    Leads (exec (.pilotRegionWrite h image) s) fun u => u.opStatus = 0 ∧ s.Stored u (memKey .cell (256 * h.toNat)) image) ∧
  (∀ (s : State) (h : BitVec 24) (c n : Nat), s.spillHead = some h.toNat → (s.cell h.toNat).pool < 32 →
    (((s.chain h.toNat).drop 1).dropLast.find? (· < 0x200000)) = some c → s.freeSpill = some n →
    Leads (exec (.spillMigrate h) s) fun u => (u.cell c).allocated = false ∧
      u.rd K.ctrOrchMigratedCells = (s.rd K.ctrOrchMigratedCells + 1) % 2 ^ 64) ∧
  (∀ (s : State) (h : BitVec 24), Leads (exec (.spillReadDone h) s) fun u => u.mem = s.mem ∧
    ∀ x ∈ s.orch.spillReads, if x.1 ∈ s.chain h.toNat then x ∉ u.orch.spillReads ∧ x ∈ u.orch.readBack
      else x ∈ u.orch.spillReads)

/-- On a replica neither BUILDING nor COPYING and with no slot in error: LEARN_INSERT of a key the replica lacks writes a
LEARNED entry of the key and port into the lowest free way of its buckets, of a key it holds sets Hit; AGE_SWEEP_VISIT of a
LEARNED entry not written in the same cycle clears Hit and Age when Hit is set, with Age at its limit clears the slot and counts
it. On either replica (and not in the cycle of a SWAP) FIND answers the position and image of the key's entry, INSERT of a key
it holds updates that slot and answers UPDATED, of a narrow key it lacks writes the lowest free way of the first bucket with
room and answers OK, DELETE clears the slots and answers DELETED; FIND on both answers both. A profile of at most four ranges of
at most 320 bits in all is written. REHASH_START with a claimed shadow image and no rebuild running empties the change log and
goes to BUILDING; while one runs it is refused with BUSY. REHASH_SWAP in BUILDING with every change in the image goes to COPYING
and REHASH_CANCEL in BUILDING to ABORTED; REHASH_COPY_DONE ends COPYING (REQUESTED after a failure meanwhile), takes the new
seeds and counts the rehash. (04_bramble.md) -/
def Obligations.BrambleKeepsItsEntries : Prop :=
  (
  (∀ (s : State) (w : Bool), (s.rep w).bad = [] → s.rehash w ≠ 2 → s.rehash w ≠ 3 →
    (∀ key port r, (s.rep w).learnQ = (key, port) :: r →
      (∀ i, s.brFind w 0 key = some i → Leads (exec (.learnInsert w) s) fun u => (u.rep w).learnQ = r ∧ u.mem = s.mem ∧
        u.brSlot w i = { s.brSlot w i with hit := true }) ∧
      (∀ i, s.brFind w 0 key = none → s.brPlace w (bucketsOf (s.brSeeds w) 0 key false).1 false = some i → key < 2 ^ 160 →
        Leads (exec (.learnInsert w) s) fun u => (u.rep w).learnQ = r ∧ u.mem = s.mem ∧
          u.brSlot w i = { BrEntry.zero with valid := true, etype := 1, hit := true, data := BitVec.ofNat 32 port, key := key })) ∧
    (∀ i : Fin 131136, let e := s.brSlot w i
      e.valid = true → e.half = 0 → e.etype = 1 → e.mirror = false → (s.rep w).wrote.1 ≠ s.now ∨ i.val ∉ (s.rep w).wrote.2 →
      (e.hit = true → Leads (exec (.ageSweepVisit w i) s) fun u => u.brSlot w i = { e with hit := false, age := 0 } ∧
        u.mem = s.mem) ∧
      (e.hit = false → e.age + 1 < s.rd (K.brAgeLimit (b2n w)) → Leads (exec (.ageSweepVisit w i) s) fun u =>
        u.brSlot w i = { e with age := e.age + 1 } ∧ u.mem = s.mem) ∧
      (e.hit = false → s.rd (K.brAgeLimit (b2n w)) ≤ e.age + 1 → Leads (exec (.ageSweepVisit w i) s) fun u =>
        u.brSlot w i = BrEntry.zero ∧ u.mem = s.mem ∧
          u.rd (K.ctrBrAgedOut (b2n w)) = (s.rd (K.ctrBrAgedOut (b2n w)) + 1) % 2 ^ 64))) ∧
  (∀ (s : State) (w : Bool) (image : List Byte) (e : BrEntry) (key : Nat), s.brImage image = some (e, key) → (s.rep w).bad = [] →
    s.rehash w ≠ 3 → (s.rep w).swapAt ≠ some s.now →
    let tg : BitVec 8 := if w then 2#8 else 1#8
    let ans (st : Nat) (body : List Byte) : List Byte :=
      [if w then 0xFF#8 else BitVec.ofNat 8 st, if w then BitVec.ofNat 8 st else 0xFF#8, 0#8, 0#8] ++ body
    (∀ i, s.brFind w e.profile key = some i →
      (Leads (exec (.brambleFind tg image) s) fun u => u.opStatus = 0 ∧ u.mem = s.mem ∧
        u.reply = ans 0 (toBE 4 (brPosition w i) ++ s.brEntryBytes w i)) ∧
      (Leads (exec (.brambleInsert tg image) s) fun u => u.opStatus = 1 ∧ u.mem = s.mem ∧
        u.brSlot w i = { s.brSlot w i with etype := e.etype, data := e.data, mirror := e.mirror }) ∧
      ((s.brSlot w i).half = 0 → Leads (exec (.brambleDelete tg image) s) fun u => u.opStatus = 2 ∧ u.mem = s.mem ∧
        u.brSlot w i = BrEntry.zero ∧ ∀ k, k ≠ i → u.brSlot w k = s.brSlot w k) ∧
      ((s.brSlot w i).half = 1 → Leads (exec (.brambleDelete tg image) s) fun u => u.opStatus = 2 ∧ u.mem = s.mem ∧
        u.brSlot w i = BrEntry.zero ∧ u.brSlot w (i + 1) = BrEntry.zero ∧
          ∀ k, k ≠ i → k ≠ i + 1 → u.brSlot w k = s.brSlot w k)) ∧
    (s.brFind w e.profile key = none →
      (Leads (exec (.brambleFind tg image) s) fun u => u.opStatus = 3 ∧ u.mem = s.mem ∧ u.reply = ans 3 []) ∧
      (Leads (exec (.brambleDelete tg image) s) fun u => u.opStatus = 3 ∧ u.mem = s.mem ∧ ∀ k, u.brSlot w k = s.brSlot w k) ∧
      (∀ i, s.brWide e.profile = false → s.brRoom w (bucketsOf (s.brSeeds w) e.profile key false) false = some i →
        Leads (exec (.brambleInsert tg image) s) fun u => u.opStatus = 0 ∧ u.mem = s.mem ∧
          u.brSlot w i = { e with valid := true, half := 0, key := key % 2 ^ 160 } ∧
          ∀ k, k ≠ i → u.brSlot w k = s.brSlot w k))) ∧
  (∀ (s : State) (image : List Byte) (e : BrEntry) (key i j : Nat), s.brImage image = some (e, key) → s.br.east.bad = [] →
    s.br.west.bad = [] → s.rehash false ≠ 3 → s.rehash true ≠ 3 → s.brFind false e.profile key = some i →
    s.brFind true e.profile key = some j →
    Leads (exec (.brambleFind 3#8 image) s) fun u => u.opStatus = 0 ∧ u.reply = [0#8, 0#8, 0#8, 0#8] ++
      toBE 4 (brPosition false i) ++ s.brEntryBytes false i ++ toBE 4 (brPosition true j) ++ s.brEntryBytes true j) ∧
  (∀ (s : State) (p : Fin 8) (ranges : List (Nat × Nat)), ranges.length ≤ 4 →
    ranges.all (fun r => decide (1 ≤ r.2) && decide (r.2 ≤ 160) && decide (r.1 + r.2 ≤ 480)) = true →
    (ranges.map (·.2)).sum ≤ 320 →
    Leads (exec (.brambleProfileWrite p ranges) s) fun u => u.opStatus = 0 ∧ tget [] u.br.profiles (8 + p) = ranges ∧
      u.br.east = s.br.east ∧ u.br.west = s.br.west)) ∧
  (
  ∀ (s : State) (w : Bool), let r := b2n w
    let claimed := ∃ c ∈ s.orch.claims, c.1 ≤ s.rd (K.brShadowBaseCell r) ∧ s.rd (K.brShadowBaseCell r) + 16392 ≤ c.1 + c.2
    (claimed → s.rehash w ≠ 2 → s.rehash w ≠ 3 → Leads (exec (.rehashStart w) s) fun u => u.rehash w = 2 ∧ u.abort = 0 ∧
      (u.rep w).changeLog = [] ∧ u.rd (K.brChangeLogSeq r) = 0 ∧ (u.rep w).slots = (s.rep w).slots) ∧
    (s.rehash w = 2 ∨ s.rehash w = 3 → exec (.rehashStart w) s = .next { s with abort := 0x03000008 }) ∧
    (claimed → s.rehash w = 2 → s.rd (K.brChangeLogSeq r) ≤ s.rd (K.brSwapLogSeq r) →
      Leads (exec (.rehashSwap w) s) fun u => u.rehash w = 3 ∧ u.abort = 0 ∧ u.mem = s.mem) ∧
    (s.rehash w = 2 → Leads (exec (.rehashCancel w) s) fun u => u.rehash w = 4 ∧ u.abort = 0 ∧ u.mem = s.mem ∧ u.br = s.br) ∧
    (s.rehash w = 3 → Leads (exec (.rehashCopyDone w) s) fun u =>
      u.rehash w = (if (s.rep w).failedInCopy then 1 else 0) ∧ (s.orch.badData = [] → u.mem = s.mem) ∧
        u.rd (K.brSeed0 r) = s.rd (K.brNewSeed0 r) ∧ u.rd (K.brSeed1 r) = s.rd (K.brNewSeed1 r) ∧
        u.rd (K.ctrBrRehashCount r) = (s.rd (K.ctrBrRehashCount r) + 1) % 2 ^ 64))

/-- An accepted stream image is written at its position. At the ingress point, with both links up, Lodestar running, no frame of
the port taken and the egress port claimed by no other frame of the cycle, a matching window counts in its stream; a frame that
may flow starts at once on a free egress line as an express frame with the egress timestamp of R115 and counts as cut through,
on a line that ends its frame soon counts as delayed, and any other counts as whole-frame. A delayed frame of a free line with
its link up starts, a held frame with a good verdict starts when line, pause and gate permit; a good verdict ends the flight of
a frame on the line with its bytes and FCS, and a bad one or an overlong frame is stomped and counted. (05_lodestar.md) -/
def Obligations.LodestarForwards : Prop :=
  (∀ (s : State) (pos : Fin 1024) (word : BitVec 128), s.streamOk pos { s.lstream pos with word := word } = true →
    Leads (exec (.lodestarStreamWrite pos word) s) fun u => u.opStatus = 0 ∧ (u.lstream pos).word = word ∧
      (u.lstream pos).frames = (s.lstream pos).frames ∧ ∀ k, k ≠ pos.val → u.lstream k = s.lstream k) ∧
  (∀ (s : State) (p : Fin 7) (win w : List Byte) (y : Option Nat) (soon : Bool) (inst : BitVec 32) (i : Nat) (x : LStream),
    s.rd (K.portLinkState p) = 1 → (s.port p).lodeIn = none → s.lodeRuns = true → s.lodeView p win = some (w, y) →
    (s.lode.streams.find? fun kx => kx.2.matches p w y) = some (i, x) → x.egress ≠ p.val → x.egress < 7 →
    s.rd (K.portLinkState x.egress) = 1 → s.egressBar x.egress x.outSecY = none →
    (s.port x.egress).lodeClaim ≠ some ((100 * s.now + inst.toNat) / 50) →
    let e := x.egress
    let flows : Bool := decide (s.portRate e ≤ s.portRate p)
      && !s.halted e (if x.tagged then beAt w 14 2 / 8192 else s.rd (K.prsDefaultPcp p))
      && s.gateFits e x.cls (s.gateUnits e) (s.lineUnits e (min x.maxLength (s.rd (K.portMaxFrame e))))
    Leads (exec (.lodestarIngressPoint p win soon inst) s) fun u => (u.port p).lodeIn = some s.lode.nextId ∧
      (u.lstream i).frames = (x.frames + 1) % 2 ^ 64 ∧
      (flows = true → s.lineFree e = true → u.rd K.ctrLodeCutThrough = (s.rd K.ctrLodeCutThrough + 1) % 2 ^ 64 ∧
        ∃ f, (u.port e).line = some f ∧ f.express = true ∧ f.cls = x.cls ∧
          f.ts = s.txTs e x.cls ((inst.toNat + max 400 (300 + 64 * 10 ^ 8 / s.portRate e)) / 25)) ∧
      (flows = true → s.lineFree e = false → soon = true → (u.port e).line = (s.port e).line ∧
        u.rd K.ctrLodeDelayed = (s.rd K.ctrLodeDelayed + 1) % 2 ^ 64) ∧
      (flows = false ∨ s.lineFree e = false ∧ soon = false → (u.port e).line = (s.port e).line ∧
        u.rd K.ctrLodeWholeFrame = (s.rd K.ctrLodeWholeFrame + 1) % 2 ^ 64)) ∧
  (∀ (s : State) (e : Fin 7) (lead : BitVec 32) (f : Flight), (s.port e).line = none → (s.port e).ctrlQ = [] →
    s.rd (K.portLinkState e) = 1 → s.safeState = false →
    ((s.lode.flights.find? fun f => decide (f.egress = e.val ∧ f.form = 1)) = some f →
      Leads (exec (.lodestarDelayedStart e lead) s) fun u => ∃ l, (u.port e).line = some l ∧ l.express = true ∧ l.cls = f.cls ∧
        l.stream = some f.stream ∧ l.stomped = decide (f.bad ≠ 0)) ∧
    ((s.lode.flights.find? fun f => decide (f.egress = e.val ∧ f.form = 2)) = some f → f.passed = true → s.halted e f.pcp = false →
      s.gateFits e f.cls (s.gateUnits e) (s.lineUnits e (f.arrived.getD 0)) = true → s.egressBar e f.secY.toNat = none →
      Leads (exec (.lodestarHoldTx e lead) s) fun u => (∀ g ∈ u.lode.flights, g.id ≠ f.id) ∧
        ∃ l, (u.port e).line = some l ∧ l.express = true ∧ l.cls = f.cls ∧ l.stream = some f.stream)) ∧
  (∀ (s : State) (p : Fin 7) (sent : BitVec 14) (f : Flight) (l : TxFrame),
    (s.lode.flights.find? fun f => decide (f.ingress = p.val) && f.verdict.isSome && !f.passed) = some f →
    f.form = 0 → (s.port f.egress).line = some l →
    (f.event = 0 → Leads (exec (.lodestarVerdict p none sent) s) fun u => (∀ g ∈ u.lode.flights, g.id ≠ f.id) ∧
      (u.port f.egress).line = some (l.filled f.payload) ∧ u.dict = s.dict) ∧
    (∀ key, (f.event, key) ∈ [(1, K.ctrLodeStompFcs), (2, K.ctrLodeStompIcv), (3, K.ctrLodeStompLength)] →
      Leads (exec (.lodestarVerdict p none sent) s) fun u => (∀ g ∈ u.lode.flights, g.id ≠ f.id) ∧
        (u.lstream f.stream).stomps = ((s.lstream f.stream).stomps + 1) % 2 ^ 64 ∧ u.rd key = (s.rd key + 1) % 2 ^ 64 ∧
        ∃ k, (u.port f.egress).line = some k ∧ k.stomped = true ∧ k.crc = 0xFFFFFFFF - fcs k.bytes)) ∧
  (∀ (s : State) (p : Fin 7) (w : List Byte) (sent : BitVec 14) (f : Flight),
    (s.lode.flights.find? fun f => decide (some f.id = (s.port p).lodeIn)) = some f → f.form = 0 → f.bad = 0 →
    (s.lineLength f.egress f.secY.toNat (s.asDelivered p w).length ≤ f.limit →
      Leads (exec (.lodestarVerdict p (some w) sent) s) fun u => u.dict = s.dict ∧ u.px = s.px ∧
        ∃ g ∈ u.lode.flights, g = { f with payload := s.asDelivered p w }) ∧
    (f.limit < s.lineLength f.egress f.secY.toNat (s.asDelivered p w).length →
      Leads (exec (.lodestarVerdict p (some w) sent) s) fun u => (∀ g ∈ u.lode.flights, g.id ≠ f.id) ∧
        u.rd K.ctrLodeStompLength = (s.rd K.ctrLodeStompLength + 1) % 2 ^ 64))

/-- A post to a level with room enters its tail; a grant gives the oldest item of level 7 that an idle thread can take to the
thread of R130, and a TIMED item no idle thread is eligible for to its victim (in safe state nothing); a WORK event at its turn
starts an idle thread at its entry point with cleared registers; a pre-emption saves the Bulk context in the slot and starts the
item in the second set, or after the work's end is an ordinary WORK event. An inserted entry with room joins its list, a
cancelled one leaves it; of the due entries the first enters its level, goes to the Traffic Manager, or is held by a full level
and counted. A gauge refresh gives each level's depth. An armed wait past its (N + 1)th strobe replies with WaitStatus TIMEOUT,
and a WFE goes on. A quiescent group counts a stall and the members it wakes, and the dead wait of its only member completes
STALLED. A semaphore, channel or event image within its bounds and a group bitmap are written; the Pilot's atomic write replaces
one doubleword and mends it. (06_dispatcher.md, 08_wenkin_core.md, 12_rendezvous.md) -/
def Obligations.WorkIsQueuedAndGranted : Prop :=
  (
  (∀ (s : State) (l : Fin 8) (aff : BitVec 16) (tag : BitVec 32),
    (s.levelFull l = false → s.nonPacket < 2048 → Leads (exec (.dispatcherPost l aff tag) s) fun u => u.opStatus = 0 ∧
      u.level l = s.level l ++ [⟨.posted, l, aff, tag, 0, 0, s.now⟩] ∧ u.mem = s.mem) ∧
    (s.levelFull l = true → exec (.dispatcherPost l aff tag) s = .next { s with opStatus := Config.levelFull })) ∧
  (∀ (s : State), (s.safeState = true → exec .dispatcherGrant s = .next s) ∧
    (∀ i r t, s.safeState = false → s.level 7 = i :: r → s.threadFor none i = some t →
      (Leads (exec .dispatcherGrant s) fun u => (t, FromDx.work) ∈ u.fromDx (crossOf t) ∧
        ∃ g, (u.thread t).work = some g ∧ g.item = i) ∧
      (r = [] → (∀ k, k < 7 → s.level k = []) → Leads (exec .dispatcherGrant s) fun u => (∀ k, k < 8 → u.level k = []) ∧
        u.rd K.ctrDispGranted = (s.rd K.ctrDispGranted + 1) % 2 ^ 64 ∧
        (i.isPacket = true → (u.jentry i.journal).st = .running ∧ (u.jentry i.journal).thread = t))) ∧
    (∀ i t, s.safeState = false → s.level 7 = [i] → (∀ k, k < 7 → s.level k = []) → s.threadFor none i = none → i.isTimed = true →
      s.classOf 7 = 0 → s.on K.dispPreemptEnable = true → s.victim none i = some t →
      Leads (exec .dispatcherGrant s) fun u => u.level 7 = [] ∧ (∃ g, (u.thread t).preempt = some g ∧ g.item = i) ∧
        u.rd K.ctrDispPreemptions = (s.rd K.ctrDispPreemptions + 1) % 2 ^ 64)) ∧
  (∀ (s : State) (t : Fin 512) (g : Grant), (s.thread t).work = some g → (s.thread t).st = .idle → s.arrives t .work = true →
    Leads (exec (.threadWorkStart t) s) fun u => let y := u.thread t
      y.item = some g.item ∧ y.st = (if g.item.isPacket then .starting else .ready) ∧ y.pc = s.rd (K.thrEntryPoint (t / 8) (t % 8)) ∧ y.regs = [] ∧ y.tsw = 0#32 ∧
        y.loops = [] ∧ y.work = none ∧ y.sregs.wtag = (if g.item.isPacket then 0#32 else g.item.tag)) ∧
  (∀ (s : State) (t : Fin 512) (g : Grant) (b : Item), let x := s.thread t
    x.preempt = some g → x.item = some b → s.arrives t .preempt = true → s.NoSignal t → g.item.isPacket = false →
    (x.st ≠ .ending → Leads (exec (.preemptSave t) s) fun u => let y := u.thread t
      y.second = true ∧ y.item = some g.item ∧ y.st = .ready ∧ y.regs = [] ∧ y.preempt = none ∧ y.window = x.window ∧
        ∃ v, y.saved = some v ∧ v.item = b ∧ v.regs = x.regs ∧ v.pc = x.pc ∧ v.tsw = x.tsw ∧
          v.st = match x.st with
            | .held _ => .ready
            | st => st) ∧
    (x.st = .ending → Leads (exec (.preemptSave t) s) fun u => (u.thread t).preempt = none ∧ (u.thread t).work = some g ∧
      (u.thread t).item = some b)) ∧
  (∀ (s : State) (l : Fin 8) (w : BitVec 128), bits w.toNat 43 32 = 0 →
    (if bit w.toNat 44 = 1 then bits w.toNat 63 45 = 0 else bits w.toNat 63 48 ≠ 0 ∧ s.classOf (bits w.toNat 47 45) = 0) →
    (s.delayList l).entries.length < 2048 →
    (∃ k, k < 2048 ∧ ∀ e ∈ (s.delayList l).entries, e.slot ≠ k) →
    Leads (exec (.delayListInsert l w) s) fun u => u.opStatus ≤ 1 ∧ u.reply.length = 2 ∧
      ∃ e, (u.delayList l).entries = insertDue e (s.delayList l).entries ∧ e.due = bits w.toNat 127 64 ∧
        e.launch = decide (bit w.toNat 44 = 1)) ∧
  (∀ (s : State) (h : BitVec 16), let x := s.delayList (h.toNat / 2 ^ 13)
    let f := x.entries.find? fun e => decide (delayHandle (h.toNat / 2 ^ 13) e = h.toNat)
    (∀ e, f = some e → Leads (exec (.delayListCancel h) s) fun u => u.opStatus = 4 ∧
      (u.delayList (h.toNat / 2 ^ 13)).entries = x.entries.filter (· ≠ e)) ∧
    (f = none → Leads (exec (.delayListCancel h) s) fun u => u.opStatus = 5 ∧ u.disp = s.disp)) ∧
  (∀ (s : State) (l : Fin 8) (e : DelayEntry), (s.delayList l).entries.find? (·.isDue) = some e →
    (e.launch = false → s.levelFull e.level = false → s.nonPacket < 2048 →
      Leads (exec (.delayEntryDue l) s) fun u => (u.delayList l).entries = (s.delayList l).entries.filter (· ≠ e) ∧
        u.level e.level = s.level e.level ++ [⟨.timed, e.level, e.affinity, e.tag, 0, l, s.now⟩]) ∧
    (e.launch = true → Leads (exec (.delayEntryDue l) s) fun u =>
      (u.delayList l).entries = (s.delayList l).entries.filter (· ≠ e) ∧
        u.rd K.ctrDispLaunchReleased = (s.rd K.ctrDispLaunchReleased + 1) % 2 ^ 64) ∧
    (e.launch = false → s.levelFull e.level = true → e.held = false → Leads (exec (.delayEntryDue l) s) fun u =>
      u.rd K.ctrDispReleaseHeld = (s.rd K.ctrDispReleaseHeld + 1) % 2 ^ 64 ∧ u.disp.levels = s.disp.levels)) ∧
  (∀ s : State, Leads (exec .gaugeRefresh s) fun u => u.mem = s.mem ∧ u.disp.levels = s.disp.levels ∧
    ∀ l, l < 8 → u.rd (K.gaugeLvlDepth l) = (s.level l).length)) ∧
  (
  (∀ (s : State) (t : Fin 580) (b : Bool) (m : Fin 2) (w : WaitOn) (n a : Nat), s.rp t b m = .out w n a → n ≠ 0 →
    a + n + 1 ≤ s.usStrobe → Leads (exec (.waitTimeout t b (some m)) s) fun u => u.mem = s.mem ∧
      u.rp t b m = .flying ⟨0x10000001#32, 0#32⟩ [] 0 ∧
      u.rd K.ctrDispWaitTimeouts = (s.rd K.ctrDispWaitTimeouts + 1) % 2 ^ 64) ∧
  (∀ (s : State) (t : Fin 580) (mask : BitVec 7) (n a : Nat), (s.thread t).st = .waiting mask n a → n ≠ 0 →
    a + n + 1 ≤ s.usStrobe → Leads (exec (.waitTimeout t (s.thread t).second none) s) fun u => u.mem = s.mem ∧
      (u.thread t).st = .ready ∧ (u.thread t).regs = (s.thread t).regs ∧ (u.thread t).ev = (s.thread t).ev ∧
      (u.thread t).pc = (s.thread t).pcAfter ((s.thread t).pc + 4)) ∧
  (∀ (s : State) (g : Fin 16), s.quiescent g = true →
    (Leads (exec (.quiescenceWake g) s) fun u => u.mem = s.mem ∧
      u.rd K.ctrRdvStalls = (s.rd K.ctrRdvStalls + 1) % 2 ^ 64 ∧
      u.rd K.ctrRdvStalledWakes = (s.rd K.ctrRdvStalledWakes + ((s.members g).filter (s.woken g)).length) % 2 ^ 64) ∧
    (∀ t b m w n a, s.members g = [t] → s.rp t b m = .out w n a → m < 2 → s.deadWait g w = true →
      Leads (exec (.quiescenceWake g) s) fun u => u.rp t b m = .flying ⟨0x10000002#32, 0#32⟩ [] 0)) ∧
  (∀ (s : State) (n : Fin 1024) (v : BitVec 32), bits v.toNat 31 16 ≠ 0 → bits v.toNat 15 0 ≤ bits v.toNat 31 16 →
    Leads (exec (.rendezvousConfigWrite (.sem n v)) s) fun u => u.opStatus = 0 ∧ u.mem = s.mem ∧
      tget semCfgDefault u.rdv.cfg.sems n = v) ∧
  (∀ (s : State) (n : Fin 1024) (v : BitVec 32),
    (v.toNat < 256 → bits v.toNat 6 0 ≤ 64 → Leads (exec (.rendezvousConfigWrite (.chan n v)) s) fun u => u.opStatus = 0 ∧
      u.mem = s.mem ∧ tget chanCfgDefault u.rdv.cfg.chans n = v) ∧
    (v.toNat < 8 → Leads (exec (.rendezvousConfigWrite (.event n v)) s) fun u => u.opStatus = 0 ∧
      u.mem = s.mem ∧ tget eventCfgDefault u.rdv.cfg.events n = v)) ∧
  (∀ (s : State) (g : Fin 16) (v : BitVec 576), Leads (exec (.rendezvousConfigWrite (.group g v)) s) fun u => u.opStatus = 0 ∧
    u.mem = s.mem ∧ tget 0#576 u.rdv.cfg.groups g = v) ∧
  (∀ (s : State) (w : Fin 8192) (v : BitVec 64), Leads (exec (.atomicMemoryWrite w v) s) fun u => u.opStatus = 0 ∧
    s.Stored u (memKey .atomic (8 * w)) (toLE 8 v.toNat) ∧ w.val ∉ u.rdv.badAtomic))

/-- The descriptor at the head of the crossing gets its domain's NextTicket and a free entry, and its PACKET item enters its
level, or with the level full it is a drop; a post at the head of its crossing joins the entry's list or is refused as R154
says, and replies; a sampled end makes the entry ENDED with its kind and EndArg (FAILED without a window cell) and settles the
locks; the window copies start and end the run; a fault below ReplayLimit makes the entry REPLAY with its list emptied, from the
limit on FAILED; the fence's end enters the REPLAY item at the head of its level. The release of the first releasable entry
frees it and raises HeadTicket; a failed or dropped one reaches no port; a PKTFWD or PKTMC one without SETSECY or LAUNCH is
handed to the Traffic Manager with its ports, class and queue (multicast queue 0: log entry 29). (07_ordering_replay.md,
03_parse_classify.md, 13_orchard.md) -/
def Obligations.PacketsAreReleasedInOrder : Prop :=
  (∀ (s : State) (p : Fin 8) (d : Desc) (r : List Desc) (j : Nat), s.pc.toDx = d :: r → d.ingressPort.toNat = p.val →
    s.oru.journal.length < 4096 → s.findJournal (s.oru.journal.length + 1) (s.free 4096) = some j →
    let tk := tget 0 s.oru.next d.orderDomain.toNat
    let d' := { d with ticket := BitVec.ofNat 16 tk }
    Leads (exec (.ticketIssue p) s) fun u => u.pc.toDx = r ∧ tget 0 u.oru.next d.orderDomain.toNat = (tk + 1) % 65536 ∧
      (s.levelFull d.level.toNat = false → u.jentry j = { JEntry.zero with st := .queued, desc := d' } ∧
        ∃ i, u.level d.level.toNat = s.level d.level.toNat ++ [i] ∧ i.kind = .packet ∧ i.journal = j) ∧
      (s.levelFull d.level.toNat = true → u.jentry j = { JEntry.zero with st := .ended, desc := d', endKind := 2 } ∧
        u.disp.levels = s.disp.levels ∧ u.rd K.ctrDispQueueFullDrop = (s.rd K.ctrDispQueueFullDrop + 1) % 2 ^ 64)) ∧
  (∀ (s : State) (t : Fin 512) j b m slot pay r n a, s.toDx (crossOf t) = (t.val, .post j b m slot pay) :: r → s.Wait r →
    s.rp t b m = .out .post n a →
    (∀ k, j = some k → (s.jentry k).st = .running → (s.jentry k).thread = t.val →
      Leads (exec (.commitPost t) s) fun u => u.toDx (crossOf t) = r ∧ u.jentry k = ((s.jentry k).post slot pay).2 ∧
        u.rp t b m = .flying ⟨BitVec.ofNat 32 (3 * 2 ^ 28 + ((s.jentry k).post slot pay).1 * 256), 0#32⟩ [] 0) ∧
    (j = none → Leads (exec (.commitPost t) s) fun u => u.toDx (crossOf t) = r ∧ u.oru = s.oru ∧
      u.rp t b m = .flying ⟨BitVec.ofNat 32 (3 * 2 ^ 28 + cpNoPacket * 256), 0#32⟩ [] 0)) ∧
  (∀ (s : State) (t : Fin 512) j kind arg r, s.toDx (crossOf t) = (t.val, .finish j kind arg) :: r → s.Wait r →
    (s.jentry j).st = .running → (s.jentry j).thread = t.val →
    let copying : Bool := match (s.thread t).st, (s.thread t).item with
      | .ending, some i => decide (i.journal = j)
      | _, _ => false
    ((s.jentry j).noCell = false → Leads (exec (.packetEndSampled t) s) fun u => u.toDx (crossOf t) = r ∧
      u.jentry j = { s.jentry j with st := .ended, endKind := kind, endArg := arg, copying := copying }) ∧
    ((s.jentry j).noCell = true → Leads (exec (.packetEndSampled t) s) fun u => u.toDx (crossOf t) = r ∧
      (u.jentry j).st = .failed ∧ (u.jentry j).actions = []) ∧
    (∀ l, s.locksOf (.requester t false) = [l] → (s.lock l).waiters = [] → (s.jentry j).noCell = false →
      Leads (exec (.packetEndSampled t) s) fun u => (u.lock l).holder =
        if lockNamed (s.jentry j) l then some (.journal j) else none)) ∧
  (∀ (s : State) (t : Fin 512) (i : Item), (s.thread t).item = some i →
    ((s.thread t).st = .ending → s.coreOut (t / 8) = false → (s.cell (s.jentry i.journal).desc.firstCell.toNat).pool < 32 →
      (∀ w s', s.addWindowCell (s.jentry i.journal).desc.firstCell.toNat (s.thread t).window = some (w, s') →
        Leads (exec (.windowCellCopyDone t) s) fun u => (u.thread t).st = .idle ∧ (u.thread t).item = none ∧
          (u.jentry i.journal).windowCell = w ∧ (u.jentry i.journal).copying = false) ∧
      (s.addWindowCell (s.jentry i.journal).desc.firstCell.toNat (s.thread t).window = none →
        Leads (exec (.windowCellCopyDone t) s) fun u => (u.thread t).st = .idle ∧ (u.thread t).item = none ∧
          if (s.jentry i.journal).st = .ended then (u.jentry i.journal).st = .failed else (u.jentry i.journal).noCell = true)) ∧
    ((s.thread t).st = .starting → s.orch.badData = [] → s.orch.badLink = [] → Leads (exec (.windowCopyDone t) s) fun u => u.mem = s.mem ∧
      let d := (s.jentry i.journal).desc
      (u.thread t).st = .ready ∧ (u.thread t).desc = some d ∧
        (u.thread t).window = slice (s.frameBytes d.firstCell.toNat (min d.window d.frameLength.toNat)) 0 d.window)) ∧
  (∀ (s : State) (t : Fin 512) j code r, s.toDx (crossOf t) = (t.val, .fault j code) :: r → s.Wait r →
    (s.jentry j).st = .running → (s.jentry j).thread = t.val →
    ((s.jentry j).replayCount < s.rd K.oruReplayLimit → Leads (exec (.faultReport t) s) fun u => u.toDx (crossOf t) = r ∧
      u.jentry j = { s.jentry j with st := .replay, replayCount := (s.jentry j).replayCount + 1, fence := true, lastFault := code,
                                     actions := [], payload := [] }) ∧
    (s.rd K.oruReplayLimit ≤ (s.jentry j).replayCount → Leads (exec (.faultReport t) s) fun u =>
      (u.jentry j).st = .failed ∧ (u.jentry j).actions = [])) ∧
  (∀ (s : State) (j : Fin 4096), (s.jentry j).st = .replay → (s.jentry j).fence = true →
    (∀ i, (s.level (s.jentry j).desc.level.toNat).head? = some i → i.kind = .replay → i.enq ≠ s.now) →
    Leads (exec (.drainFenceDone j) s) fun u => (u.jentry j).fence = false ∧ ∃ i, i.kind = .replay ∧ i.journal = j.val ∧
      u.level (s.jentry j).desc.level.toNat = i :: s.level (s.jentry j).desc.level.toNat) ∧
  (∀ (s : State) (j : Nat) (r : List Nat), s.oru.ready = j :: r →
    let e := s.jentry j
    let dom := e.desc.orderDomain.toNat
    let ports := (List.range 8).filter fun p => (tget 0#8 s.oru.mcast (bits e.endArg.toNat 9 0)).getLsbD p
    (Leads (exec .packetRelease s) fun u => u.jentry j = JEntry.zero ∧ u.headTicket dom = (s.headTicket dom + 1) % 65536) ∧
    (e.st = .failed ∨ e.bad = true ∨ e.endKind = 2 → Leads (exec .packetRelease s) fun u => u.tm = s.tm) ∧
    (e.st = .ended → e.bad = false → (∀ a ∈ e.actions, actOp a ≠ 10 ∧ actOp a ≠ 11) →
      (e.endKind = 1 → Leads (exec .packetRelease s) fun u =>
        u.tm.inbox = s.tm.inbox ++ [⟨e.desc, e.desc.firstCell.toNat, none,
          [(bits e.endArg.toNat 15 13, bits e.endArg.toNat 12 10, bits e.endArg.toNat 9 4)], none⟩]) ∧
      (e.endKind = 3 → Leads (exec .packetRelease s) fun u =>
        u.tm.inbox = s.tm.inbox ++ (if ports = [] then [] else [⟨e.desc, e.desc.firstCell.toNat, none,
          ports.map fun p => (p, bits e.endArg.toNat 15 13, 0), none⟩])))) ∧
  (∀ (s : State) (g : Fin 1024) (im : BitVec 64), im.toNat < 256 → Leads (exec (.multicastGroupWrite g im) s) fun u =>
    u.opStatus = 0 ∧ tget 0#8 u.oru.mcast g = BitVec.ofNat 8 im.toNat ∧
      ∀ k, k ≠ g.val → tget 0#8 u.oru.mcast k = tget 0#8 s.oru.mcast k)

/-- A reply at its turn fills its register, puts its words at the buffer (of a lockstep pair in both RAMs) and ends the block of
a thread that waits for it; a STALLED one under TRAP_ST enters the handler. A watchdog expiry of an item whose end has not
retired resets the thread and reports its packet; a mismatch resets the pair's threads, takes the pair out of service and clears
both data RAMs. An operating point 0 to 3 is written and comes into force when the change is done. SWITCH to a verified bank
makes it active and draining until the last old item has ended. A verified image for the cluster is stored in the inactive bank.
(08_wenkin_core.md, 09_wenkin_programming_model.md, 01_architecture.md) -/
def Obligations.ThreadsAndClustersAreServed : Prop :=
  (∀ (s : State) (t : Fin 580) (b : Bool) (m : Fin 4) r (words : List Word) (buf : Nat), s.rp t b m = .flying r words buf →
    s.arrives t (.reply b m) = true →
    ((s.thread t).trapSt = false ∨ bits r.status.toNat 7 0 ≠ 2 → Leads (exec (.replyArrival t b m) s) fun u =>
      u.rp t b m = .full r ∧ s.StoredAt u ((s.ramKeys t).map (· + buf)) (words.flatMap fun w => toLE 4 w.toNat) ∧
      ((s.thread t).st = .blocked (.reply m) → (s.thread t).second = b → (u.thread t).st = .ready ∧
        (u.thread t).ev.getLsbD m = true ∧ (u.thread t).regs = (s.thread t).regs ∧ (u.thread t).pc = (s.thread t).pc)) ∧
    ((s.thread t).st = .blocked (.reply m) → (s.thread t).second = b → (s.thread t).trapSt = true →
      bits r.status.toNat 7 0 = 2 → s.CanTrap t → Leads (exec (.replyArrival t b m) s) fun u =>
        (u.thread t).pc = (s.thread t).sregs.tvec.toNat ∧ (u.thread t).sregs.ecode = 0x009#32 ∧
        (u.thread t).sregs.epc = BitVec.ofNat 32 (s.thread t).pc ∧ (u.thread t).regs = (s.thread t).regs)) ∧
  (∀ (s : State) (t : Fin 512) (i : Item), let x := s.thread t
    x.item = some i → x.st ≠ .ending → x.wdFrom + x.wdLimit + 1 ≤ s.wdStrobe →
    Leads (exec (.threadWatchdogExpiry t) s) fun u => (u.thread t).st = (if s.coreOut (t / 8) then .out else .idle) ∧
      (u.thread t).item = none ∧ (u.thread t).saved = none ∧
      (i.isPacket = true → (u.toDx (crossOf t)).getLast? = some (t.val, .fault i.journal 0x06)) ∧
      u.rd (K.ctrCoreWatchdogExpiries (t / 8)) = (s.rd (K.ctrCoreWatchdogExpiries (t / 8)) + 1) % 2 ^ 64) ∧
  (∀ (s : State) (q : Fin 32), s.lockstep (2 * q) = true → s.coreOut (2 * q) = false →
    Leads (exec (.lockstepMismatch q) s) fun u => bit (u.rd K.sndOutOfServiceCores) (2 * q) = 1 ∧
      bit (u.rd K.sndOutOfServiceCores) (2 * q + 1) = 1 ∧ (u.core (2 * q)).sb = [] ∧
      (∀ a, a < 131072 → mget u.mem (memKey .coreData (131072 * q + a)) = unwritten) ∧
      ∀ k, k < 8 → (u.thread (16 * q + k)).st = .out ∧ (u.thread (16 * q + k)).item = none) ∧
  (∀ (s : State) (n : Fin 16) (v : BitVec 8),
    (v.toNat < 4 → Leads (exec (.operatingPointWrite n v) s) fun u => u.rd (K.cluOperatingPoint n) = v.toNat ∧ u.abort = 0 ∧
      u.rd (K.cluOperatingPointActive n) = s.rd (K.cluOperatingPointActive n)) ∧
    (4 ≤ v.toNat → exec (.operatingPointWrite n v) s = .next { s with abort := 0x03000006 }) ∧
    (n.val ∉ s.boot.avsWait → Leads (exec (.operatingPointChangeDone n) s) fun u => u.mem = s.mem ∧
      u.rd (K.cluOperatingPointActive n) = s.rd (K.cluOperatingPoint n))) ∧
  (∀ (s : State) (n : Fin 16), let b := 1 - s.activeBank n
    (s.rd (K.bankSwitchState n) ≠ 1 → tget false s.boot.codeOk (2 * n + b) = true → Leads (exec (.switch n) s) fun u =>
      u.activeBank n = b ∧ u.rd (K.bankSwitchState n) = 1 ∧ u.abort = 0 ∧ u.mem = s.mem) ∧
    (s.rd (K.bankSwitchState n) = 1 → (exec (.switch n) s = .next { s with abort := 0x03000008 }) ∧
      (s.oldBankItems n = 0 → Leads (exec (.switchDrained n) s) fun u => u.rd (K.bankSwitchState n) = 0 ∧
        u.activeBank n = s.activeBank n)) ∧
    (∀ image : List Byte, s.rd (K.bankSwitchState n) ≠ 1 → (s.verifyService image).1 = bsOk → imgType image = 3 →
      bit (imgTargets image) n = 1 → Leads (exec (.codeBankLoad n image) s) fun u => u.opStatus = bsOk ∧
        tget false u.boot.codeOk (2 * n + b) = true ∧
        s.Stored u (memKey .code (131072 * (2 * n + b))) ((imgBody image).take 131072)))

/-- A HOP whose latched registers hold no error is accepted unless its helper refuses it: it joins its cluster's operations
last, operands latched (a lookup's reply known, a scan's source perhaps read), its result registers become PENDING and the
instruction retires; refused, it leaves the thread HELD at the same PC and is counted, and the hold's end makes it READY. MTC
writes an assigned register of the bank in force; MFC reads one, and waits for one PENDING. The oldest operation of the crypto
or CRC helper starts, its key slot read; the scan at the head of the client queue starts on the first lane that takes it. Every
completion takes its operation out of the helper and ends its PENDING registers. GCM, GMAC and GCM_DEC give text and tag, or the
verdict on the tag; bad operands, an absent key and a source in error give their status. Hashes, CRCs, checksums, CRCPROG,
CSUMUPD and SCAN give their results, and a lookup the reply the table gave. (11_helpers.md, 10_wenkin_encoding.md,
08_wenkin_core.md) -/
def Obligations.HelperOperationsRun : Prop :=
  (
  (∀ (s : State) (t : Fin 512) (i : Instr) (h fn : Nat),
    (i, h, fn) ∈ [(Instr.gcmEnc t, 0, 1), (.gcmDec t, 0, 2), (.gmac t, 0, 3), (.shake128 t, 0, 0x10), (.shake256 t, 0, 0x11),
      (.sha3_256 t, 0, 0x12), (.sha3_512 t, 0, 0x13), (.kmac256 t, 0, 0x14), (.crc32 t, 1, 1), (.crc32c t, 1, 2), (.crc8 t, 1, 3),
      (.crc16 t, 1, 4), (.crc32F4ac t, 1, 5), (.crc64 t, 1, 6), (.crcprog t, 1, 7), (.csum t, 1, 0x10), (.csumupd t, 1, 0x11),
      (.brFind t, 2, 1), (.rtSearch t, 2, 2), (.brInsert t, 2, 3), (.brDelete t, 2, 4), (.scan t, 3, 1)] →
    let x := s.thread t
    let bank := b2n x.second
    (s.refuses t h bank = false → (∀ r ∈ latchedRegs h fn, hkey bank h r ∉ x.hbad) →
      s.Runs t i fun u => (h ≠ 2 → u.mem = s.mem) ∧ (u.thread t).regs = x.regs ∧ (u.thread t).st = .ready ∧
        (u.thread t).pc = x.pcAfter (x.pc + 4) ∧ (∀ r ∈ resultRegs h fn ++ [0x3F], hkey bank h r ∈ (u.thread t).hpend) ∧
        (u.ops (clusterOf t)).length = (s.ops (clusterOf t)).length + 1 ∧
        (h ≠ 3 → s.ops (clusterOf t) <+: u.ops (clusterOf t)) ∧
        ∃ o, (u.ops (clusterOf t)).getLast? = some o ∧ o.tid = t.val ∧ o.bank = bank ∧ o.helper = h ∧ o.fn = fn ∧
          o.regs = (x.latch t bank h fn).regs ∧ (h ≠ 3 → (o.started = true ↔ h = 2))) ∧
    (s.refuses t h bank = true → s.Runs t i fun u => (u.thread t).st = .held .refusal ∧ (u.thread t).pc = x.pc ∧
      (u.thread t).regs = x.regs ∧ u.ops (clusterOf t) = s.ops (clusterOf t) ∧
      u.rd (refusalKey (clusterOf t) h) = (s.rd (refusalKey (clusterOf t) h) + 1) % 2 ^ 64)) ∧
  (∀ (s : State) (t : Fin 512), (s.thread t).st = .held .refusal →
    Leads (exec (.helperRefusalHoldEnd t) s) fun u => u.thread t = { s.thread t with st := .ready } ∧ u.mem = s.mem) ∧
  (∀ (s : State) (t : Fin 580) (r : Fin 32) (n : Fin 4) (c : Fin 64), t.val < 512 → helperReg n c ≠ none →
    let x := s.thread t
    let k := hkey (b2n x.second) n c
    (helperReg n c = some true → s.Runs t (.mtc t r n c) fun u => (u.thread t).hreg k = x.reg r ∧
      (∀ l, l ≠ k → (u.thread t).hreg l = x.hreg l) ∧ (u.thread t).regs = x.regs ∧ u.mem = s.mem ∧
        (u.thread t).pc = x.pcAfter (x.pc + 4)) ∧
    (k ∉ x.hpend → k ∉ x.hbad → s.Runs t (.mfc t r n c) fun u => s.Wrote u t r (x.hreg k) x.tsw) ∧
    (k ∈ x.hpend → s.Runs t (.mfc t r n c) fun u => u.thread t = { x with st := .blocked (.helper n c) } ∧ u.mem = s.mem))) ∧
  (
  (∀ (s : State) (n : Fin 16) (h : Fin 4) (o : HOp) (r : List HOp), h.val < 2 →
    (s.ops n).filter (fun o => decide (o.helper = h.val)) = o :: r → o.started = false → clusterOf o.tid = n.val →
    Leads (exec (.helperOpStart n h) s) fun u => u.mem = s.mem ∧
      { o with started := true, key := if h.val = 0 then (s.keySlot n (o.reg 5 % 16)).bytes else [] } ∈ u.ops n) ∧
  (∀ (s : State) (n : Fin 16) (o : HOp) (t : Nat) (q : List (Nat × Nat)) (i : Nat), s.cores.clientQ = (t, o.bank) :: q → o.tid = t →
    clusterOf t = n.val → ((s.ops n).filter (fun o => decide (o.helper = 3))).find? (fun p => decide (p.tid = t) && decide (p.bank = o.bank)) =
      some o → o.src.isSome = true →
    (List.range 8).find? (fun i => !(s.laneBusy i) && (decide (tget [] s.pc.lanes i = []) || decide (16 ≤ tget 0 s.pc.runs i))) = some i →
    Leads (exec (.helperOpStart n 3) s) fun u => u.mem = s.mem ∧ { o with started := true, lane := some i } ∈ u.ops n) ∧
  (∀ (s : State) (t : Fin 512) (b : Bool) (h : Fin 4) (o : HOp),
    (s.ops (clusterOf t)).find? (fun o => decide (o.tid = t.val) && decide (o.bank = b2n b) && decide (o.helper = h.val)
      && o.started) = some o →
    let has (u : State) (x : Nat) (v : Nat) : Prop := (u.thread t).hreg (hkey o.bank o.helper x) = BitVec.ofNat 32 v
    let gives (P : State → Prop) : Prop := Leads (exec (.helperOpComplete t b h) s) P
    let src := s.srcBytes o (o.reg 0) (o.reg 2)
    let whole (n : Nat) : Prop := s.srcError o (o.reg 0) n = none
    let clean : Prop := o.reg 2 ≤ 9216 ∧ s.addrStatus o (o.reg 0) (o.reg 2) false = 0 ∧ whole (o.reg 2)
    gives (fun u => u.ops (clusterOf t) = (s.ops (clusterOf t)).filter (· ≠ o) ∧
      ∀ x : Fin 64, hkey o.bank o.helper x ∉ (u.thread t).hpend) ∧
    (h = 1 → o.fn ≠ 0x11 → clean → (o.fn = 7 → let w := o.reg 9; 8 ≤ w % 128 ∧ w % 128 ≤ 64 ∧ bits w 11 7 = 0 ∧ bits w 31 14 = 0) →
      gives fun u => u.mem = s.mem ∧ has u 0x3F 0 ∧
        let v := o.sum (if o.reg 2 = 0 then [] else src)
        has u 0x20 v ∧ has u 0x21 (v / 2 ^ 32)) ∧
    (h = 1 → o.fn = 0x11 → gives fun u => u.mem = s.mem ∧ has u 0x3F 0 ∧
      has u 0x20 (csumUpdate (o.reg 5 % 65536) (o.reg 0xA % 65536) (o.reg 0xB % 65536))) ∧
    (h = 0 → 4 ≤ o.fn → (o.fn = 0x14 → o.reg 5 ≤ 15) → (∀ k, o.outLen = some k → 1 ≤ k ∧ k ≤ 64) → clean →
      gives fun u => u.mem = s.mem ∧
        if o.fn = 0x14 ∧ (o.cut = true ∨ o.key = []) then has u 0x3F 3
        else has u 0x3F 0 ∧ ∀ k, k < 16 → has u (0x20 + k) (leAt (o.digest src) (4 * k) 4)) ∧
    (h = 0 → (o.fn = 1 ∨ o.fn = 2 ∨ o.fn = 3) →
      let aad := s.srcBytes o (o.reg 3) (o.reg 4)
      let text := s.gcmText o (o.reg 2)
      let tag := gcmTag (aesKeys o.key) (o.bytes 6 3) aad (if o.fn = 1 then text else if o.fn = 2 then src else [])
      (s.gcmOperands o ≠ 0 → gives fun u => u.mem = s.mem ∧ has u 0x3F (s.gcmOperands o)) ∧
      (s.gcmOperands o = 0 → (o.cut = true ∨ o.key = []) → gives fun u => u.mem = s.mem ∧ has u 0x3F 3) ∧
      (s.gcmOperands o = 0 → o.cut = false → o.key ≠ [] → s.srcError o (o.reg 3) (o.reg 4) ≠ none → gives fun u => u.mem = s.mem ∧ has u 0x3F 6) ∧
      (s.gcmOperands o = 0 → o.cut = false → o.key ≠ [] → s.srcError o (o.reg 3) (o.reg 4) = none → (o.fn ≠ 3 → whole (o.reg 2)) →
        gives fun u => (u.mem = if o.fn = 3 then s.mem else (s.dstWrite o (o.reg 1) text).mem) ∧
          has u 0x3F (if o.fn = 2 ∧ tag ≠ o.bytes 0x10 4 then 2 else 0) ∧
          (o.fn ≠ 2 → ∀ k, k < 4 → has u (0x10 + k) (leAt tag (4 * k) 4)))) ∧
    (∀ bs, h = 3 → o.src = some (0, bs) →
      let hits := s.pc.patterns.filter fun p => p.2.matches bs (BitVec.ofNat 8 (o.reg 3))
      gives fun u => u.mem = s.mem ∧ match topMatch (hits.map fun p => (p.1, p.2.action)) with
        | some (i, a) => has u 0x3F 0 ∧ has u 0x20 (2 ^ 31 + a * 2 ^ 28 + i) ∧ has u 0x21 hits.length
        | none => has u 0x3F 1 ∧ has u 0x21 0 ∧ ((u.thread t).hreg (hkey o.bank o.helper 0x20)).msb = false) ∧
    (∀ l, h = 2 → o.out = l → (l.map (·.1)).Nodup → gives fun u =>
      u.mem = s.mem ∧ ∀ e ∈ l, (u.thread t).hreg (hkey o.bank 2 e.1) = e.2)))

/-- A tick is 8 ns (the model's time, log entry 2): every domain advances by 8 cycles at its RateAdjust and takes a pending
step, held to 0 and 2^64 - 1 units. RateAdjust within its limit is written unless the Source is PPS; a step within its limit
waits for the next tick, others are refused. The first edge at 1PPS_IN, or one 1 s ± 100 µs after the last valid edge, captures
every domain's time less the correction to within 0.5 ns; under Source PPS it gives the phase error and ends HOLDOVER; any other
edge is rejected and counted. A pulse missed is counted, and its second in a row takes a LOCKING or LOCKED domain into HOLDOVER.
A due output edge raises 1PPS_OUT, or is suppressed within 0.5 s of the last; the pulse falls after its width.
(14_time_and_egress.md) -/
def Obligations.DomainsAndPulsesKeepTime : Prop :=
  (∀ s : State, Leads (exec .chronoTick s) fun u => u.now = s.now + 8 ∧ u.mem = s.mem ∧
    ∀ d, d < 4 → let x := s.domain d
      let rate := s.rdInt 32 (K.domRateAdjust d)
      let total : Int := x.units * 2 ^ 40 + x.frac + 32 * (2 ^ 40 + rate)
      (u.domain d).step = none ∧ (-1099511627 ≤ rate → total < 2 ^ 104 →
        (x.step = none → ((u.domain d).units * 2 ^ 40 + (u.domain d).frac : Int) = total) ∧
        (∀ k, x.step = some k → ((u.domain d).units : Int) = max 0 (min (2 ^ 64 - 1) (total / 2 ^ 40 + k))))) ∧
  (∀ (s : State) (d : Fin 4) (v : BitVec 32),
    (-1099511627 ≤ v.toInt ∧ v.toInt ≤ 1099511627 ∧ s.rd (K.domSource d) ≠ 1 → Leads (exec (.rateAdjustWrite d v) s) fun u =>
      u.rd (K.domRateAdjust d) = v.toNat ∧ u.abort = 0 ∧ u.chron = s.chron) ∧
    (v.toInt < -1099511627 ∨ 1099511627 < v.toInt ∨ s.rd (K.domSource d) = 1 →
      exec (.rateAdjustWrite d v) s = .next { s with abort := 0x03000006 })) ∧
  (∀ (s : State) (d : Fin 4) (v : BitVec 64),
    (-(2 ^ 61) ≤ v.toInt → v.toInt ≤ 2 ^ 61 → Leads (exec (.stepOffsetWrite d v) s) fun u => u.abort = 0 ∧ u.dict = s.dict ∧
      u.domain d = { s.domain d with step := some (4 * v.toInt) }) ∧
    (v.toInt < -(2 ^ 61) ∨ 2 ^ 61 < v.toInt → exec (.stepOffsetWrite d v) s = .next { s with abort := 0x03000006 })) ∧
  (∀ (s : State) (q : Fin 32), let at_ := s.now + q.val / 4
    ((∀ l, s.chron.lastEdge = some l → l + 10 ^ 9 ≤ at_ + 100000 ∧ at_ ≤ l + 10 ^ 9 + 100000) →
      Leads (exec (.ppsInEdge q) s) fun u => u.chron.lastEdge = some at_ ∧ u.chron.awaited = some at_ ∧ u.mem = s.mem ∧
        ∃ k : Int, -2 ≤ k ∧ k ≤ 2 ∧ ∀ d, d < 4 →
          let cap := ofSigned 64 ((s.domainUnits d : Int) + (q.val : Int) + k - s.rdInt 32 K.chrPpsInCorrection)
          u.rd (K.domPpsInTime d) = cap ∧
          (s.rd (K.domSource d) = 1 → u.rd (K.domPhaseError d) = ofSigned 32 ((phaseError cap).tdiv 4) ∧
            (s.rd (K.domState d) = 3 → u.rd (K.domState d) = 2)) ∧
          (s.rd (K.domSource d) ≠ 1 → u.domain d = s.domain d ∧ u.rd (K.domState d) = s.rd (K.domState d))) ∧
    (∀ l, s.chron.lastEdge = some l → at_ + 100000 < l + 10 ^ 9 ∨ l + 10 ^ 9 + 100000 < at_ →
      Leads (exec (.ppsInEdge q) s) fun u => u.chron = s.chron ∧
        u.rd K.ctrChrPpsRejected = (s.rd K.ctrChrPpsRejected + 1) % 2 ^ 64)) ∧
  (∀ (s : State) (l : Nat), s.chron.awaited = some l → l + 1000100000 < s.now →
    Leads (exec .ppsMissed s) fun u => u.chron.awaited = some (l + 10 ^ 9) ∧ u.chron.lastEdge = s.chron.lastEdge ∧
      u.rd K.ctrChrPpsMissed = (s.rd K.ctrChrPpsMissed + 1) % 2 ^ 64 ∧
      ∀ d, d < 4 → (s.rd (K.domState d) = 1 ∨ s.rd (K.domState d) = 2) →
        ((s.domain d).missed = 0 → u.domain d = { s.domain d with missed := 1 }) ∧
        ((s.domain d).missed = 1 → u.rd (K.domState d) = 3)) ∧
  (∀ (s : State) (t : Nat), s.on K.chrPpsOutEnable = true → s.ppsOutDue = some t → (∀ v, s.chron.ppsDueAt = some v → v + 4 ≤ t) →
    ((∀ v, s.chron.ppsOutAt = some v → v + 500000000 ≤ t) →
      Leads (exec .ppsOutEdge s) fun u => u.chron = { s.chron with ppsOut := true, ppsOutAt := some t, ppsDueAt := some t } ∧ u.dict = s.dict) ∧
    (∀ v, s.chron.ppsOutAt = some v → t < v + 500000000 →
      Leads (exec .ppsOutEdge s) fun u => u.chron = { s.chron with ppsDueAt := some t } ∧
        u.rd K.ctrChrPpsOutSuppressed = (s.rd K.ctrChrPpsOutSuppressed + 1) % 2 ^ 64)) ∧
  (∀ (s : State) (t : Nat), s.chron.ppsOutAt = some t → s.chron.ppsOut = true → t + 1000 * s.rd K.chrPpsOutWidth ≤ s.now →
    exec .ppsOutFall s = .next { s with chron := { s.chron with ppsOut := false } })

/-- A handover leaves the inbox. A packet its stream filter or meter drops joins no queue; one that passes joins, on each of its
ports with the link up, the class FIFO, its enabled stream queue or, with a launch time, the launch set, unless that is full:
then it is counted as dropped. On its only port, sequence recovery and ATS of an enabled stream queue drop it or set its R-TAG
and eligibility time. With the link down, the discard takes the oldest frame, class FIFOs first, then stream queues, then the
launch set. On a free line selection starts the oldest control frame; else, with no Lodestar frame held and no launch copy, the
earliest eligible head of the highest class with credit, protected, padded and with its FCS; a ready launch copy on time comes
first; a preempted frame is resumed when nothing else waits. A preemptable frame with enough sent gives way to a control frame.
(14_time_and_egress.md, 02_port_complex.md, 13_orchard.md) -/
def Obligations.TrafficIsQueuedAndSent : Prop :=
  (∀ (s : State) (h : Handover) (r : List Handover), s.tm.inbox = h :: r →
    let pass : Bool := h.raw.isSome || (s.streamFilter h.desc).1
    let same (u : State) (p : Nat) : Prop := (u.tmPort p).classQ = (s.tmPort p).classQ ∧ (u.tmPort p).streamQ = (s.tmPort p).streamQ ∧
      (u.tmPort p).launchSet = (s.tmPort p).launchSet
    Leads (exec .tmHandover s) fun u => u.tm.inbox = r ∧ (pass = false → ∀ p, same u p) ∧
      ∀ p cls sq, (p, cls, sq) ∈ h.ports → (h.ports.map (·.1)).Nodup → p < 8 → pass = true → s.rd (K.portLinkState p) = 1 →
        let w := s.sqWord p sq
        let en := s.sqEnabled p sq
        let q := if en then some sq else none
        let k := if en then bits w 62 60 else cls
        let held := ((s.tmQueue p q k).map (·.cells)).sum + s.countOf h
        let room := held ≤ if en then bits w 15 0 else s.rd (K.tmpClassLimit p cls)
        let joins (P : TmCopy → Prop) : Prop := if room
          then ∃ c, u.tmQueue p q k = s.tmQueue p q k ++ [c] ∧ c.handle = h.handle ∧ c.desc = h.desc ∧ c.raw = h.raw ∧ c.cls = k ∧
            c.cells = s.countOf h ∧ P c
          else u.tmQueue p q k = s.tmQueue p q k ∧ u.rd (K.ctrTmpTailDrops p) = (s.rd (K.ctrTmpTailDrops p) + 1) % 2 ^ 64
        (p = 7 ∧ en = true ∧ sq = 63) ∨
        ((en = true → bit w 48 = 0 ∧ bit w 59 = 0 ∧ bit w 37 = 0) → h.launch = none → joins fun c => c.due = s.gateNs p ∧ c.rtag = none) ∧
        ((en = true → bit w 48 = 0 ∧ bit w 37 = 0) → ∀ x, h.launch = some x → if (s.tmPort p).launchSet.length < 256
          then ∃ c, (u.tmPort p).launchSet = (s.tmPort p).launchSet ++ [c] ∧ c.handle = h.handle ∧ c.desc = h.desc ∧ c.launch = some x
          else (u.tmPort p).launchSet = (s.tmPort p).launchSet ∧
            u.rd (K.ctrTmpLaunchSetFullDrops p) = (s.rd (K.ctrTmpLaunchSetFullDrops p) + 1) % 2 ^ 64) ∧
        (h.ports = [(p, cls, sq)] → en = true → h.launch = none →
          match (s.frer w h.desc (match h.raw with | some b => b | none => s.packetBytes h.handle h.desc) []).1 with
          | none => same u p
          | some (strip, num) => ∀ x : TmCopy, x.raw = h.raw → x.desc = h.desc → x.strip = strip → x.rtag = num →
            match (if bit w 37 = 1 then (s.atsEligible (bits w 36 28) (64 * p + sq) (s.copyL p x) (s.gateNs p)).1 else some (s.gateNs p)) with
            | none => same u p ∧ u.rd (K.ctrTmpAtsDrops p) = (s.rd (K.ctrTmpAtsDrops p) + 1) % 2 ^ 64
            | some e => joins fun c => c.due = e ∧ c.strip = strip ∧ c.rtag = num)) ∧
  (∀ (s : State) (p : Fin 8) (c : TmCopy), s.rd (K.portLinkState p) ≠ 1 → (s.cell c.handle).pool < 32 →
    let gone (P : State → Prop) : Prop := Leads (exec (.tmLinkDownDiscard p) s) fun u => P u ∧
      u.rd (K.ctrTmpLinkDownDrops p) = (s.rd (K.ctrTmpLinkDownDrops p) + 1) % 2 ^ 64
    (∀ k r rest, (s.tmPort p).classQ = (k, c :: r) :: rest → gone fun u => tget [] (u.tmPort p).classQ k = r) ∧
    (∀ k r rest, (s.tmPort p).classQ = [] → (s.tmPort p).streamQ = (k, c :: r) :: rest →
      gone fun u => tget [] (u.tmPort p).streamQ k = r) ∧
    (∀ r, (s.tmPort p).classQ = [] → (s.tmPort p).streamQ = [] → (s.tmPort p).launchSet = c :: r →
      gone fun u => (u.tmPort p).launchSet = r)) ∧
  (∀ (s : State) (p : Fin 8) (sent : BitVec 14) (lead : BitVec 32), s.rd (K.portLinkState p) = 1 →
    let n := lead.toNat
    let x := s.port p
    let sends (P : State → Prop) : Prop := Leads (exec (.tmTxSelect p sent lead) s) P
    let control (u : State) (f : CtrlFrame) (r : List CtrlFrame) : Prop := (u.port p).ctrlQ = r ∧ u.mem = s.mem ∧
      ∃ l, (u.port p).line = some l ∧ l.control = some f ∧ l.length = 64 ∧ l.bytes = f.bytes ∧ l.crc = fcs f.bytes
    let onLine (u : State) (c : TmCopy) : Prop := ∃ l, (u.port p).line = some l ∧ l.control = none ∧ l.cls = c.cls ∧
      l.handle = (if c.raw.isSome then none else some c.handle) ∧ l.length = l.bytes.length + 4 ∧ l.crc = fcs l.bytes ∧
      l.bytes = padFrame (underGuard (s.egressGuard p (if c.raw.isSome then 0xFF else c.desc.egressSecY.toNat)).1 (s.copyBytes c))
    let sound (c : TmCopy) : Prop := (c.raw.isSome = true ∨
        s.orch.badData = [] ∧ (s.chain c.handle).length = (s.cell c.handle).count) ∧
      let y := if c.raw.isSome then 0xFF else c.desc.egressSecY.toNat
      s.egressBar p y = none ∧ s.tooLong p y c.bareLength = false
    (∀ f r, x.line = none → x.ctrlQ = f :: r → sends fun u => control u f r) ∧
    (∀ f g r, x.line = some f → x.ctrlQ = g :: r → s.preemptActive p = true → f.express = false → f.control = none →
      64 * (1 + s.rd (K.portAddFragSize p)) ≤ sent.toNat + 4 → 64 + f.sent + sent.toNat ≤ f.length →
      sends fun u => control u g r ∧ (u.port p).preempted = some { f with
        sent := f.sent + sent.toNat, mcrcs := f.mcrcs ++ [mcrc (f.bytes.take (f.sent + sent.toNat))] }) ∧
    (x.line = none → x.ctrlQ = [] → s.lodeWaits p = false → s.purgeOversize p = s →
      (∀ (k : Fin 8) (c : TmCopy), x.preempted = none → (s.tmPort p).launchSet = [] → (∀ j, s.preemptClass p j = false) →
        (∀ j : Fin 8, k < j → s.hasCredit p j = false ∨ s.headsOf p j = []) → s.hasCredit p k = true →
        (∀ d ∈ s.headsOf p k, d.cls = k ∧ s.standing p n d ≠ 1 ∧ s.standing p n d ≠ 2) →
        earliest ((s.headsOf p k).filter fun d => s.mayStart d && decide (s.standing p n d = 0)) = some c → sound c →
        sends fun u => onLine u c) ∧
      (∀ c, (s.tmPort p).launchSet.find? (fun c => decide (s.preemptClass p c.cls = false) && s.mayStart c && s.launchReady p c n) = some c →
        c.inTime = true → s.domainUnits (s.rd (K.dispDelayDomain (c.launch.getD (0, 0)).1)) + n ≤ 4 * ((c.launch.getD (0, 0)).2 + 1) → sound c →
        sends fun u => onLine u c ∧ (u.tmPort p).launchSet = (s.tmPort p).launchSet.erase c ∧
          u.rd (K.ctrTmpLaunchOnTime p) = (s.rd (K.ctrTmpLaunchOnTime p) + 1) % 2 ^ 64) ∧
      (∀ f, x.preempted = some f → (s.tmPort p).launchSet = [] → (∀ j, s.headsOf p j = []) → x.holdMac = false → s.gateOpen p f.cls = true →
        sends fun u => (u.port p).line = some f ∧ (u.port p).preempted = none ∧ u.mem = s.mem)))

/-- When the interval of the entry in force has ended, a gate event brings the next entry into force, or the first of the next
cycle. ConfigChange 1 sets the change time to the first cycle start of the admin schedule after the gate time, and another value
is refused; the apply at that time makes the admin list operational. ResetTimeout after the last packet, recovery takes any
number. Each accepted table write leaves exactly the written parameters with status 0 (a filter keeps its block, a meter its
all-red mark), one with a parameter out of range leaves the table with status 0xFE, CLEAR_BLOCK and CLEAR_RED clear theirs, and
an operational gate entry is refused. (14_time_and_egress.md, 19_urros_uda.md) -/
def Obligations.GatesAndTrafficTablesAreWritten : Prop :=
  (∀ (s : State) (p : Fin 8) (d : Nat) (e : GateEntry), let g := s.gate p
    g.segs[g.idx]? = some (d, e) →
    (g.idxAt + d < s.gateNs p + 8 → g.idx + 1 < g.segs.length →
      Leads (exec (.gateEvent p) s) fun u => u.gate p = { g with idx := g.idx + 1, idxAt := g.idxAt + d } ∧ u.dict = s.dict) ∧
    (g.idxAt + d < s.gateNs p + 8 → g.segs.length ≤ g.idx + 1 → s.cycleExtended p = false →
      Leads (exec (.gateEvent p) s) fun u =>
        u.gate p = { g with base := g.base + g.cycle, idx := 0, idxAt := g.base + g.cycle } ∧ u.dict = s.dict) ∧
    (s.gateNs p + 8 ≤ g.idxAt + d ∨ g.segs.length ≤ g.idx + 1 ∧ s.cycleExtended p = true → exec (.gateEvent p) s = .next s)) ∧
  (∀ (s : State) (p : Fin 8), let b := s.rd (K.tmpAdminBaseTime p)
    let c := s.rd (K.tmpAdminCycleTime p)
    let T := if s.gateNs p < b then b else b + ((s.gateNs p - b) / c + 1) * c
    T < 2 ^ 64 → Leads (exec (.configChange p 1) s) fun u => u.gate p = { s.gate p with changeAt := some T } ∧
      u.rd (K.tmpConfigChangeTime p) = T ∧ u.abort = 0) ∧
  (∀ (s : State) (p : Fin 8) (v : BitVec 8), v ≠ 1#8 → exec (.configChange p v) s = .next { s with abort := 0x03000006 }) ∧
  (∀ (s : State) (p : Fin 8) (T : Nat), (s.gate p).changeAt = some T → T < s.gateNs p + 8 →
    Leads (exec (.configChangeApply p) s) fun u =>
      u.gate p = { s.gate p with oper := s.adminList p, cycle := s.rd (K.tmpAdminCycleTime p), base := T, idx := 0, idxAt := T,
                                 changeAt := none } ∧ u.rd (K.tmpConfigChangeTime p) = 0) ∧
  (∀ (s : State) (f : Fin 1024) (t : Nat), let r := tget Recovery.zero s.tm.recovery f
    r.lastAt = some t → t + 1000000 * r.timeout ≤ s.now → Leads (exec (.frerResetTimeout f) s) fun u =>
      tget Recovery.zero u.tm.recovery f = { r with takeAny := true, num := 65535, hist := 0#128, resets := (r.resets + 1) % 2 ^ 64, lastAt := none } ∧
        u.mem = s.mem) ∧
  (∀ (s : State) (p : Fin 8) (n : Fin 256) (w : BitVec 64),
    let ok := bits w.toNat 51 32 = 0 ∧ (bits w.toNat 55 52 = 0 ∨ bits w.toNat 55 52 ≤ 2 ∧ p.val < 4) ∧ 8 ≤ bits w.toNat 31 0
    (ok → Leads (exec (.gateListWrite p false n w) s) fun u => u.opStatus = 0 ∧ (u.gate p).oper = (s.gate p).oper ∧
      tget GateEntry.zero (u.gate p).admin n = ⟨BitVec.ofNat 8 (bits w.toNat 63 56), bits w.toNat 55 52, bits w.toNat 31 0⟩ ∧
      ∀ m, m ≠ n.val → tget GateEntry.zero (u.gate p).admin m = tget GateEntry.zero (s.gate p).admin m) ∧
    (¬ok → exec (.gateListWrite p false n w) s = .next { s with opStatus := 0xFE }) ∧
    exec (.gateListWrite p true n w) s = .next { s with opStatus := 0xFE }) ∧
  (∀ (s : State) (pos : Fin 512) (w : BitVec 64), let ok := bits w.toNat 27 16 = 0 ∧ bits w.toNat 15 0 ≠ 0
    (ok → Leads (exec (.streamQueueWrite pos w) s) fun u => u.opStatus = 0 ∧ tget 4096#64 u.tm.streamCfg pos = w) ∧
    (¬ok → exec (.streamQueueWrite pos w) s = .next { s with opStatus := 0xFE })) ∧
  (∀ (s : State) (pos : Fin 2048) (en blk men : Bool) (sdu : BitVec 16) (m : Fin 2048), let f := tget StreamFilter.zero s.tm.filters pos
    let ok := sdu = 0#16 ∨ 64 ≤ sdu.toNat ∧ sdu.toNat ≤ 9216
    (ok → Leads (exec (.streamFilterWrite pos en sdu blk men m) s) fun u =>
      u.opStatus = 0 ∧ tget StreamFilter.zero u.tm.filters pos = ⟨en, sdu.toNat, blk, men, m, f.blocked⟩) ∧
    (¬ok → exec (.streamFilterWrite pos en sdu blk men m) s = .next { s with opStatus := 0xFE }) ∧
    (Leads (exec (.clearBlock pos) s) fun u => u.opStatus = 0 ∧
      tget StreamFilter.zero u.tm.filters pos = { f with blocked := false })) ∧
  (∀ (s : State) (pos : Fin 2048) (cir eir : BitVec 32) (cbs ebs : BitVec 24) (a b c : Bool),
    let m := tget Meter.zero s.tm.meters pos
    let ok := cir.toNat ≤ 200000000 ∧ eir.toNat ≤ 200000000
    (ok → Leads (exec (.flowMeterWrite pos cir eir cbs ebs a b c) s) fun u =>
      u.opStatus = 0 ∧ let n := tget Meter.zero u.tm.meters pos
        n.cir = cir.toNat ∧ n.eir = eir.toNat ∧ n.cbs = cbs.toNat ∧ n.ebs = ebs.toNat ∧ n.coupling = a ∧ n.dropOnYellow = b ∧
          n.markRed = c ∧ n.allRed = m.allRed) ∧
    (¬ok → exec (.flowMeterWrite pos cir eir cbs ebs a b c) s = .next { s with opStatus := 0xFE }) ∧
    (Leads (exec (.clearRed pos) s) fun u => u.opStatus = 0 ∧ tget Meter.zero u.tm.meters pos = { m with allRed := false })) ∧
  (∀ (s : State) (pos : Fin 512) (cir cbs res : BitVec 32),
    let ok := 1 ≤ cir.toNat ∧ cir.toNat ≤ 200000000 ∧ 64 ≤ cbs.toNat ∧ cbs.toNat ≤ 1048575
    (ok → Leads (exec (.atsShaperWrite pos cir cbs res) s) fun u => u.opStatus = 0 ∧
      tget AtsShaper.zero u.tm.shapers pos =
        ⟨cir.toNat, cbs.toNat, res.toNat, (tget AtsShaper.zero s.tm.shapers pos).bucketEmpty⟩) ∧
    (¬ok → exec (.atsShaperWrite pos cir cbs res) s = .next { s with opStatus := 0xFE })) ∧
  (∀ (s : State) (pos : Fin 1024) (h : BitVec 8) (t : BitVec 16) (a b : Bool),
    let ok := 2 ≤ h.toNat ∧ h.toNat ≤ 128 ∧ 1 ≤ t.toNat ∧ t.toNat ≤ 1000
    (ok → Leads (exec (.frerRecoveryWrite pos h t a b) s) fun u => u.opStatus = 0 ∧
      tget Recovery.zero u.tm.recovery pos =
        { tget Recovery.zero s.tm.recovery pos with history := h.toNat, timeout := t.toNat, takeNoSeq := a, strip := b }) ∧
    (¬ok → exec (.frerRecoveryWrite pos h t a b) s = .next { s with opStatus := 0xFE }))

/-- Each operation retires with a STATUS: a reserved PIN bit gives BAD_OPERAND, a pin of another processor NOT_OWNER, a pin that
is no output PIN_BUSY. On an output of its own, an immediate SET drives the level at once over the pending SETs that fall due
meanwhile; one timed far enough ahead queues, or gives FULL with four pending; a late one drives and gives LATE. GSET sets every
masked pin of its bank. GET reads the input level, NOW BiTime, KICK restarts the watchdog; EDGE takes the oldest edge of its
kind (after an overflow status 6) or waits. The latest SET that is due drives its pin. An edge at a pin with capture enabled is
captured with BiTime, given to the EDGE that waits for it, or lost and counted. A pin word without reserved value is staged;
another is refused. (15_barrel_io.md) -/
def Obligations.BarrelPinsAreDriven : Prop :=
  (∀ (s : State) (b : Fin 64),
    let t := 512 + b.val
    let x := s.thread t
    let w := s.cop t 0 0
    let i := w % 64
    let p := s.pin i
    let mine (i : Nat) : Prop := s.pinOwner i = b.val / 16
    let drives (i : Nat) : Prop := s.pinFunction i = 1 ∨ s.pinFunction i = 2
    let ran (u : State) (st : Nat) : Prop := (u.thread t).hreg (hkey 0 0 0x3F) = BitVec.ofNat 32 st ∧ (u.thread t).regs = x.regs ∧
      (u.thread t).pc = x.pcAfter (x.pc + 4) ∧ u.mem = s.mem
    let kind := s.cop t 0 1 % 4
    let level := decide (s.cop t 0 1 % 2 = 1)
    let timed := bits w 31 6 = 2 ^ 25
    (∀ j ∈ [Instr.set b, .get b, .edge b], (bits w 30 6 ≠ 0 → s.Runs t j fun u => ran u 4 ∧ u.pin i = p) ∧
      (bits w 30 6 = 0 → ¬mine i → s.Runs t j fun u => ran u 3 ∧ u.pin i = p)) ∧
    (bits w 30 6 = 0 → mine i → ¬drives i → s.Runs t (.set b) fun u => ran u 5 ∧ u.pin i = p) ∧
    (mine i → drives i → (bits w 31 6 = 0 → s.Runs t (.set b) fun u => ran u 0 ∧ u.pin i = s.driveSoon p level) ∧
      (timed → s.setLate (s.cop t 0 2) = true → s.Runs t (.set b) fun u => ran u 1 ∧ u.pin i = s.driveSoon p level) ∧
      (timed → s.setLate (s.cop t 0 2) = false → if p.sets.length < 4
        then s.Runs t (.set b) fun u => ran u 0 ∧ u.pin i = { p with sets := p.sets ++ [(BitVec.ofNat 32 (s.cop t 0 2), level, t)] }
        else s.Runs t (.set b) fun u => ran u 2 ∧ u.pin i = p)) ∧
    (let pins (k : Nat) : Nat := 16 * bits w 5 4 + k
     let goes (u : State) (f : Pin → Bool → Pin) : Prop := ∀ k, k < 16 → u.pin (pins k) =
        if bit (s.cop t 0 3) k = 1 then f (s.pin (pins k)) (decide (bit (s.cop t 0 1) k = 1)) else s.pin (pins k)
     bits w 30 6 = 0 → s.cop t 0 3 < 65536 → (∀ k, k < 16 → bit (s.cop t 0 3) k = 1 → mine (pins k) ∧ drives (pins k)) →
      (bits w 31 6 = 0 → s.Runs t (.gset b) fun u => ran u 0 ∧ goes u s.driveSoon) ∧
      (timed → s.setLate (s.cop t 0 2) = false → (∀ k, k < 16 → bit (s.cop t 0 3) k = 1 → (s.pin (pins k)).sets.length < 4) →
        s.Runs t (.gset b) fun u => ran u 0 ∧
          goes u fun q v => { q with sets := q.sets ++ [(BitVec.ofNat 32 (s.cop t 0 2), v, t)] })) ∧
    (bits w 30 6 ≠ 0 ∨ 65536 ≤ s.cop t 0 3 → s.Runs t (.gset b) fun u => ran u 4 ∧ u.bio.pins = s.bio.pins) ∧
    (bits w 30 6 = 0 → mine i → s.Runs t (.get b) fun u => ran u 0 ∧ u.pin i = p ∧
      (u.thread t).hreg (hkey 0 0 0x20) = if p.level then 1#32 else 0#32) ∧
    (s.Runs t (.now b) fun u => ran u 0 ∧ (u.thread t).hreg (hkey 0 0 0x20) = s.biTime) ∧
    (s.Runs t (.kick b) fun u => ran u 0 ∧ (u.thread t).kickAt = s.usStrobe) ∧
    (bits w 30 6 = 0 → mine i → kind = 0 → s.Runs t (.edge b) fun u => ran u 4 ∧ u.pin i = p) ∧
    (bits w 30 6 = 0 → mine i → kind ≠ 0 → match p.edges.dropWhile (fun e => !edgeOf kind e.1) with
      | e :: r => s.Runs t (.edge b) fun u => ran u (if p.overflow then 6 else 0) ∧ u.pin i = { p with edges := r, overflow := false } ∧
          (u.thread t).hreg (hkey 0 0 0x20) = e.2 ∧ (u.thread t).hreg (hkey 0 0 0x21) = if e.1 then 1#32 else 0#32
      | [] => s.Runs t (.edge b) fun u => u.pin i = { p with edges := [] } ∧ (u.thread t).regs = x.regs ∧ u.mem = s.mem ∧
          (u.thread t).pc = x.pcAfter (x.pc + 4) ∧ ∀ r ∈ [0x20, 0x21, 0x3F], hkey 0 0 r ∈ (u.thread t).hpend)) ∧
  (∀ s : State, (s.bio.pins.map (·.1)).Pairwise (· < ·) → Leads (exec .timedSetApply s) fun u => u.mem = s.mem ∧ ∀ i,
    let p := s.pin i
    let due := p.sets.filter s.setDue
    let apart (a b : BitVec 32 × Bool × Nat) : Int := toSigned 32 (a.1.toNat + 2 ^ 32 - b.1.toNat)
    (due = [] → u.pin i = p) ∧
    (∀ e ∈ due, (∀ d ∈ due, d ≠ e → 0 ≤ apart e d ∧ apart d e < 0) →
      u.pin i = { p with out := e.2.1, sets := p.sets.filter fun e => !s.setDue e })) ∧
  (∀ (s : State) (i : Fin 64) (v : Bool), let p := s.pin i
    let gives (P : State → Prop) : Prop := Leads (exec (.pinEdgeCapture i v) s) P
    (p.level = v → exec (.pinEdgeCapture i v) s = .next s) ∧
    (p.level ≠ v →
      (bit (s.pinWord i) 2 = 0 → gives fun u => u.pin i = { p with level := v }) ∧
      (bit (s.pinWord i) 2 = 1 → 8 ≤ p.edges.length → gives fun u => u.pin i = { p with level := v, overflow := true } ∧
        u.rd (K.ctrBiopEdgeOverflows (s.pinOwner i)) = (s.rd (K.ctrBiopEdgeOverflows (s.pinOwner i)) + 1) % 2 ^ 64) ∧
      (bit (s.pinWord i) 2 = 1 → p.edges.length < 8 → s.edgeWaiter i v = none → gives fun u =>
        u.pin i = { p with level := v, edges := if s.edgeAwaited i then [] else p.edges ++ [(v, s.biTime)] }) ∧
      (∀ t k, bit (s.pinWord i) 2 = 1 → p.edges = [] → s.edgeWaiter i v = some (t, k) → gives fun u =>
        u.pin i = { p with level := v, edges := [], overflow := false } ∧ (u.thread t).hreg (hkey 0 0 0x20) = s.biTime ∧
        (u.thread t).hreg (hkey 0 0 0x21) = (if v then 1#32 else 0#32) ∧
        (u.thread t).hreg (hkey 0 0 0x3F) = if p.overflow then 6#32 else 0#32))) ∧
  (∀ (s : State) (i : Fin 64) (w : BitVec 32),
    (w.toNat < 65536 → bits w.toNat 7 6 ≠ 3 →
      Leads (exec (.pinConfigWrite i w) s) fun u => u.opStatus = 0 ∧ u.pinStaged i = w ∧ u.bio.pinLive = s.bio.pinLive) ∧
    (65536 ≤ w.toNat ∨ bits w.toNat 7 6 = 3 → exec (.pinConfigWrite i w) s = .next { s with opStatus := 0xFE }))

/-- HALT resets every thread of the processor, which leave the run, and sets RunState; RUN of a processor with verified code
clears it and starts each thread that is not OFF at its EntryPoint, and without verified code it is refused; a HALTED processor
takes a verified barrel image for it, a running one takes none, and an image that fails verification leaves it without verified
code. A thread whose watchdog has run out is reset, counted and starts again at its EntryPoint; one with time left is not.
(15_barrel_io.md, 18_binnacle.md) -/
def Obligations.BarrelProcessorsRun : Prop :=
  (∀ (s : State) (p : Fin 4),
    (Leads (exec (.halt p) s) fun u => u.rd (K.biopRunState p) = 1 ∧ u.abort = 0 ∧ u.mem = s.mem ∧
      (∀ k, k < 16 → (u.thread (512 + 16 * p + k)).st = .out ∧ (u.thread (512 + 16 * p + k)).regs = []) ∧
      ∀ k, k < 4 → (u.unit_ (4 * p + k)).stopped = true) ∧
    (tget false s.boot.barrelOk p = true → Leads (exec (.run p) s) fun u => u.rd (K.biopRunState p) = 0 ∧ u.abort = 0 ∧ u.mem = s.mem ∧
      ∀ k, k < 16 → (u.thread (512 + 16 * p + k)).pc = s.rd (K.biopEntryPoint p k) ∧
        (u.thread (512 + 16 * p + k)).st = if s.rd (K.biopMode p k) = 0 then .out else .ready) ∧
    (tget false s.boot.barrelOk p = false → exec (.run p) s = .next { s with abort := Abort.inconsistent }) ∧
    (∀ image : List Byte, (s.rd (K.biopRunState p) ≠ 1 → exec (.barrelCodeLoad p image) s = .next { s with opStatus := 0xFE }) ∧
      (s.rd (K.biopRunState p) = 1 →
        let ok := (s.verifyService image).1 = bsOk ∧ imgType image = 4 ∧ bit (imgTargets image) p = 1
        Leads (exec (.barrelCodeLoad p image) s) fun u => (u.opStatus = bsOk ↔ ok) ∧
          (tget false u.boot.barrelOk p = true ↔ ok) ∧ s.Stored u (memKey .barrelCode (65536 * p)) ((imgBody image).take 65536)))) ∧
  (∀ (s : State) (b : Fin 64), let n := s.rd (K.biopWatchdogLimit (b / 16) (b % 16))
    let x := s.thread (512 + b)
    (n ≠ 0 → x.st ≠ .out → x.st ≠ .idle → x.kickAt + n + 1 ≤ s.usStrobe →
      s.rd (K.biopMode (b / 16) (b % 16)) ≠ 0 → s.rd (K.biopRunState (b / 16)) = 0 →
      Leads (exec (.barrelWatchdogExpiry b) s) fun u => (u.thread (512 + b)).st = .ready ∧ (u.thread (512 + b)).regs = [] ∧
        (u.thread (512 + b)).pc = s.rd (K.biopEntryPoint (b / 16) (b % 16)) ∧ (u.thread (512 + b)).kickAt = s.usStrobe ∧
        u.rd (K.ctrBiopThreadResets (b / 16)) = (s.rd (K.ctrBiopThreadResets (b / 16)) + 1) % 2 ^ 64) ∧
    (n = 0 ∨ x.st = .out ∨ x.st = .idle ∨ s.usStrobe < x.kickAt + n + 1 → exec (.barrelWatchdogExpiry b) s = .next s))

/-- A unit operation of another thread gives NOT_OWNER. By the OwnerThread, TXPUSH of 1 to 32 bits enters a TX FIFO with room,
RXPOP takes the oldest RX word or waits, ACKARM arms, SETSTATE waits for the boundary, TXABORT empties the FIFO outside a frame;
else BAD_OPERAND or FULL. A running unit's events set their EVENTS bit and counter, a word enters an RX FIFO with room, a TX
word is taken, an ACK slot armed 4 cycles before is driven and another missed. UPSUB queues a message on its stream, which
leaves in one frame for the M0 pipeline at the batch timeout (at once when that is 0). A downlink frame is taken and counted,
and its one CAN message is put into its channel's ring when that has room. MTC writes and MFC reads an assigned register, MTC of
DNTAIL the ring's tail. (15_barrel_io.md, 10_wenkin_encoding.md) -/
def Obligations.AssistUnitsAndBridgeServe : Prop :=
  (∀ (s : State) (b : Fin 64),
    let t := 512 + b.val
    let x := s.thread t
    let v := s.cop t 1 0
    let a := s.unit_ v
    let ran (u : State) (n st : Nat) : Prop := (u.thread t).hreg (hkey 0 n 0x3F) = BitVec.ofNat 32 st ∧ (u.thread t).regs = x.regs ∧
      (u.thread t).pc = x.pcAfter (x.pc + 4) ∧ u.mem = s.mem
    (∀ j ∈ [Instr.txpush b, .rxpop b, .ackarm b, .setstate b, .txabort b],
      (16 ≤ v → s.Runs t j fun u => ran u 1 4 ∧ u.bio.units = s.bio.units) ∧
      (v < 16 → s.unitOwner v ≠ t → s.Runs t j fun u => ran u 1 3 ∧ u.bio.units = s.bio.units)) ∧
    (v < 16 → s.unitOwner v = t →
      let gives (j : Instr) (st : Nat) (a' : Assist) : Prop := s.Runs t j fun u => ran u 1 st ∧ u.unit_ v = a'
      (let w := s.cop t 1 2
       let ok := w < 128 ∧ 1 ≤ w % 64 ∧ w % 64 ≤ 32
       (¬ok → gives (.txpush b) 4 a) ∧ (ok → 4 ≤ a.tx.length → gives (.txpush b) 2 a) ∧
       (ok → a.tx.length < 4 → gives (.txpush b) 0 { a with tx := a.tx ++ [(BitVec.ofNat 32 (s.cop t 1 1), w % 64, decide (64 ≤ w))] })) ∧
      (∀ w n last r, a.rx = (w, n, last) :: r →
        gives (.rxpop b) 0 { a with rx := r, rxw := w, rxinfo := BitVec.ofNat 32 (n + 64 * b2n last) }) ∧
      (a.rx = [] → s.Runs t (.rxpop b) fun u => u.unit_ v = a ∧ (u.thread t).pc = x.pcAfter (x.pc + 4) ∧ u.mem = s.mem ∧
        ∀ r ∈ [0x20, 0x21, 0x3F], hkey 0 1 r ∈ (u.thread t).hpend) ∧
      (if a.crc = some false then gives (.ackarm b) 4 a else gives (.ackarm b) 0 { a with armedAt := some s.biTime }) ∧
      (if s.cop t 1 3 < 3 then gives (.setstate b) 0 { a with next := some (s.cop t 1 3), stopped := false } else gives (.setstate b) 4 a) ∧
      (if a.sending then gives (.txabort b) 4 a else gives (.txabort b) 0 { a with tx := [] })) ∧
    (let c := s.cop t 2 0
     let k := s.rd (K.bchUpStream c)
     let ok := c < 8 ∧ k < 8 ∧ s.on (K.bstrEnable k) = true ∧ s.cop t 2 1 < 2 ^ 31 ∧ s.cop t 2 2 < 8 ∧
       canLength (decide (bit (s.cop t 2 2) 0 = 1)) (s.cop t 2 3) = true ∧ s.cop t 2 4 % 8 = 0 ∧ s.cop t 2 4 + s.cop t 2 3 ≤ 32768
     let mine := s.unitOwner (s.rd (K.bchUnit c)) = t
     let q := (s.upStream k).queue
     let m : UpMsg := ⟨c, BitVec.ofNat 32 (s.cop t 2 1), BitVec.ofNat 3 (s.cop t 2 2),
       s.loadBytes .barrelData (32768 * (b.val / 16) + s.cop t 2 4) (s.cop t 2 3),
       s.sofDomainTime (s.rd (K.bstrTsDomain k)) (BitVec.ofNat 32 (s.cop t 2 5))⟩
     (¬ok → s.Runs t (.upsub b) fun u => ran u 2 4 ∧ u.upStream k = s.upStream k) ∧
     (ok → ¬mine → s.Runs t (.upsub b) fun u => ran u 2 3 ∧ u.upStream k = s.upStream k) ∧
     (ok → mine → 64 ≤ q.length → s.Runs t (.upsub b) fun u => ran u 2 2 ∧ u.upStream k = s.upStream k ∧
       u.rd K.ctrAcfUpQueueFull = (s.rd K.ctrAcfUpQueueFull + 1) % 2 ^ 64) ∧
     (ok → mine → q.length < 64 → (q = [] ∨ s.upLength k m ≤ s.rd (K.bstrMaxFrameBytes k)) → s.Runs t (.upsub b) fun u => ran u 2 0 ∧
       if s.rd (K.bstrBatchTimeout k) = 0 then (u.upStream k).queue = [] ∧ u.bio.inject.length = s.bio.inject.length + 1
       else (u.upStream k).queue = q ++ [m] ∧ u.bio.inject = s.bio.inject) ∧
     (ok → mine → q.length < 64 → q ≠ [] → s.rd (K.bstrMaxFrameBytes k) < s.upLength k m → s.rd (K.bstrBatchTimeout k) ≠ 0 →
       s.Runs t (.upsub b) fun u => ran u 2 0 ∧ (u.upStream k).queue = [m] ∧ u.bio.inject.length = s.bio.inject.length + 1)) ∧
    (∀ (tt : Fin 580) (r : Fin 32) (n : Fin 4) (c : Fin 64), tt.val = t → copReg n c ≠ none →
      (copReg n c = some true → s.Runs t (.mtc tt r n c) fun u => (u.thread t).regs = x.regs ∧ u.mem = s.mem ∧
        (u.thread t).pc = x.pcAfter (x.pc + 4) ∧ if n = 2 ∧ c = 6 then tget 0 u.bio.ringTail (s.cop t 2 0 % 8) = (x.reg r).toNat
          else (u.thread t).hreg (hkey 0 n c) = x.reg r) ∧
      (hkey 0 n c ∉ x.hpend → s.Runs t (.mfc tt r n c) fun u => s.Wrote u t r (s.copRead t n c) x.tsw ∧
        (n = 1 → c = 0x23 → (u.unit_ (v % 16)).events = 0#14)) ∧
      (hkey 0 n c ∈ x.hpend → s.Runs t (.mfc tt r n c) fun u => u.thread t = { x with st := .blocked (.helper n c) } ∧ u.mem = s.mem)) ∧
    (∀ r : Fin 32, s.Runs t (.dntailWrite b r) fun u => u.mem = s.mem ∧ (u.thread t).pc = x.pcAfter (x.pc + 4) ∧
      tget 0 u.bio.ringTail (s.cop t 2 0 % 8) = (x.reg r).toNat)) ∧
  (∀ (s : State) (v : Fin 16) (w : BitVec 32) (n : Fin 33) (last : Bool), let a := (s.unitBoundary v).unit_ v
    let does (e : Fin 16) (P : State → Prop) : Prop := Leads (exec (.assistEvent v e w n last) s) fun u => u.mem = s.mem ∧ P u
    let sets (e : Nat) (a : Assist) : Assist := { a with events := a.events ||| BitVec.ofNat 14 (2 ^ e) }
    (s.unitRuns v = false → ∀ e, exec (.assistEvent v e w n last) s = .next s) ∧
    (s.unitRuns v = true →
      (a.rxDrop = false → a.rx.length < 4 → tget 0 s.bio.waits (4 * (s.unitOwner v - 512) + 1) ≠ 1 + v.val →
        does 0 fun u => u.unit_ v = sets 0 { a with rx := a.rx ++ [(w, n.val, last)] }) ∧
      (a.rxDrop = false → 4 ≤ a.rx.length → does 0 fun u => u.unit_ v = sets 9 { a with rxDrop := true } ∧
        u.rd (K.ctrUnitRxOverruns v) = (s.rd (K.ctrUnitRxOverruns v) + 1) % 2 ^ 64) ∧
      (does 1 fun u => u.unit_ v = sets 1 { a with crc := some true }) ∧
      (∀ x ∈ [(2, K.ctrUnitCrcErrors v, { a with crc := some false }), (3, K.ctrUnitArbLost v, { a with sending := false }),
        (4, K.ctrUnitBitErrors v, a), (5, K.ctrUnitStuffErrors v, a), (6, K.ctrUnitFormErrors v, a), (7, K.ctrUnitAckErrors v, a),
        (8, K.ctrUnitFramesTx v, { a with sending := false })],
        does x.1 fun u => u.unit_ v = sets x.1.val x.2.2 ∧ u.rd x.2.1 = (s.rd x.2.1 + 1) % 2 ^ 64) ∧
      (∀ e ∈ [11, 12], does e fun u => u.unit_ v = sets e.val a) ∧
      (does 14 fun u => u.unit_ v =
        { a with sofTime := s.biTime, crc := none, armedAt := none, ack := false, rxDrop := false, sending := last && !a.tx.isEmpty }) ∧
      (∀ y r, a.tx = y :: r → (r ≠ [] ∨ y.2.2 = true) → does 15 fun u => u.unit_ v = { a with tx := r }) ∧
      (∀ y, a.tx = [y] → y.2.2 = false → does 15 fun u => u.unit_ v = sets 10 { a with tx := [], sending := false } ∧
        u.rd (K.ctrUnitTxUnderruns v) = (s.rd (K.ctrUnitTxUnderruns v) + 1) % 2 ^ 64) ∧
      (a.sending = false → (∀ m, a.armedAt = some m → 4 ≤ (s.biTime - m).toNat → Leads (exec (.ackSlotStart v) s) fun u =>
          u.mem = s.mem ∧ u.unit_ v = { a with ack := true, armedAt := none }) ∧
        ((∀ m, a.armedAt = some m → (s.biTime - m).toNat < 4) → Leads (exec (.ackSlotStart v) s) fun u => u.mem = s.mem ∧
          u.unit_ v = { a with ack := false, armedAt := none } ∧
          u.rd (K.ctrUnitAckMissed v) = (s.rd (K.ctrUnitAckMissed v) + 1) % 2 ^ 64)))) ∧
  (∀ (s : State) (k : Fin 8), let q := (s.upStream k).queue
    (q ≠ [] → (s.upStream k).since + s.rd (K.bstrBatchTimeout k) ≤ s.now →
      Leads (exec (.batchTimeout k) s) fun u => (u.upStream k).queue = [] ∧ (u.upStream k).seq = (s.upStream k).seq + 1 ∧ u.mem = s.mem ∧
        ∃ f, u.bio.inject = s.bio.inject ++ [f] ∧ f.secY = 0xFF#8 ∧
          let msgs := q.flatMap fun m => m.bytes (s.rd (K.bchBusId m.chan))
          s.upHead k msgs.length (s.upStream k).seq ++ msgs <+: f.bytes) ∧
    (s.now < (s.upStream k).since + s.rd (K.bstrBatchTimeout k) → exec (.batchTimeout k) s = .next s)) ∧
  (∀ (s : State) (c : TmCopy) (r : List TmCopy), s.tm.acfIn = c :: r →
    let b := s.copyBytes c
    (acfSpan b = none → Leads (exec .bridgeDownlink s) fun u => u.tm.acfIn = r ∧
      u.rd K.ctrAcfDownMalformed = (s.rd K.ctrAcfDownMalformed + 1) % 2 ^ 64) ∧
    (∀ o n, acfSpan b = some (o, n) → Leads (exec .bridgeDownlink s) fun u => u.tm.acfIn = r ∧
      u.rd K.ctrAcfDownFrames = (s.rd K.ctrAcfDownFrames + 1) % 2 ^ 64 ∧
      ∀ ty ch, let hd := if ty = 1 then 16 else 8
        let pad := beAt b (o + 2) 1 / 64
        let len := n - hd - pad
        let ring := s.rd (K.bchDownRingBytes ch)
        (ty = 1 ∨ ty = 2) → n ≠ 0 → n % 4 = 0 → beAt b o 2 = ty * 512 + n / 4 → hd + pad ≤ n → len ≤ 64 →
        s.chanOfBus (beAt b (o + 3) 1 % 32) = some ch →
        let place := ringPlace ring (tget 0 s.bio.ringHead ch) (tget 0 s.bio.ringTail ch) (16 + 8 * cdiv len 8)
        (∀ p, place = some p → tget 0 u.bio.ringHead ch = (p + (16 + 8 * cdiv len 8)) % ring ∧
          u.rd K.ctrAcfDownMessages = (s.rd K.ctrAcfDownMessages + 1) % 2 ^ 64) ∧
        (place = none → u.bio.ringHead = s.bio.ringHead ∧ u.rd K.ctrAcfDownRingFull = (s.rd K.ctrAcfDownRingFull + 1) % 2 ^ 64)))

/-- A training step that ends well goes to the next, the last channel's step 7 makes DramState READY, the fourth failure FAILED.
A region initialised reads zero and is READY. ALERT_n low stops issue, or past RetryLimit or in a retry sequence fails the
channel; high resumes it with the rows reissued. A refresh is postponed below 4 times while work waits, else closes its rows; an
idle rank enters power-down; the scrub corrects a line or counts it as bad; a timing parameter is written; an old write brings
DRAIN. A request a check refuses completes with that status; another joins its queue (a write merges into a queued write of its
line, a read takes its bytes), or waits in its crossing. The read or write that is picked leaves its queue with the status of
its line's checks and, when that is 0, its bytes: returned from the line and the writes it forwards, or laid over the line,
whose other bytes stay; an exhausted counter refuses the write. The Pilot's line write replaces exactly the line. (16_dram.md) -/
def Obligations.DramServesAndKeepsItself : Prop :=
  (
  (∀ (s : State) (c : Fin 2), let x := s.dchan c
    (¬(s.rd K.dramDramState = 1 ∧ s.populated c = true ∧ 1 ≤ x.step ∧ x.step ≤ 7) → ∀ ok, exec (.dramTrainStepDone c ok) s = .next s) ∧
    (s.rd K.dramDramState = 1 → s.populated c = true →
    (1 ≤ x.step → x.step < 7 → Leads (exec (.dramTrainStepDone c true) s) fun u =>
      u.dchan c = { x with step := x.step + 1, tries := 0 } ∧ u.rd K.dramDramState = 1 ∧ u.mem = s.mem) ∧
    (x.step = 7 → Leads (exec (.dramTrainStepDone c true) s) fun u => u.rd (K.dchChannelState c) = 1 ∧ (u.dchan c).step = 8 ∧
      u.rd K.dramDramState = if ∀ k : Fin 2, k ≠ c → s.populated k = true → (s.dchan k).step = 8 then 2 else 1) ∧
    (1 ≤ x.step → x.step ≤ 7 →
      (x.tries < 3 → exec (.dramTrainStepDone c false) s = .next (s.setDchan c { x with tries := x.tries + 1 })) ∧
      (3 ≤ x.tries → Leads (exec (.dramTrainStepDone c false) s) fun u => u.rd K.dramDramState = 3 ∧ u.mem = s.mem)))) ∧
  (∀ (s : State) (r : Fin 8), s.rd K.dramDramState = 2 → s.rd (K.drgSize r) ≠ 0 → s.rd (K.drgState r) = 0 →
    Leads (exec (.regionInitDone r) s) fun u => u.rd (K.drgState r) = 1 ∧ ∀ k, mget u.mem k =
      if memKey .dram (s.rd (K.drgBase r)) ≤ k ∧ k < memKey .dram (s.rd (K.drgBase r)) + s.rd (K.drgSize r) then 0#8
      else mget s.mem k) ∧
  (∀ (s : State) (c sub rank : Fin 2) (b : Fin 32), let x := s.dchan c
    let rk := rankKey c sub rank
    let closed (u : State) (p : Nat → Prop) : Prop := ∀ k, (p k → (u.dbank k).openRow = none) ∧ (¬p k → u.dbank k = s.dbank k)
    s.rd (K.dchChannelState c) = 1 →
    (exec (.periodicCal c) s = .next (s.setDchan c { x with cals := x.cals + 1 })) ∧
    (let recent := s.now :: x.alerts.filter fun t => decide (s.now < t + 1000000)
     x.alert = false →
      ((∀ t, x.highAt = some t → t ≠ s.now ∧ x.alerts.headD 0 + 2000 ≤ s.now) → recent.length ≤ s.rd (K.dchRetryLimit c) →
        Leads (exec (.ddrAlert c) s) fun u => u.dchan c = { x with alert := true, alerts := recent } ∧ u.mem = s.mem) ∧
      (s.rd (K.dchRetryLimit c) < recent.length ∨ x.highAt = some s.now →
        Leads (exec (.ddrAlert c) s) fun u => u.rd (K.dchChannelState c) = 2 ∧ u.rd K.dramDramState = 3)) ∧
    (x.alert = true → Leads (exec (.alertNHigh c) s) fun u => (u.dchan c).alert = false ∧ (u.dchan c).highAt = some s.now ∧
      u.mem = s.mem ∧ u.rd (K.ctrDchParityRetries c) = (s.rd (K.ctrDchParityRetries c) + 1) % 2 ^ 64 ∧
      (∀ k, k / 128 ≠ c.val → u.dbank k = s.dbank k) ∧
      (x.retryA = [] → x.retryB = [] → closed u fun k => k / 128 = c.val) ∧
      (∀ q, x.retryA ++ x.retryB = [q] → x.alerts.headD s.now ≤ q.at_ + s.retryWindowNs → let pl := s.dramPlace q.line
        (u.dbank (bankKey c (dramSub q.line) pl.1 pl.2.1)).openRow = some pl.2.2)) ∧
    (rank.val < s.rd K.dramRanks →
      (let postponed (u : State) : Prop := u.drank rk = { s.drank rk with postponed := (s.drank rk).postponed + 1 } ∧ u.dram.banks = s.dram.banks
       let refreshed (u : State) : Prop := u.drank rk = ⟨false, 0, s.now⟩ ∧ if s.rd (K.dchRefreshMode c) = 0 then closed u fun k => k / 32 = rk
         else ∃ j, j < 4 ∧ closed u fun k => k / 32 = rk ∧ k % 4 = j
       Leads (exec (.refreshDue c sub rank) s) fun u => u.mem = s.mem ∧
        (refreshed u ∨ (x.drain = true ∨ x.reads ≠ []) ∧ (s.drank rk).postponed < 4 ∧ postponed u)) ∧
      ((∀ q ∈ x.reads ++ x.writes, ¬(dramSub q.line = sub.val ∧ (s.dramPlace q.line).1 = rank.val)) → x.alert = false → (s.drank rk).down = false →
        (s.drank rk).busyAt + s.clocksNs (s.rd (K.dchPowerDownIdle c)) < s.now + 8 →
        Leads (exec (.powerDownIdle c sub rank) s) fun u => u.drank rk = { s.drank rk with down := true } ∧ u.mem = s.mem ∧
          closed u fun k => k / 32 = rk)) ∧
    (let k := bankKey c sub rank b
     exec (.refreshWindowEnd c sub rank b) s =
      .next (s.setDbank k { s.dbank k with counts := [], throttled := [], told := false })) ∧
    (∀ w r, x.writes = w :: r → x.drain = false → w.at_ + s.rd (K.dchWriteMaxAge c) ≤ s.now →
      Leads (exec (.writeMaxAgeReached c) s) fun u => u.dchan c = { x with drain := true } ∧
        u.rd (K.ctrDchDrains c) = (s.rd (K.ctrDchDrains c) + 1) % 2 ^ 64)) ∧
  (∀ (s : State) (a : BitVec 36), let line := a.toNat / 64 * 64
    let counts (key : Nat) (P : State → Prop) : Prop := Leads (exec (.patrolScrub a) s) fun u => u.mem = s.mem ∧
      u.rd key = (s.rd key + 1) % 2 ^ 64 ∧ P u
    (s.dramRefusal line = none → line ∈ s.dram.badEcc → counts (K.ctrDchEccUncorrectable (s.dramChannel line)) fun u => u.dram = s.dram) ∧
    (s.dramRefusal line = none → line ∉ s.dram.badEcc → line ∈ s.dram.fixEcc →
      counts (K.ctrDchEccCorrected (s.dramChannel line)) fun u => u.dram.fixEcc = s.dram.fixEcc.filter (· ≠ line)) ∧
    (s.dramRefusal line ≠ none ∨ line ∉ s.dram.badEcc ∧ line ∉ s.dram.fixEcc → exec (.patrolScrub a) s = .next s)) ∧
  (∀ (s : State) (n : Fin 96) (v : BitVec 32), if n.val % 32 < 26
    then Leads (exec (.dramTimingWrite n v) s) fun u => u.opStatus = 0 ∧
      tget 0 u.dram.timing n = v.toNat ∧ ∀ k, k ≠ n.val → tget 0 u.dram.timing k = tget 0 s.dram.timing k
    else exec (.dramTimingWrite n v) s = .next { s with opStatus := 0xFE })) ∧
  (
  (∀ (s : State) (q : Fin 20) (a : BitVec 36) (w : Bool) (data : List Byte) (n : Fin 65),
    let line := a.toNat / 64 * 64
    let off := a.toNat % 64
    let c := s.dramChannel a.toNat
    let x := s.dchan c
    let old := x.writes.find? (·.line = line)
    let r : DramReq := ⟨q, line, w, if w then offsets off (data.take (64 - off)) else [], off, min n.val (64 - off), s.now, 0⟩
    let gives (P : State → Prop) : Prop := Leads (exec (.dramRequest q a w data n) s) fun u => u.mem = s.mem ∧ P u
    s.dram.fromOb = [] → s.dram.fromPl = [] →
    (∀ st, s.dramRefusal line = some st → gives fun u => u.opStatus = st ∧ u.dram = { s.dram with done := [⟨q, line, st, []⟩] }) ∧
    (s.dramRefusal line = none →
      (w = false → x.reads.length < 64 → gives fun u => (u.dchan c).writes = x.writes ∧
        (u.dchan c).reads = x.reads ++ [{ r with bytes := (old.map (·.bytes)).getD [] }]) ∧
      (w = true → old = none → x.writes.length < 64 → gives fun u => (u.dchan c).writes = x.writes ++ [r] ∧ (u.dchan c).reads = x.reads) ∧
      (∀ v, w = true → old = some v → gives fun u => (u.dchan c).reads = x.reads ∧
        (u.dchan c).writes = x.writes.map fun y => if y.line = line then { y with bytes := mergeBytes v.bytes r.bytes } else y) ∧
      ((w = false → 64 ≤ x.reads.length) → (w = true → old = none ∧ 64 ≤ x.writes.length) →
        gives fun u => u.dram = { s.dram with done := [], fromOb := if q.val < 2 then [r] else [], fromPl := if q.val < 2 then [] else [r] }))) ∧
  (∀ (s : State) (c sub : Fin 2) (q : DramReq), let x := s.dchan c
    let line := q.line
    let bad := line ∈ s.dram.badEcc
    let forged := s.regionKind line ≠ 0 ∧ line ∈ s.dram.badTag
    s.issuing c sub = true → s.dram.fromOb = [] → s.dram.fromPl = [] →
    (let gives (st : Nat) (bs : List Byte) : Prop := Leads (exec (.dramReadComplete c sub) s) fun u =>
        (u.dchan c).reads = s.leave q x.reads ∧ u.mem = s.mem ∧ u.opStatus = st ∧ u.dram.done = [⟨q.requester, line, st, bs⟩]
     (x.drain = false ∨ s.writeCands c sub = []) → s.dramPick c (s.readCands c sub) = some q →
      (bad → gives 1 []) ∧ (¬bad → forged → gives 2 []) ∧
      (¬bad → ¬forged → gives 0 (slice (overlay (s.lineBytes line) q.bytes) q.off q.size))) ∧
    (let gives (st : Nat) (P : State → Prop) : Prop := Leads (exec (.dramWriteDrain c sub) s) fun u =>
        (u.dchan c).writes = s.leave q x.writes ∧ u.opStatus = st ∧ u.dram.done = [⟨q.requester, line, st, []⟩] ∧ P u
     let part := q.bytes.length < 64
     (x.drain = true ∨ s.readCands c sub = []) → s.dramPick c (s.writeCands c sub) = some q →
      (part → bad → gives 1 fun u => u.mem = s.mem) ∧ (part → ¬bad → forged → gives 2 fun u => u.mem = s.mem) ∧
      ((part → ¬bad ∧ ¬forged) → if ∃ k ∈ s.counterChain line, tget 0 s.dram.counters k = 2 ^ 56 - 1 then gives 7 fun u => u.mem = s.mem
        else gives 0 fun u => s.Stored u (memKey .dram line) (overlay (s.lineBytes line) q.bytes)))) ∧
  (∀ (s : State) (l : BitVec 30) (image : List Byte), let line := 64 * l.toNat
    (image.length ≠ 64 → exec (.dramLineWrite l image) s = .next { s with opStatus := 0xFE }) ∧
    (image.length = 64 →
      (∀ st, s.dramRefusal line = some st → Leads (exec (.dramLineWrite l image) s) fun u => u.opStatus = st ∧ u.mem = s.mem) ∧
      (s.dramRefusal line = none → Leads (exec (.dramLineWrite l image) s) fun u =>
        if ∃ k ∈ s.counterChain line, tget 0 s.dram.counters k = 2 ^ 56 - 1 then u.opStatus = 7 ∧ u.mem = s.mem
        else u.opStatus = 0 ∧ s.Stored u (memKey .dram line) image))))

/-- A Pilot doorbell with a valid descriptor of a free channel queues the transfer; another is refused and counted, the channels
left alone. The idle mover takes the head of the queue. The running transfer ends, is counted and frees its channel, its record
written, or held while the ring is full; within one line, between two places of DRAM, Pilot SRAM, shared RAM or data RAM that no
check refuses, it copies its bytes; an Orchard source that the engine does not own ends it in error. An abort marks a running
transfer and removes a queued one. A tail within the ring is written and releases held records, one outside is refused; a record
held for 1 ms is told once. (17_dma.md, 16_dram.md) -/
def Obligations.DmaMovesAndRecords : Prop :=
  (∀ (s : State) (ch : Fin 16) (d : BitVec 256) (p : Fin 2),
    (s.doorbellStatus ch d true = 0 → s.on K.dmaCqEnable = true →
      Leads (exec (.dmaPilotDoorbell ch d p) s) fun u => u.opStatus = 0 ∧ u.dma.queue = s.dma.queue ++ [ch.val] ∧ u.mem = s.mem ∧
        ∃ y, tget none u.dma.chans ch = some y ∧ y.desc = d ∧ y.origin = 2 ∧ y.requester = BitVec.ofNat 32 p) ∧
    (s.doorbellStatus ch d true ≠ 0 ∨ s.on K.dmaCqEnable = false →
      Leads (exec (.dmaPilotDoorbell ch d p) s) fun u => u.opStatus = 0 ∧ u.dma.queue = s.dma.queue ∧ u.dma.chans = s.dma.chans ∧
        u.rd K.ctrDmaDoorbellsRefused = (s.rd K.ctrDmaDoorbellsRefused + 1) % 2 ^ 64 ∧
        (s.on K.dmaCqEnable = true → s.ringFull = true → u.dma.held.length = s.dma.held.length + 1))) ∧
  (∀ (s : State) (ch : Fin 16),
    (tget none s.dma.chans ch = none → exec (.dmaAbort ch) s = .next { s with opStatus := 0 }) ∧
    (∀ x, tget none s.dma.chans ch = some x →
      (s.dma.running = some ch.val → Leads (exec (.dmaAbort ch) s) fun u => u.mem = s.mem ∧
        tget none u.dma.chans ch = some { x with abort := true }) ∧
      (s.dma.running ≠ some ch.val → ch.val ∈ s.dma.queue → Leads (exec (.dmaAbort ch) s) fun u =>
        u.dma.queue = s.dma.queue.filter (· ≠ ch.val) ∧ u.rd K.ctrDmaAborts = (s.rd K.ctrDmaAborts + 1) % 2 ^ 64 ∧
        if s.ringFull = true ∨ s.dma.held ≠ [] then u.dma.held = s.dma.held ++ [⟨ch, x, 13, 0, false⟩]
        else tget none u.dma.chans ch = none))) ∧
  (∀ (s : State) (ch : Nat) (r : List Nat) (x : DmaXfer), tget none s.dma.chans ch = some x →
    (s.dma.queue = ch :: r → s.dma.running = none → s.dma.held = [] → Leads (exec .transferStart s) fun u =>
      u.dma.queue = r ∧ u.dma.running = some ch ∧ (∃ y, tget none u.dma.chans ch = some y ∧ y.desc = x.desc) ∧
      let h := opLoc (dmaSrc x.desc) % 2 ^ 24
      let c := s.cell h
      (opSpace (dmaSrc x.desc) = 4 → s.isBufferCell h = true → c.allocated = true → c.head = true → c.quarantined = false →
        (u.cell h).owners = c.owners ||| 0x400#16)) ∧
    (s.dma.running = some ch → (∀ r ∈ s.dma.held, r.ch = ch → r.refused = true) → Leads (exec .transferComplete s) fun u =>
      u.rd K.ctrDmaTransfers = (s.rd K.ctrDmaTransfers + 1) % 2 ^ 64 ∧
      if s.ringFull = true ∨ s.dma.held ≠ [] then u.dma.held.length = s.dma.held.length + 1 ∧ u.dma.running = some ch
      else u.dma.running = none ∧ tget none u.dma.chans ch = none ∧ u.rd K.dmaCqHead = (s.rd K.dmaCqHead + 1) % s.rd K.dmaCqEntries) ∧
    (let src := dmaSrc x.desc
     let dst := dmaDst x.desc
     let n := dmaLen x.desc
     let key (a : Nat) : Nat := memKey (if opSpace a = 0 then .dram else if opSpace a = 1 then .pilot else if opSpace a = 2 then .shared
       else .coreData) (opLoc a)
     let slot := s.rd K.dmaCqBase + 32 * s.rd K.dmaCqHead
     let readable : Prop := if opSpace src = 0
       then let line := opLoc src / 64 * 64
         s.dramRefusal line = none ∧ line ∉ s.dram.badEcc ∧ line ∉ s.dram.badTag ∧ ∀ w ∈ (s.dchan (s.dramChannel line)).writes, w.line ≠ line
       else opSpace src < 4 ∧ s.badIn (key src) n = none
     let writable : Prop := if opSpace dst = 0
       then let line := opLoc dst / 64 * 64
         s.dramRefusal line = none ∧ line ∉ s.dram.badEcc ∧ line ∉ s.dram.badTag ∧
           ∀ k ∈ s.counterChain line, tget 0 s.dram.counters k ≠ 2 ^ 56 - 1
       else opSpace dst < 4
     s.dma.running = some ch → ch < 16 → x.abort = false → (∀ r ∈ s.dma.held, r.ch = ch → r.refused = true) →
      (readable → writable → n ≤ toLine src → n ≤ toLine dst → Leads (exec .transferComplete s) fun u =>
        ∀ i, i < n → (key slot ≤ key dst + i → key slot + 32 ≤ key dst + i) → opSpace slot < 4 →
          mget u.mem (key dst + i) = mget s.mem (key src + i)) ∧
      (opSpace src = 4 → (s.cell (opLoc src % 2 ^ 24)).owners.getLsbD 10 = false → Leads (exec .transferComplete s) fun u =>
        u.rd K.ctrDmaTransferErrors = (s.rd K.ctrDmaTransferErrors + 1) % 2 ^ 64))) ∧
  (∀ (s : State) (v : BitVec 16),
    (v.toNat < s.rd K.dmaCqEntries → Leads (exec (.cqTailWrite v) s) fun u => u.rd K.dmaCqTail = v.toNat ∧
      u.abort = 0 ∧ (s.dma.held = [] → u.dma = s.dma) ∧
      ∀ r rest, s.dma.held = r :: rest → (s.rd K.dmaCqHead + 1) % s.rd K.dmaCqEntries ≠ v.toNat → u.dma.held <:+ rest) ∧
    (s.rd K.dmaCqEntries ≤ v.toNat → exec (.cqTailWrite v) s = .next { s with abort := 0x03000006 })) ∧
  (∀ s : State, (s.dma.held ≠ [] → s.dma.told = false → s.dma.heldAt + 1000000 ≤ s.now →
      Leads (exec .cqFullTimeout s) fun u => u.dma = { s.dma with told := true } ∧ u.mem = s.mem) ∧
    (s.dma.held = [] ∨ s.dma.told = true ∨ s.now < s.dma.heldAt + 1000000 → exec .cqFullTimeout s = .next s))

/-- Zeroised, every service answers ZEROISED. Else a stale handle answers BAD_HANDLE and a key of another usage USAGE; a failed
TRNG, a blob or SAK that does not unwrap, a full store and a target that does not exist answer theirs, and a refused delivery
installs nothing and is counted. A service that makes a key answers OK with its handle, puts it into a slot that was free and
leaves the other slots; MKA_ICV answers the AES-CMAC; INSTALL_SA gives the SAK to the association it names and LOAD_SLOT the key
to the cluster's slot, and no other changes; DESTROY frees the slot; RNG answers as many bytes as asked; VERIFY answers the
status of its checks, and OK extends the measurement register of the type, at once or after the quote under way.
(18_binnacle.md, 02_port_complex.md, 11_helpers.md) -/
def Obligations.BinnacleServicesAnswer : Prop :=
  ∀ s : State,
  let free : Prop := ∃ i, i < 256 ∧ (s.keyEntry i).used = false
  let answers (j : Instr) (st : Nat) : Prop := exec j s = .next { s with opStatus := st, reply := [] }
  let refuses (j : Instr) (st : Nat) : Prop := Leads (exec j s) fun u => u.opStatus = st ∧ u.px.sas = s.px.sas ∧ u.cores = s.cores ∧
    u.rd K.ctrBinKeyRefusals = (s.rd K.ctrBinKeyRefusals + 1) % 2 ^ 64
  (∀ (h : BitVec 32) (n : Fin 64) (b : BitVec 512) (ckn : BitVec 256) (len : Fin 32) (pdu : List (BitVec 8)) (long : Bool)
    (p secy sc an : BitVec 8) (salt : BitVec 96) (ssci : BitVec 32) (cluster slot : BitVec 8),
    let held := [Instr.mkaDerive h ckn len, .mkaIcv h pdu, .sakNew h long, .sakUnwrap h pdu, .destroy h]
    let sent := [Instr.installSa h p secy sc an salt ssci, .loadSlot h cluster slot]
    (s.zeroised = true → (∀ j ∈ held ++ [.rng n, .loadBlob b, .verify pdu], answers j 6) ∧ ∀ j ∈ sent, refuses j 6) ∧
    (s.zeroised = false → s.byHandle h.toNat = none → (∀ j ∈ held, answers j 1) ∧ ∀ j ∈ sent, refuses j 1) ∧
    (∀ e, s.zeroised = false → s.byHandle h.toNat = some e →
      (e.usage ≠ 1 → answers (.mkaDerive h ckn len) 2) ∧ (e.usage ≠ 6 → answers (.mkaIcv h pdu) 2) ∧
      (e.usage ≠ 5 → answers (.sakNew h long) 2 ∧ answers (.sakUnwrap h pdu) 2) ∧
      (e.usage ≠ 7 → refuses (.installSa h p secy sc an salt ssci) 2) ∧
      (e.usage ≠ 2 → e.usage ≠ 3 → refuses (.loadSlot h cluster slot) 2))) ∧
  (s.zeroised = false →
  (∀ n : Fin 64, if s.trngOk then Leads (exec (.rng n) s) fun u => u.opStatus = 0 ∧ u.reply.length = n.val + 1 ∧ u.bin = s.bin
    else answers (.rng n) 7) ∧
  (∀ (b : BitVec 512), (s.life = 0 ∨ s.life = 5 → answers (.loadBlob b) 12) ∧
    (s.life ≠ 0 → s.life ≠ 5 → (s.openBlob (toLE 64 b.toNat) = none → answers (.loadBlob b) 3) ∧
      ∀ id usage k, s.openBlob (toLE 64 b.toNat) = some (id, usage, k) → (¬free → answers (.loadBlob b) 4) ∧
        (free → Leads (exec (.loadBlob b) s) fun u => u.opStatus = 0 ∧
          ∃ i, s.Keeps u i usage id k ∧ u.reply = toLE 4 (handleOf i (s.keyEntry i).gen)))) ∧
  (∀ (h : BitVec 32) (e : KeyEntry), s.byHandle h.toNat = some e →
    (∀ (ckn : BitVec 256) (len : Fin 32), e.usage = 1 →
      ((∃ i j, i < j ∧ j < 256 ∧ (s.keyEntry i).used = false ∧ (s.keyEntry j).used = false) →
      Leads (exec (.mkaDerive h ckn len) s) fun u => u.opStatus = 0 ∧
        ∃ v i j, s.Keeps v i 5 e.keyId (kdf8021x e.bytes (ascii "IEEE8021 KEK") (slice ((toLE 32 ckn.toNat).take (len.val + 1)) 0 16)
          e.bytes.length) ∧
        v.Keeps u j 6 e.keyId (kdf8021x e.bytes (ascii "IEEE8021 ICK") (slice ((toLE 32 ckn.toNat).take (len.val + 1)) 0 16)
          e.bytes.length) ∧
        u.reply = toLE 4 (handleOf i (s.keyEntry i).gen) ++ toLE 4 (handleOf j (s.keyEntry j).gen)) ∧
      (¬free → answers (.mkaDerive h ckn len) 4)) ∧
    (∀ mkpdu : List (BitVec 8), e.usage = 6 →
      Leads (exec (.mkaIcv h mkpdu) s) fun u => u.opStatus = 0 ∧ u.reply = aesCmac e.bytes (mkpdu.take 1500) ∧ u.bin = s.bin) ∧
    (e.usage = 5 →
      (∀ long : Bool, (s.trngOk = false → answers (.sakNew h long) 7) ∧
        (s.trngOk = true → free → Leads (exec (.sakNew h long) s) fun u => u.opStatus = 0 ∧
          ∃ i sak, sak.length = (if long then 32 else 16) ∧ s.Keeps u i 7 0 sak ∧
            u.reply = toLE 4 (handleOf i (s.keyEntry i).gen) ++ keyWrap e.bytes sak) ∧
        (s.trngOk = true → ¬free → Leads (exec (.sakNew h long) s) fun u => u.opStatus = 4 ∧ u.bin = s.bin)) ∧
      (∀ w : List (BitVec 8), ((w.length ≠ 24 ∧ w.length ≠ 40) ∨ keyUnwrap e.bytes w = none → answers (.sakUnwrap h w) 3) ∧
        ∀ sak, (w.length = 24 ∨ w.length = 40) → keyUnwrap e.bytes w = some sak → (¬free → answers (.sakUnwrap h w) 4) ∧
          (free → Leads (exec (.sakUnwrap h w) s) fun u => u.opStatus = 0 ∧
            ∃ i, s.Keeps u i 7 0 sak ∧ u.reply = toLE 4 (handleOf i (s.keyEntry i).gen)))) ∧
    (∀ (p secy sc an : BitVec 8) (salt : BitVec 96) (ssci : BitVec 32), e.usage = 7 →
      let suite := s.rd (K.secyCipherSuite (secyIx p.toNat secy.toNat))
      let fits : Prop := p.toNat < 7 ∧ secy.toNat < secyCount p.toNat ∧ sc.toNat < scCount p.toNat ∧ an.toNat < 4 ∧
        (s.chan p.toNat sc.toNat).used = true ∧ (s.chan p.toNat sc.toNat).secy = secy.toNat ∧
        e.bytes.length = (if suite % 2 = 1 then 16 else 32)
      (¬fits → refuses (.installSa h p secy sc an salt ssci) 5) ∧
      (fits → Leads (exec (.installSa h p secy sc an salt ssci) s) fun u =>
        let k := 4 * scKey p.toNat sc.toNat + an.toNat
        u.opStatus = 0 ∧ (u.sa k).installed = true ∧ (u.sa k).key = e.bytes ∧ (u.sa k).nextPn = 1 ∧ (u.sa k).lowestPn = 1 ∧
          (xpnSuite suite = true → (u.sa k).salt = toLE 12 salt.toNat ∧ (u.sa k).ssci = ssci) ∧
          (∀ j, j ≠ k → u.sa j = s.sa j) ∧ u.bin = s.bin ∧
          u.rd K.ctrBinKeyDeliveries = (s.rd K.ctrBinKeyDeliveries + 1) % 2 ^ 64)) ∧
    (∀ (cluster slot : BitVec 8), e.usage = 2 ∨ e.usage = 3 →
      (16 ≤ cluster.toNat ∨ 16 ≤ slot.toNat → refuses (.loadSlot h cluster slot) 5) ∧
      (cluster.toNat < 16 → slot.toNat < 16 → Leads (exec (.loadSlot h cluster slot) s) fun u =>
        let k := 16 * cluster.toNat + slot.toNat
        u.opStatus = 0 ∧ tget KeySlot.zero u.cores.keys k = ⟨true, e.bytes⟩ ∧
          (∀ j, j ≠ k → tget KeySlot.zero u.cores.keys j = tget KeySlot.zero s.cores.keys j) ∧ u.bin = s.bin ∧
          u.rd (K.hlpKeySlotsLoaded cluster.toNat) = s.rd (K.hlpKeySlotsLoaded cluster.toNat) ||| 2 ^ slot.toNat)) ∧
    Leads (exec (.destroy h) s) fun u => u.opStatus = 0 ∧ u.byHandle h.toNat = none ∧
      (∀ j, j ≠ h.toNat % 256 → u.keyEntry j = s.keyEntry j) ∧ u.cores = s.cores ∧ u.px = s.px) ∧
  (∀ image : List (BitVec 8), let i := imgType image - 1
    (s.imageStatus image = 0 → Leads (exec (.verify image) s) fun u => u.opStatus = 0 ∧
      (s.bin.quote = none → u.bin = s.bin ∧
        u.octetsOf (K.binMR i) = shake256 (slice (s.octetsOf (K.binMR i)) 0 64 ++ imgDigest image) 64) ∧
      (s.bin.quote ≠ none → u.octets = s.octets ∧ u.bin = { s.bin with mrWait := s.bin.mrWait ++ [(i, imgDigest image)] })) ∧
    (s.imageStatus image ≠ 0 → Leads (exec (.verify image) s) fun u => u.opStatus = s.imageStatus image ∧ u.octets = s.octets ∧
      u.bin = s.bin)))

/-- Not zeroised and in a state that has keys, a write of QuoteNonce starts a quote of that nonce, or is refused while one is
under way; QUOTE answers the signed bytes of R431 with their Ed448 signature, counts it, and measurements that waited for it
follow. In MANUFACTURE and RETURNED a manufacturer's write of the recipient is kept, and KWK_EXPORT answers bytes that begin
with its ephemeral public key, which KwkExport then shows, and forgets the recipient. In the other states, zeroised, or in a
lesser role, each is refused with its status. (18_binnacle.md) -/
def Obligations.QuotesAndExportsAreFormed : Prop :=
  ∀ s : State,
  (∀ nonce : BitVec 256,
    (s.bin.quote ≠ none → exec (.quoteNonceWrite nonce) s = .next { s with abort := Abort.busy }) ∧
    (s.zeroised = true → exec (.quote nonce) s = .next { s with opStatus := 6, reply := [] } ∧
      (s.bin.quote = none → exec (.quoteNonceWrite nonce) s = .next { s with abort := Abort.security 6 })) ∧
    (s.zeroised = false → s.life = 0 ∨ s.life = 5 → exec (.quote nonce) s = .next { s with opStatus := 12, reply := [] } ∧
      (s.bin.quote = none → exec (.quoteNonceWrite nonce) s = .next { s with abort := Abort.security 12 })) ∧
    (s.zeroised = false → s.life ≠ 0 → s.life ≠ 5 →
      (s.bin.quote = none → Leads (exec (.quoteNonceWrite nonce) s) fun u => u.abort = 0 ∧
        u.bin = { s.bin with quote := some (toLE 32 nonce.toNat) } ∧ u.dict = s.dict ∧ u.octets = s.octets) ∧
      (Leads (exec (.quote nonce) s) fun u =>
        let head := s.quoteHead (toLE 32 nonce.toNat) (s.bin.quotes + 1)
        u.opStatus = 0 ∧ u.bin = { s.bin with quotes := s.bin.quotes + 1, quote := none, mrWait := [] } ∧
          u.reply = head ++ ed448Sign s.attestSeed (ascii "CHATIA-QUOTE") head ++ List.replicate 14 0#8 ∧
          ((∀ e ∈ s.bin.mrWait, e.1 < 4) → u.octetsOf K.binQuote = u.reply) ∧
          u.rd K.ctrBinQuotesIssued = (s.rd K.ctrBinQuotesIssued + 1) % 2 ^ 64 ∧
          (s.bin.mrWait = [] → ∀ i : Fin 4, u.octetsOf (K.binMR i) = s.octetsOf (K.binMR i)) ∧
          ∀ i digest, i < 4 → s.bin.mrWait = [(i, digest)] →
            u.octetsOf (K.binMR i) = shake256 (slice (s.octetsOf (K.binMR i)) 0 64 ++ digest) 64))) ∧
  (∀ key : BitVec 448,
    (s.life = 1 ∨ s.life = 4 → Leads (exec (.kwkExportRecipientWrite key 3) s) fun u => u.abort = 0 ∧
      u.bin = { s.bin with recipient := some (toLE 56 key.toNat) } ∧ u.dict = s.dict) ∧
    (∀ role : Fin 4, role.val < 3 ∨ (s.life ≠ 1 ∧ s.life ≠ 4) →
      exec (.kwkExportRecipientWrite key role) s = .next { s with abort := Abort.security 12 }) ∧
    (s.zeroised = true → exec (.kwkExport key) s = .next { s with opStatus := 6, reply := [] }) ∧
    (s.zeroised = false →
      (s.life ≠ 1 → s.life ≠ 4 → exec (.kwkExport key) s = .next { s with opStatus := 12, reply := [] }) ∧
      (s.life = 1 ∨ s.life = 4 → s.trngOk = false → exec (.kwkExport key) s = .next { s with opStatus := 7, reply := [] }) ∧
      (s.life = 1 ∨ s.life = 4 → s.trngOk = true → Leads (exec (.kwkExport key) s) fun u => u.opStatus = 0 ∧
        u.octetsOf K.binKwkExport = u.reply ∧ (∃ r, u.reply = x448 (s.randomBytes 56) (toLE 56 9) ++ r) ∧
        u.bin = { s.bin with recipient := none } ∧
        u.rd K.ctrBinKwkExports = (s.rd K.ctrBinKwkExports + 1) % 2 ^ 64)))

/-- A permitted LifeCycleRequest starts the write of its state, for MANUFACTURE with a random DeviceSeed; a refused one changes
nothing in Binnacle. Its end sets the bits of that state's groups, no others, and leaves the state in force. A permitted write
of OTP sets the bits it names and clears none, a refused one sets none; RollbackCounter follows OTP. Key blobs are placed by
position. The boot takes the life-cycle state from OTP, forms no device root key in BLANK and SCRAPPED, keeps the outcome of the
TRNG's start-up tests and releases Pilot pair 0 at address 0. (18_binnacle.md, 23_power_reset_boot.md) -/
def Obligations.OtpAndLifeCycleAreWritten : Prop :=
  ∀ s : State,
  (∀ (t : BitVec 8) (role : Fin 4),
    let ok : Prop := 2 ≤ role.val ∧ t.toNat ≤ 5 ∧ s.bin.lcTarget = none ∧ s.transitionOk t.toNat role.val = true ∧
      (t.toNat = 1 → s.trngOk = true)
    (ok → Leads (exec (.lifeCycleRequest t role) s) fun u => u.abort = 0 ∧ u.bin.lcTarget = some t.toNat ∧
      (s.zeroised = false → u.rd K.binBinnacleState = 2) ∧ u.life = s.life ∧
      ∀ w i, i < 32 → if t.toNat = 1 ∧ 8 ≤ w ∧ w < 16 then s.otpBit w i = true → u.otpBit w i = true else u.otpBit w i = s.otpBit w i) ∧
    (¬ok → Leads (exec (.lifeCycleRequest t role) s) fun u => u.abort ≠ 0 ∧ u.bin = s.bin ∧ u.life = s.life)) ∧
  (s.bin.lcTarget = none → exec .lcWriteDone s = .next s) ∧
  (∀ t, s.bin.lcTarget = some t → t ≤ 5 → s.NoneWaits → Leads (exec .lcWriteDone s) fun u =>
    u.bin.lcTarget = none ∧ (s.zeroised = false → u.rd K.binBinnacleState = 0) ∧ u.life = s.life ∧
      ∀ w i, i < 32 → u.otpBit w i = (s.otpBit w i || decide (w < if t = 5 then 16 else t))) ∧
  (∀ (v : BitVec 32) (role : Fin 4),
    let ok : Prop := (s.life = 2 ∨ s.life = 3) ∧ s.otpRole ≤ role.val ∧ v.toNat < 16 ∧ s.revokesLast v.toNat = false
    (ok → Leads (exec (.oemKeyRevoke v role) s) fun u => u.abort = 0 ∧
      (∀ w i, i < 32 → u.otpBit w i = (s.otpBit w i || (decide (w = 160) && v.getLsbD i))) ∧
      u.rd K.binOemKeyRevoke = u.otpWord 160) ∧
    (¬ok → Leads (exec (.oemKeyRevoke v role) s) fun u => u.abort ≠ 0 ∧ u.bin = s.bin ∧ u.dict = s.dict)) ∧
  (∀ (w : Fin 512) (v : BitVec 32) (role : Fin 4),
    let ok : Prop := otpWritable w s.life = true ∧ s.otpRole ≤ role.val ∧ (w.val = 160 → v.toNat < 16 ∧ s.revokesLast v.toNat = false)
    (ok → Leads (exec (.otpWrite w v role) s) fun u => u.opStatus = 0 ∧
      ∀ k i, i < 32 → u.otpBit k i = (s.otpBit k i || (decide (k = w.val) && v.getLsbD i))) ∧
    (¬ok → exec (.otpWrite w v role) s = .next { s with opStatus := 0xFE })) ∧
  (s.bin.rollback = [] → exec .rollbackWriteDone s = .next s) ∧
  (∀ j v r, s.bin.rollback = (j, v) :: r → j < 8 → s.NoneWaits → Leads (exec .rollbackWriteDone s) fun u =>
    u.bin.rollback = r ∧ (∀ w i, s.otpBit w i = true → u.otpBit w i = true) ∧
      (∀ w, w < 168 + 8 * j ∨ 176 + 8 * j ≤ w → u.otpWord w = s.otpWord w) ∧
      ∀ i, i < 8 → u.rd (K.binRollbackCounter i) = u.rollbackValue i) ∧
  (∀ (pos : Fin 256) (blob : BitVec 512), Leads (exec (.keyBlobWrite pos blob) s) fun u => u.opStatus = 0 ∧
    u.domItem 0x70C2 pos = toLE 64 blob.toNat ∧ (∀ k, k ≠ pos.val → u.domItem 0x70C2 k = s.domItem 0x70C2 k) ∧ u.bin = s.bin) ∧
  (∀ trng : Bool, (s.boot.asserted = true ∨ s.boot.step ≠ 1 → exec (.binnacleBoot trng) s = .next s) ∧
    (s.boot.asserted = false → s.boot.step = 1 →
      (trng = false → (s.bin.rngFails.filter fun t => decide (s.now < t + 1000000000)).length < 2) →
      Leads (exec (.binnacleBoot trng) s) fun u => u.boot.step = 2 ∧
        u.life = (lifeOf s.lifeMap).1 ∧ u.bin.otp = s.bin.otp ∧ u.bin.rngBad = !trng ∧
        (u.life = 0 ∨ u.life = 5 → u.bin.drk = []) ∧ (u.thread 576).st = .ready ∧ (u.thread 576).pc = 0))

/-- A trip (of the DRAM detector only after 16 integrity failures within 1 s) counts and reports to the Safety Manager, and its
action is taken: to record, to zeroise, or to reset (asserted at once with cause TAMPER, after a zeroisation that still waits,
and not again while a reset of another instant stands asserted); while an OTP write is in progress it waits. ZEROISE leaves no
key in the key store, the associations, the cluster slots, the DRAM registers or a session, and OTP as it was; during an OTP
write it waits, and a second request is only counted. A TRNG health failure stops the TRNG, the third within 1 s trips its
detector (whose action may reset the device), and 1,024 good samples bring it back. (18_binnacle.md, 22_sounding_safety.md) -/
def Obligations.TamperAndZeroisation : Prop :=
  ∀ s : State,
  let gone (u : State) : Prop := u.bin.drk = [] ∧
      (∀ i, (u.keyEntry i).used = false ∧ (u.keyEntry i).bytes = []) ∧ (∀ k, (u.sa k).installed = false ∧ (u.sa k).key = []) ∧
      (∀ k, tget KeySlot.zero u.cores.keys k = KeySlot.zero) ∧ u.dram.keys = [] ∧ u.uda.sessions = [] ∧ u.zeroised = true ∧ u.bin.otp = s.bin.otp
  (∀ d : Fin 7,
    let enough := 16 ≤ (s.dram.failedAt.filter fun t => decide (s.now < t + 1000000000)).length
    let a := s.rd (K.binTamperAction d)
    (d = 6 → ¬enough → exec (.tamperTrip d) s = .next s) ∧
    ((d = 6 → enough) →
      (s.otpWriting = false → a ≤ 2 → Leads (exec (.tamperTrip d) s) fun u =>
        u.rd K.ctrBinTamperEvents = (s.rd K.ctrBinTamperEvents + 1) % 2 ^ 64 ∧
        (a ≠ 1 ∨ s.boot.asserted = true ∨ s.bin.zeroWait ≠ none → u.saf.reports = s.saf.reports ++ [(10, d.val)]) ∧
        (a = 0 → u.bin = s.bin ∧ u.boot = s.boot) ∧ (a = 2 → s.bin.zeroWait = none → gone u) ∧
        (a = 1 → s.boot.asserted = false →
          (s.bin.zeroWait = none → u.boot.asserted = true ∧ u.boot.cause = causeTamper ∧ u.boot.at_ = s.now) ∧
          (s.bin.zeroWait ≠ none → u.bin = s.bin ∧ u.boot = { s.boot with waiting := s.boot.waiting ++ [(causeTamper, s.now)] })) ∧
        (a = 1 → s.boot.asserted = true → s.boot.at_ ≠ s.now → u.bin = s.bin ∧ u.boot = s.boot)) ∧
      (s.otpWriting = true → Leads (exec (.tamperTrip d) s) fun u => u.bin = { s.bin with trips := s.bin.trips ++ [d.val] } ∧
        u.saf = s.saf ∧ u.rd K.ctrBinTamperEvents = (s.rd K.ctrBinTamperEvents + 1) % 2 ^ 64))) ∧
  (exec (.zeroise false) s = .next { s with abort := 0 }) ∧
  (∀ c, s.bin.zeroWait = some c → Leads (exec (.zeroise true) s) fun u => u.abort = 0 ∧ u.bin = s.bin ∧
    u.rd K.ctrBinZeroisations = (s.rd K.ctrBinZeroisations + 1) % 2 ^ 64) ∧
  (s.bin.zeroWait = none →
    (s.otpWriting = false → Leads (exec (.zeroise true) s) fun u => u.abort = 0 ∧ gone u) ∧
    (s.otpWriting = true → Leads (exec (.zeroise true) s) fun u => u.abort = 0 ∧ u.bin.zeroWait.isSome = true ∧
      u.bin.store = s.bin.store ∧ u.bin.drk = s.bin.drk)) ∧
  (let few := (s.bin.rngFails.filter fun t => decide (s.now < t + 1000000000)).length < 2
   Leads (exec .trngHealthFail s) fun u => (few ∨ s.rd (K.binTamperAction 5) ≠ 1 → u.trngOk = false) ∧
    u.rd K.ctrBinTrngHealthFailures = (s.rd K.ctrBinTrngHealthFailures + 1) % 2 ^ 64 ∧
    u.rd K.ctrBinTamperEvents = if few then s.rd K.ctrBinTamperEvents else (s.rd K.ctrBinTamperEvents + 1) % 2 ^ 64) ∧
  (exec .trngHealthRecovery s = .next { s with bin := { s.bin with rngBad := false } })

/-- For every state, detector d and value v: with floor the two bits 2d + 1 : 2d of the TamperFloor word of OTP, a write of an
action (0 RECORD, 1 RESET, 2 ZEROISE) not below the floor is accepted and is the entry's value, the other detectors' actions
unchanged; a write below the floor is refused and no entry changes. (R434) -/
def Obligations.TamperActionsKeepTheirFloor : Prop :=
  ∀ (s : State) (d : Fin 7) (v : BitVec 8),
    let floor := s.otpWord 232 / 4 ^ d.val % 4
    (v.toNat ≤ 2 → floor ≤ v.toNat → Leads (exec (.tamperActionWrite d v) s) fun u => u.abort = 0 ∧
      u.rd (K.binTamperAction d) = v.toNat ∧ (∀ e : Fin 7, e ≠ d → u.rd (K.binTamperAction e) = s.rd (K.binTamperAction e)) ∧
      u.bin = s.bin) ∧
    (v.toNat < floor → Leads (exec (.tamperActionWrite d v) s) fun u => u.abort ≠ 0 ∧ u.dict = s.dict ∧ u.bin = s.bin)

/-- A HELLO with a session free is answered by a CHALLENGE in a session that was free; with none free, zeroised, in SCRAPPED or
without TRNG it is refused and counted. OPEN_KEY with the proof of the pre-shared key, and OPEN_SIG with the signature of an
admitted key, open the challenged session with the keys of R452, when its role exceeds neither the key's bound nor the life
cycle's; else the session is freed and the refusal counted. Under a session, a repeated Sequence is answered as before and one
too old is refused, both counted; a wrong Mac is counted; a request behind the session's own commit waits, the ninth is refused.
CLOSE frees its session alone. A session not open 5 s after its CHALLENGE, and an open one idle for SessionIdle, is freed.
(19_urros_uda.md, 18_binnacle.md) -/
def Obligations.SessionsAreOpened : Prop :=
  ∀ s : State,
  (∀ (r : UdaReq) (rest : List UdaReq), s.uda.engineQ = r :: rest → wellFormedMsg r.msg = true → s.Settled →
    let refused (u : State) : Prop := u.uda.engineQ = rest ∧ u.rd K.ctrUdaOpenRefused = (s.rd K.ctrUdaOpenRefused + 1) % 2 ^ 64
    (msgType r.msg = 0x01 →
      let ok : Prop := s.life ≠ 5 ∧ s.zeroised = false ∧ s.trngOk = true ∧ ∃ j, j < 16 ∧ (s.session j).state = 0
      (¬ok → Leads (exec .hello s) fun u => refused u ∧ u.uda.sessions = s.uda.sessions) ∧
      (ok → Leads (exec .hello s) fun u => u.uda.engineQ = rest ∧ ∃ j, j < 16 ∧ (s.session j).state = 0 ∧ (u.session j).state = 1 ∧
        (u.session j).mode = beAt (msgBody r.msg) 0 1 ∧ (u.session j).role = beAt (msgBody r.msg) 1 1 ∧
        (u.session j).clientNonce = slice (msgBody r.msg) 4 32 ∧ 1 ≤ (u.session j).id ∧ (u.session j).id < 2 ^ 32 ∧
        ∀ k, k ≠ j → u.session k = s.session k)) ∧
    (∀ j, s.findSession 1 (msgSession r.msg) = some j → let x := s.session j
      let opened (u : State) (ks : List Byte) : Prop := (u.session j).state = 2 ∧ (u.session j).role = x.role ∧ (u.session j).id = x.id ∧
          (u.session j).kc = kmac256 ks (ascii "C2D") 32 [] ∧ (u.session j).kd = kmac256 ks (ascii "D2C") 32 [] ∧
          u.uda.engineQ = rest ∧ u.rd K.ctrUdaSessionsOpened = (s.rd K.ctrUdaSessionsOpened + 1) % 2 ^ 64
      let freed (u : State) : Prop := refused u ∧ u.session j = Session.zero
      (msgType r.msg = 0x03 →
        let psk := if x.mode = 1 ∧ s.life ≠ 0 ∧ s.recovering = false then s.pskOf x.keyId else none
        (psk = none → Leads (exec .openKey s) freed) ∧
        (∀ k bound, psk = some (k, bound) →
          let ks := kmac256 k (s.transcript x) 32 (ascii "CHATIA-UDA-PSK")
          if x.role ≤ bound ∧ x.role ≤ lifeRole s.life ∧ kmac256 ks (ascii "OPEN") 32 (ascii "CHATIA-UDA") = msgBody r.msg
          then Leads (exec .openKey s) fun u => opened u ks else Leads (exec .openKey s) freed)) ∧
      (msgType r.msg = 0x05 →
        let key := slice (msgBody r.msg) 0 57
        (x.mode ≠ 2 ∨ s.sigBound key = none → Leads (exec .openSig s) freed) ∧
        (∀ bound, x.mode = 2 → s.sigBound key = some bound →
          let t := s.transcript x ++ slice (msgBody r.msg) 57 56
          let ks := kmac256 (x448 (s.sessionX448 x.id x.clientNonce) (slice (msgBody r.msg) 57 56)) t 32 (ascii "CHATIA-UDA-SIG")
          if x.role ≤ bound ∧ x.role ≤ lifeRole s.life ∧
            ed448Verify key (ascii "CHATIA-UDA-HOST") t (slice (msgBody r.msg) 113 114) = true
          then Leads (exec .openSig s) fun u => opened u ks else Leads (exec .openSig s) freed)))) ∧
  (∀ r rest j, s.Asks r rest 0x07 j → Leads (exec .close s) fun u => u.session j = Session.zero ∧
    (∀ k, k ≠ j → u.session k = s.session k) ∧ u.uda.engineQ = rest) ∧
  (∀ (r : UdaReq) (rest : List UdaReq) (j : Nat) (row : Nat) (i : Instr), (row, i) ∈ [(0x07, Instr.close), (0x13, .udaWrite), (0x15, .segRead),
      (0x17, .segWrite), (0x19, .tableRead), (0x1A, .tableWrite), (0x21, .commitStaged), (0x22, .commitImage), (0x23, .commitExport)] →
    s.Signs r rest row j → let x := s.session j
    let gives (key : Nat) (x' : Session) : Prop := Leads (exec i s) fun u => u.uda.engineQ = rest ∧ u.mem = s.mem ∧
      u.session j = x' ∧ u.rd key = (s.rd key + 1) % 2 ^ 64
    r.udp = true →
    (∀ m, x.judge (msgSequence r.msg) = .again m → gives K.ctrUdaDuplicates { x with at_ := s.now }) ∧
    (x.judge (msgSequence r.msg) = .refused → gives K.ctrUdaSequenceRefused { x with at_ := s.now }) ∧
    (x.judge (msgSequence r.msg) = .above ∨ x.judge (msgSequence r.msg) = .within → s.pilotHolds j = true →
      (x.waiting.length < 7 → gives K.ctrUdaRequests
        { ({ x with at_ := s.now } : Session).accept (msgSequence r.msg) with waiting := x.waiting ++ [r] }) ∧
      (7 ≤ x.waiting.length → gives K.ctrUdaQueueFull { x with at_ := s.now }))) ∧
  (∀ (r : UdaReq) (rest : List UdaReq) (j : Nat), s.uda.engineQ = r :: rest → wellFormedMsg r.msg = true → s.Settled →
    rowOf r.msg = 0x07 → hasMac r.msg = true →
    (s.findSession 2 (msgSession r.msg) = none → Leads (exec .close s) fun u => u.uda.engineQ = rest ∧ u.uda.sessions = s.uda.sessions) ∧
    (s.findSession 2 (msgSession r.msg) = some j →
      kmac256 (s.session j).kc (r.msg.take (16 + msgLength r.msg)) 16 (ascii "CHATIA-UDA") ≠ r.msg.drop (16 + msgLength r.msg) →
      Leads (exec .close s) fun u => u.uda.engineQ = rest ∧ u.uda.sessions = s.uda.sessions ∧
        u.rd K.ctrUdaBadMac = (s.rd K.ctrUdaBadMac + 1) % 2 ^ 64)) ∧
  (∀ j : Fin 16, let x := s.session j
    (x.state = 1 → x.at_ + 5000000000 ≤ s.now → exec (.sessionOpenTimeout j) s = .next (s.setSession j Session.zero)) ∧
    (x.state ≠ 1 ∨ s.now < x.at_ + 5000000000 → exec (.sessionOpenTimeout j) s = .next s) ∧
    (x.state = 2 → s.idleAt x ≤ s.now → Leads (exec (.sessionIdleTimeout j) s) fun u => u.session j = Session.zero ∧
      (∀ k, k ≠ j.val → u.session k = s.session k) ∧
      u.rd K.ctrUdaSessionsExpired = (s.rd K.ctrUdaSessionsExpired + 1) % 2 ^ 64) ∧
    (x.state ≠ 2 ∨ s.now < s.idleAt x → exec (.sessionIdleTimeout j) s = .next s))

/-- A request of an open session with its Mac and a new Sequence is carried out and answered in that session: READ with the
value of the entry, or the abort code of its checks, WRITE with the abort code and item of its checks, SEG_READ with the part of
the value asked for, a segment with the abort code of its sequence, TABLE with the OpStatus and the reply of its operation, or
the abort code that refuses it. A sequence without a segment for 10 s is dropped. A request over CAN XL joins the engine's queue
with the bytes of its buffer, when that has room. A thread blocked on a load of a slot whose entry it may read gets the value as
a doubleword, the load's effect on the entry done, and goes on; one blocked on a store that the engine accepts goes on with the
entry written; an access refused leaves the abort code in RP3 and raises ACCESS_FAULT. (19_urros_uda.md, 20_dictionary_map.md,
09_wenkin_programming_model.md) -/
def Obligations.UdaRequestsAreServed : Prop :=
  (
  ∀ s : State,
  (∀ (r : UdaReq) (rest : List UdaReq) (j : Nat), let b := msgBody r.msg
    let key := dictKey (beAt b 0 2) (beAt b 2 1)
    let x := s.session j
    let pilot := (s.taken r rest j).bump K.ctrUdaPilotRequests
    let table := (findDom (key / 256)).isSome ∧ key % 256 = 1
    (s.Asks r rest 0x11 j →
      let staged := decide (beAt b 3 1 = 1)
      let t := (s.taken r rest j).bump (if hardwareRead key staged then K.ctrUdaHwReads else K.ctrUdaPilotRequests)
      let is (body : List Byte) : Prop := Leads (exec .udaRead s) fun u => u.Answered r rest j 0x12 x.id x.kd body
      let no (code : Nat) : Prop := is (toBE 4 code ++ toBE 4 0)
      match lookupEntry key with
      | .error c => no c
      | .ok e =>
        (readRefusal e x.role ≠ 0 → no (readRefusal e x.role)) ∧
        (readRefusal e x.role = 0 → table → no 0x03000005) ∧
        (readRefusal e x.role = 0 → ¬table →
          let v := if e.ty.scalar then toBE e.ty.size (t.readScalar key staged) else t.longValue key e.ty
          (v.length ≤ 1024 → is (toBE 4 0 ++ toBE 1 e.ty.code ++ toBE 1 0 ++ toBE 2 v.length ++ v)) ∧ (1024 < v.length → no 0x03000005))) ∧
    (∀ items, s.Asks r rest 0x13 j → writeItemsIn b = some items →
      let t0 := (s.taken r rest j).bump (if hardwareWrite items then K.ctrUdaHwWrites else K.ctrUdaPilotRequests)
      let t := if ∃ i ∈ items, s.writeBarred i.key = true then (t0.aborted 0x05000000, 0) else t0.writeAll ⟨x.role, false, false⟩ items
      Leads (exec .udaWrite s) fun u => u.Answered r t.1.uda.engineQ j 0x14 (t.1.session j).id (t.1.session j).kd
        (toBE 4 t.1.abort ++ toBE 1 t.2 ++ toBE 3 0)) ∧
    (s.Asks r rest 0x15 j →
      let is (body : List Byte) : Prop := Leads (exec .segRead s) fun u => u.Answered r rest j 0x16 x.id x.kd body
      let no (code : Nat) : Prop := is (toBE 4 code ++ toBE 4 0)
      match lookupEntry key with
      | .error c => no c
      | .ok e =>
        (readRefusal e x.role ≠ 0 → no (readRefusal e x.role)) ∧
        (readRefusal e x.role = 0 → table → no 0x03000005) ∧
        (readRefusal e x.role = 0 → ¬table →
          let v := if e.ty.scalar then toBE e.ty.size (pilot.readScalar key false) else pilot.longValue key e.ty
          is (toBE 4 0 ++ toBE 4 v.length ++ (v.drop (beAt b 4 4)).take (beAt b 8 2)))) ∧
    (s.Asks r rest 0x17 j →
      let total := beAt b 8 4
      let last := beAt b 3 1 = 1
      let got := (match x.seg with | some q => q.2.2.1 | none => []) ++ b.drop 12
      let ok : Prop := pilot.segRefusal key x.role total = 0 ∧ s.segElsewhere j key = false ∧ got.length ≤ total ∧ match x.seg with
        | some q => q.1 = key ∧ q.2.1 = total ∧ q.2.2.1.length = beAt b 4 4
        | none => beAt b 4 4 = 0
      (¬ok → Leads (exec .segWrite s) fun u => ∃ code, code ≠ 0 ∧ u.Answered r rest j 0x18 x.id x.kd (toBE 4 code) ∧ (u.session j).seg = x.seg) ∧
      (ok → ¬last → Leads (exec .segWrite s) fun u => u.Answered r rest j 0x18 x.id x.kd (toBE 4 0) ∧
        (u.session j).seg = some (key, total, got, s.now)) ∧
      (ok → last → got.length ≠ total → Leads (exec .segWrite s) fun u =>
        u.Answered r rest j 0x18 x.id x.kd (toBE 4 0x03000005) ∧ (u.session j).seg = none) ∧
      (ok → last → got.length = total →
        let v := ((pilot.setSession j { pilot.session j with seg := none }).writeAll ⟨x.role, false, false⟩ [⟨key, none, got⟩]).1
        Leads (exec .segWrite s) fun u => u.Answered r v.uda.engineQ j 0x18 (v.session j).id (v.session j).kd (toBE 4 v.abort))) ∧
    (let op := beAt b 3 1
     let row := if op = 1 then 0x19 else 0x1A
     let cmd := if op = 1 then Instr.tableRead else .tableWrite
     let no (code : Nat) : Prop := Leads (exec cmd s) fun u => u.Answered r rest j 0x1A x.id x.kd (toBE 4 code ++ toBE 4 0)
     s.Asks r rest row j → match findDom (beAt b 0 2) with
      | none => no 0x03000001
      | some d =>
        let a := pilot.tableRefusal d (beAt b 2 1) op x.role (b.drop 6)
        (a ≠ 0 → no a) ∧
        (a = 0 → op ≠ 1 → s.writeBarred (dictKey d.index 1) = true → no 0x05000000) ∧
        (a = 0 → (op = 1 ∨ s.writeBarred (dictKey d.index 1) = false) →
          let v := pilot.tableOp d op x.role (b.drop 6)
          Leads (exec cmd s) fun u => u.Answered r v.uda.engineQ j 0x1A (v.session j).id (v.session j).kd
            (toBE 4 0 ++ toBE 1 v.opStatus ++ toBE 3 0 ++ v.reply.take 1024)))) ∧
  (∀ (j : Fin 16) key n got at_, (s.session j).seg = some (key, n, got, at_) →
    exec (.segWriteTimeout j) s = .next (if at_ + 10000000000 ≤ s.now then s.setSession j { s.session j with seg := none } else s)) ∧
  (∀ (m : List Word) (ms : List (List Word)), let c := s.rd K.udaUdaCanReqChannel
    let a := (m.getD 0 0#32).toNat
    let n := (m.getD 1 0#32).toNat
    s.rd K.udaUdaCanChannel ≠ 0xFF → s.chanOpen c = true → (s.rdvChan c).msgs = m :: ms → (s.rdvChan c).senders = [] →
    Leads (exec .udaCanRequest s) fun u => (u.rdvChan c).msgs = ms ∧ u.mem = s.mem ∧ u.uda.engineQ =
      if m.length = 2 ∧ a + n ≤ 32768 ∧ s.uda.engineQ.length < 32 then s.uda.engineQ ++ [⟨false, s.rd K.udaUdaCanChannel, 0, [],
        s.loadBytes .barrelData (32768 * s.udaProcessor + a) n⟩] else s.uda.engineQ)) ∧
  (
  ∀ (s : State) (t : Fin 580) (addr : Nat),
  (∀ rd, (s.thread t).st = .blocked (.dictLoad addr rd) → let v := s.slotValue (slotKey addr) (s.windowWriter t).role
    (v.1 = 0 → Leads (exec (.dictWindowLoad t) s) fun u => (s.afterSlot (slotKey addr)).Loaded u t rd 8 false (toLE 8 v.2)) ∧
    (v.1 ≠ 0 → s.CanTrap t → Leads (exec (.dictWindowLoad t) s) fun u =>
      u.rp t (s.thread t).second 3 = .full ⟨replyStatus 5 (v.1 / 2 ^ 24) 0, BitVec.ofNat 32 v.1⟩ ∧
        (u.thread t).pc = (s.thread t).sregs.tvec.toNat ∧ (u.thread t).regs = (s.thread t).regs)) ∧
  (∀ v : BitVec 64, (s.thread t).st = .blocked (.dictStore addr v) →
    let w := s.slotStore (s.windowWriter t) (slotKey addr) v.toNat
    (w.abort = 0 → w.storing t = true → Leads (exec (.dictWindowStore t) s) fun u => (u.thread t).st = .ready ∧
      (u.thread t).pc = (w.thread t).pcAfter ((w.thread t).pc + 4) ∧ (∀ r, (u.thread t).reg r = (w.thread t).reg r) ∧
      u.octets = w.octets ∧ u.mem = w.mem) ∧
    (w.abort ≠ 0 → w.CanTrap t → Leads (exec (.dictWindowStore t) s) fun u =>
      u.rp t (w.thread t).second 3 = .full ⟨replyStatus 5 (w.abort / 2 ^ 24) 0, BitVec.ofNat 32 w.abort⟩ ∧
        (u.thread t).pc = (w.thread t).sregs.tvec.toNat)))

/-- A COMMIT without the role, in BLANK or recovery mode, or while one is under way is refused with that abort code. Else, with
an image that passes its checks and fits its bank, COMMIT erases the bank not in force and begins to write the staged
configuration or the uploaded image; one that fails a check answers its abort code and sets CommitState FAILED; EXPORT places
the snapshot in ExportImage. COMMIT_DONE leaves the image in the bank, CommitState DONE, and answers the session, or FAILED
after a flash error; the requests that waited behind the commit then follow. A Pilot firmware image that verifies and fits is
placed in its region of boot flash; another leaves flash as it was. (19_urros_uda.md, 18_binnacle.md, 20_dictionary_map.md) -/
def Obligations.CommitsAreCarriedOut : Prop :=
  ∀ s : State,
  (∀ (r : UdaReq) (rest : List UdaReq) (j : Nat), s.uda.commit = none →
    let x := s.session j
    let t := (s.taken r rest j).bump K.ctrUdaPilotRequests
    let barred : Nat := if x.role < 2 then 0x02000004 else if s.recovering = true ∨ s.life = 0 then 0x05000000
      else if s.committing = true then 0x04000002 else 0
    let answers (code : Nat) (u : State) : Prop := u.Answered r rest j 0x1C x.id x.kd (commitBody code 0 0)
    let begins (image : List Byte) (staged : Nat) (u : State) : Prop := u.rd K.cmtCommitState = 2 ∧ u.abort = 0 ∧
      u.uda.commit = some ⟨image, s.targetBank, staged, r, j, x.id, msgSequence r.msg⟩ ∧ u.uda.engineQ = rest
    let runs (i : Instr) (image : List Byte) (staged : Nat) : Prop :=
      let c := t.commitChecks image
      (c.1 ≠ 0 → Leads (exec i s) fun u => answers c.1 u ∧ u.rd K.cmtCommitState = 4 ∧ u.rd K.cmtLastResult = c.1 ∧ (r.udp = true → u.mem = s.mem)) ∧
      (∀ e, c.1 = 0 → c.2.2.flashRegion 2 s.targetBank = some e →
        (image.length ≤ e.size → Leads (exec i s) (begins image staged)) ∧
        (e.size < image.length → Leads (exec i s) fun u => answers 0x04000100 u ∧ u.rd K.cmtCommitState = 4))
    (∀ k ∈ [(0x21, Instr.commitStaged), (0x22, .commitImage), (0x23, .commitExport)], s.Asks r rest k.1 j → barred ≠ 0 →
      Leads (exec k.2 s) fun u => answers barred u ∧ u.rd K.cmtCommitState = s.rd K.cmtCommitState ∧ (r.udp = true → u.mem = s.mem)) ∧
    (barred = 0 →
      (s.Asks r rest 0x21 j → (s.life ≠ 1 → s.life ≠ 4 → Leads (exec .commitStaged s) (answers 0x0500000C)) ∧
        (s.life = 1 ∨ s.life = 4 → if t.snapshot.length ≤ 288 + 2 ^ 20 then runs .commitStaged t.snapshot (s.rd K.cmtStagedWrites)
          else Leads (exec .commitStaged s) fun u => answers 0x04000001 u ∧ u.rd K.cmtCommitState = 4)) ∧
      (s.Asks r rest 0x22 j → runs .commitImage (s.octetsOf K.cmtImageUpload) 0) ∧
      (s.Asks r rest 0x23 j → if t.snapshot.length ≤ 288 + 2 ^ 20
        then Leads (exec .commitExport s) fun u => u.octetsOf K.cmtExportImage = t.snapshot ∧ u.rd K.cmtCommitState = 3 ∧
          u.rd K.cmtLastResult = 0 ∧ u.Answered r rest j 0x1C x.id x.kd (commitBody 0 (imgSequence t.snapshot) t.snapshot.length)
        else Leads (exec .commitExport s) fun u => answers 0x04000001 u ∧ u.rd K.cmtCommitState = 4))) ∧
  (∀ c, s.uda.commit = some c → let live := (s.session c.slot).state = 2 ∧ (s.session c.slot).id = c.id
    let told (u : State) (body : List Byte) : Prop := c.req.udp = true → live →
      u.Answered c.req s.uda.engineQ c.slot 0x1C c.id (s.session c.slot).kd body
    (∀ e, s.flashRegion 2 c.bank = some e → Leads (exec (.commitDone true) s) fun u => ∃ v, u = v.resumeAll ∧
      v.rd K.cmtCommitState = 3 ∧ v.rd K.cmtLastResult = 0 ∧ v.uda.commit = none ∧ (c.req.udp = true → s.Stored v (memKey .flash e.offset) c.image) ∧
      told v (commitBody 0 (imgSequence c.image) c.image.length) ∧
      v.rd K.ctrUdaCommits = (s.rd K.ctrUdaCommits + 1) % 2 ^ 64) ∧
    (Leads (exec (.commitDone false) s) fun u => ∃ v, u = v.resumeAll ∧ v.uda.commit = none ∧ v.rd K.cmtCommitState = 4 ∧
      v.rd K.cmtLastResult = 0x04000100 ∧ told v (commitBody 0x04000100 0 0))) ∧
  (s.uda.commit = none → ∀ ok, exec (.commitDone ok) s = .next s) ∧
  (∀ (copy : Fin 2) (image : List (BitVec 8)), let v := s.verifyService image
    (v.1 ≠ 0 → Leads (exec (.flashImageLoad copy image) s) fun u => u.opStatus = v.1 ∧ u.mem = s.mem) ∧
    (∀ e, v.1 = 0 → v.2.flashRegion 1 copy = some e → imgType image ≠ 1 ∨ e.size < image.length →
      Leads (exec (.flashImageLoad copy image) s) fun u => u.opStatus = 13 ∧ u.mem = s.mem) ∧
    (∀ e, v.1 = 0 → imgType image = 1 → v.2.flashRegion 1 copy = some e → image.length ≤ e.size →
      Leads (exec (.flashImageLoad copy image) s) fun u => u.opStatus = 0 ∧ s.Stored u (memKey .flash e.offset) image))

/-- The first record sampled is the power-on's. A slot in error becomes free. AON takes an origin's oldest record with the next
Sequence into the lowest free slot, or into the victim's slot if that is no more severe; else the record is counted and no slot
changes. A permitted post joins the host's records, or is dropped and counted when 8 wait; another is REFUSED. Clear frees every
slot. The Chronometer's value is taken, and dropped 10 us later when none follows. FlushDelay after the oldest waiting record at
most 8 go into a page of the sector being written, or of the first reserve sector. A page programmed is in the log and its
records are flushed; a failed one is counted. An urgent flush with nothing left ends, and resets the device when a power-fail
warning started it. The head search leaves the reserve erased; an erase erases its sector, or its failure is counted. Every
CounterInterval the selected entries are offered in slot order; blocks that have waited 100 us leave in an M0 frame. A command
that meets none of this changes nothing (log entry 1). (21_almanac_trace.md, 23_power_reset_boot.md) -/
def Obligations.AlmanacKeepsAndFlushesRecords : Prop :=
  (
  ∀ s : State,
  (∀ o : Fin 26, let p := s.sampledOrigin o.val
    (p = if s.alm.nextSeq = 1 then 24 else o.val) ∧
    (tget [] s.alm.raised p = [] → exec (.almanacRecordIntake o) s = .next s) ∧
    ∀ (r : Raised) q, tget [] s.alm.raised p = r :: q →
    let x : AlmRec := ⟨s.alm.nextSeq, s.almTime.1, r.code, r.severity, s.almTime.2, p, r.detail, false, s.now⟩
    let e := s.almEcc
    let n := firstFree e.alm.slots 0
    (∀ k, tget AlmRec.zero e.alm.slots k = if k ∈ s.alm.badSlots then AlmRec.zero else tget AlmRec.zero s.alm.slots k) ∧
    Leads (exec (.almanacRecordIntake o) s) fun u => u.alm.nextSeq = s.alm.nextSeq + 1 ∧ u.alm.badSlots = [] ∧
      u.rd K.almHeadSeq = s.alm.nextSeq ∧ (p ≠ 24 → tget [] u.alm.raised p = q) ∧ u.mem = s.mem ∧ u.alm.log = s.alm.log ∧
      (n < 8192 → tget AlmRec.zero u.alm.slots n = x ∧
        ∀ k, k ≠ n → tget AlmRec.zero u.alm.slots k = tget AlmRec.zero e.alm.slots k) ∧
      (8192 ≤ n → ∀ k v, e.almVictim = some (k, v) →
        (v.severity ≤ r.severity → tget AlmRec.zero u.alm.slots k = x ∧
          ∀ i, i ≠ k → tget AlmRec.zero u.alm.slots i = tget AlmRec.zero e.alm.slots i) ∧
        (r.severity < v.severity → u.alm.slots = e.alm.slots ∧
          u.rd K.ctrAlmDiscardedLow = (s.rd K.ctrAlmDiscardedLow + 1) % 2 ^ 64))) ∧
  (∀ (image : BitVec 256) (pilot : Bool), let code := bits image.toNat 127 112
    let sev := bits image.toNat 130 128
    (postRefused pilot code sev (bits image.toNat 135 132) = false →
      Leads (exec (.almanacPost image pilot) s) fun u => u.opStatus = 0 ∧ u.alm.slots = s.alm.slots ∧
        ((tget [] s.alm.raised 25).length < 8 →
          tget [] u.alm.raised 25 = tget [] s.alm.raised 25 ++ [⟨code, sev, bits image.toNat 239 144⟩]) ∧
        (8 ≤ (tget [] s.alm.raised 25).length → tget [] u.alm.raised 25 = tget [] s.alm.raised 25 ∧
          u.rd (K.ctrAlmSourceDrops 25) = (s.rd (K.ctrAlmSourceDrops 25) + 1) % 2 ^ 64)) ∧
    (postRefused pilot code sev (bits image.toNat 135 132) = true →
      exec (.almanacPost image pilot) s = .next { s with opStatus := 0xFE })) ∧
  (Leads (exec .almanacClear s) fun u => u.alm.slots = [] ∧ u.rd K.almHeldRecords = 0 ∧
    u.rd K.ctrAlmEvictions = (s.rd K.ctrAlmEvictions + s.alm.slots.length) % 2 ^ 64 ∧
    u.rd K.ctrAlmClears = (s.rd K.ctrAlmClears + 1) % 2 ^ 64 ∧ u.alm.log = s.alm.log ∧ u.alm.page = s.alm.page) ∧
  (exec .aonTimeUpdate s = .next { s with alm := { s.alm with aonTime := some (s.domainNs 0), aonTimeAt := s.now } }) ∧
  (exec .aonTimeTimeout s =
    .next { s with alm := { s.alm with aonTime := if s.alm.aonTimeAt + 10000 ≤ s.now then none else s.alm.aonTime } })) ∧
  (
  ∀ s : State,
  (∀ l, s.flushable (s.rd K.almBackgroundSeverity) = l →
    (l = [] ∨ s.rd K.almFlashState < 2 ∨ s.alm.page ≠ [] → exec .flushDelayTimer s = .next s) ∧
    ∀ r m, l = r :: m →
    (s.now < r.at_ + s.rd K.almFlushDelay * 1000000 → exec .flushDelayTimer s = .next s) ∧
    (r.at_ + s.rd K.almFlushDelay * 1000000 ≤ s.now → 2 ≤ s.rd K.almFlashState → s.alm.page = [] → s.alm.urgent = false →
      (0 < s.alm.room → exec .flushDelayTimer s = .next { s with alm := { s.alm with page := l.take 8 } }) ∧
      (∀ x y, s.alm.room = 0 → s.alm.reserve = x :: y → exec .flushDelayTimer s =
        .next { s with alm := { s.alm with page := l.take 8, reserve := y, headPage := 16 * x, room := 16 } }) ∧
      (s.alm.room = 0 → s.alm.reserve = [] → exec .flushDelayTimer s = .next s))) ∧
  (∀ st : BitVec 8, (∀ b, s.alm.page = [] → exec (.flushPageDone b st) s = .next s) ∧ (s.alm.page ≠ [] →
    (Leads (exec (.flushPageDone false st) s) fun u => tget [] u.alm.log s.alm.headPage = s.alm.page ∧
      (∀ i, let y := tget AlmRec.zero s.alm.slots i
        y ≠ AlmRec.zero → tget AlmRec.zero u.alm.slots i =
          if s.alm.page.any (fun r => r.seq = y.seq) then { y with flushed := true } else y) ∧
      u.rd K.ctrAlmFlushed = (s.rd K.ctrAlmFlushed + s.alm.page.length) % 2 ^ 64 ∧
      u.rd K.ctrAlmFlushPages = (s.rd K.ctrAlmFlushPages + 1) % 2 ^ 64) ∧
    Leads (exec (.flushPageDone true st) s) fun u => u.alm.slots = s.alm.slots ∧ u.alm.log = s.alm.log ∧
      u.rd K.ctrAlmFlashErrors = (s.rd K.ctrAlmFlashErrors + 1) % 2 ^ 64)) ∧
  (s.urgentOver = false → exec .urgentFlushDone s = .next s) ∧
  (s.urgentOver = true →
    (s.rd K.rstPowerFailLatched = 0 → Leads (exec .urgentFlushDone s) fun u => u.alm.urgent = false ∧ u.rd K.almFlashState = 2 ∧
      u.boot = s.boot) ∧
    (s.rd K.rstPowerFailLatched ≠ 0 → s.boot.asserted = false → s.aonBusy = false → Leads (exec .urgentFlushDone s) fun u =>
      u.boot.asserted = true ∧ u.boot.cause = 8 ∧ u.boot.powerFail = true ∧ u.alm.slots = s.alm.slots)) ∧
  (s.rd K.almFlashState ≠ 1 → exec .flashHeadSearchDone s = .next s) ∧
  (s.rd K.almFlashState = 1 → Leads (exec .flashHeadSearchDone s) fun u => u.alm.headFound = true ∧
    u.rd K.almFlashState = (if s.alm.urgent then 3 else 2) ∧
    ∃ h, ∀ i p, i < s.flushReserve → p / 16 = (h + i) % s.rd K.almFlashSectors → tget [] u.alm.log p = []) ∧
  (∀ st : BitVec 8,
    (∀ b, s.rd K.almFlashState ≠ 2 ∨ s.flushReserve ≤ s.alm.reserve.length → exec (.flashEraseDone b st) s = .next s) ∧
    (s.rd K.almFlashState = 2 → s.alm.reserve.length < s.flushReserve →
      (Leads (exec (.flashEraseDone false st) s) fun u => u.alm.eraseAt = (s.alm.eraseAt + 1) % s.rd K.almFlashSectors ∧
        (∀ p, p / 16 = s.alm.eraseAt → tget [] u.alm.log p = []) ∧
        ∀ p, p / 16 ≠ s.alm.eraseAt → tget [] u.alm.log p = tget [] s.alm.log p) ∧
      Leads (exec (.flashEraseDone true st) s) fun u => u.alm.eraseAt = (s.alm.eraseAt + 1) % s.rd K.almFlashSectors ∧
        u.alm.log = s.alm.log ∧ u.alm.reserve = s.alm.reserve ∧
        u.rd K.ctrAlmFlashErrors = (s.rd K.ctrAlmFlashErrors + 1) % 2 ^ 64)) ∧
  (s.rd K.trcCounterInterval = 0 ∨ s.now < s.trc.counterAt + s.rd K.trcCounterInterval * 1000000 →
    exec .traceCounterInterval s = .next s) ∧
  (s.rd K.trcCounterInterval ≠ 0 → s.trc.counterAt + s.rd K.trcCounterInterval * 1000000 ≤ s.now →
    let l : List TraceMsg := (List.range 64).filterMap fun k => let w := tget 0 s.trc.selection k
      if bit w 0 = 1 then some ⟨0x30, k, s.now, toLE 2 (w / 65536) ++ toLE 1 (bits w 15 8) ++ [0#8]
        ++ toLE 8 (s.scalarValue (dictKey (w / 65536) (bits w 15 8)))⟩ else none
    Leads (exec .traceCounterInterval s) fun u => u.trc.counterAt = s.now ∧ u.mem = s.mem ∧
      (s.traceOn = false → u.trc.fifos = s.trc.fifos ∧ u.dict = s.dict) ∧
      (s.traceOn = true → (tget [] s.trc.fifos 3).length + l.length ≤ 64 →
        tget [] u.trc.fifos 3 = tget [] s.trc.fifos 3 ++ l ∧ u.dict = s.dict)) ∧
  (s.trc.blocks = [] ∨ s.now < s.trc.blockAt + 100000 → exec .traceM0FrameTimeout s = .next s) ∧
  (s.trc.blocks ≠ [] → s.trc.blockAt + 100000 ≤ s.now → Leads (exec .traceM0FrameTimeout s) fun u =>
    u.trc.blocks = s.trc.blocks.drop 23 ∧ u.rd K.ctrTrcM0Frames = (s.rd K.ctrTrcM0Frames + 1) % 2 ^ 64 ∧
    ∃ h : Handover, u.tm.inbox = s.tm.inbox ++ [h] ∧ h.ports = [(7, s.rd K.trcTraceClass, 0)] ∧ h.raw = some
      (toBE 6 (s.rd K.trcTraceDestMac) ++ toBE 6 (s.rd K.trcTraceSrcMac) ++ toBE 2 0x88B5 ++ (s.trc.blocks.take 23).flatten)))

/-- A due pass starts at the first instance, or waits for the one under way and counts an overrun. A slice is counted and the
pass goes on; of the mismatches it meets, a transient one is counted with a result of Outcome 0, a permanent one takes the
instance's next spare with Outcome 1, or, with no spare left, retires its granule with Outcome 2 and a report. A logic slice
falls on the next core that may be tested, starts when the core is drained, is deferred past DrainLimit, runs again after its
first failure, and on the second takes the core out of service with a report; so does the helper slice with its cluster. A core
out of service that is offered and drained is tested, and returns when it passes. The full test is accepted in MANUFACTURE or
RETURNED alone, and waits with its reset for an OTP write; its end leaves the tested memories zero, writes a result for each
failure, and resets the device. A command that meets none of this changes nothing (log entry 1). (22_sounding_safety.md,
04_bramble.md, 13_orchard.md) -/
def Obligations.SoundingTestsAndRepairs : Prop :=
  (
  ∀ s : State,
  (s.rd K.sndSoundingEnable = 0 ∨ (∃ t, s.snd.passAt = some t ∧ s.now < t + s.rd K.sndMemoryPassPeriod * 1000000000) →
    exec .memoryPassStart s = .next s) ∧
  (∀ l, s.rd K.sndSoundingEnable = 0 ∨ s.snd.pass = none → exec (.memorySlice l) s = .next s) ∧
  (s.rd K.sndSoundingEnable = 0 ∨ s.snd.slice ≠ none ∨ s.now < s.snd.sliceAt + s.rd K.sndLogicSliceInterval * 1000000 →
    exec .logicSliceInterval s = .next s) ∧
  (s.rd K.sndSoundingEnable ≠ 0 →
    (s.snd.passAt = none ∨ (∃ t, s.snd.passAt = some t ∧ t + s.rd K.sndMemoryPassPeriod * 1000000000 ≤ s.now) →
      (s.snd.pass = none → exec .memoryPassStart s =
        .next { s with snd := { s.snd with passAt := some s.now, pass := some (0, 0) } }) ∧
      (∀ p, s.snd.pass = some p → Leads (exec .memoryPassStart s) fun u => u.snd.pass = some p ∧ u.snd.passWait = true ∧
        u.rd K.ctrSndPassOverruns = (s.rd K.ctrSndPassOverruns + 1) % 2 ^ 64)) ∧
    (∀ pos k m inst, s.snd.pass = some (pos, k) → instanceAt testMems pos = some (m, inst) →
      let key := 256 * m.id + inst
      let at_ := s.snd.resultAt
      (∀ l, Leads (exec (.memorySlice l) s) fun u => u.rd K.ctrSndMemorySlices = (s.rd K.ctrSndMemorySlices + 1) % 2 ^ 64 ∧
        u.mem = s.mem ∧ u.snd.slice = s.snd.slice ∧
        u.snd.pass = (if 64 * (k + 1) < m.wordsOf inst then some (pos, k + 1)
          else if pos + 1 < 171 then some (pos + 1, 0) else if s.snd.passWait then some (0, 0) else none)) ∧
      (Leads (exec (.memorySlice []) s) fun u => u.snd.results = s.snd.results ∧ u.snd.repairs = s.snd.repairs ∧ u.saf = s.saf) ∧
      (∀ (w : Fin 64) (b : Fin 256) (v : Bool), b.val < m.width → 64 * k + w.val < m.wordsOf inst →
        (Leads (exec (.memorySlice [(w, b, v, false)]) s) fun u => u.snd.repairs = s.snd.repairs ∧ u.saf = s.saf ∧
          u.rd K.ctrSndTransientFaults = (s.rd K.ctrSndTransientFaults + 1) % 2 ^ 64 ∧
          tget 0 u.snd.results at_ = s.resultWord m.id inst (64 * k + w.val) b.val (b2n v) 0) ∧
        (tget 0 s.snd.spares key < m.spares →
          Leads (exec (.memorySlice [(w, b, v, true)]) s) fun u => let used := tget 0 s.snd.spares key
            tget 0 u.snd.spares key = used + 1 ∧ u.saf = s.saf ∧
            u.snd.repairs = s.snd.repairs ++ [(m.id, inst, used, m.granuleOf inst (64 * k + w.val))] ∧
            u.rd K.ctrSndRepairsApplied = (s.rd K.ctrSndRepairsApplied + 1) % 2 ^ 64 ∧
            tget 0 u.snd.results at_ = s.resultWord m.id inst (64 * k + w.val) b.val (b2n v) 1) ∧
        (m.spares ≤ tget 0 s.snd.spares key →
          Leads (exec (.memorySlice [(w, b, v, true)]) s) fun u => let g := m.granuleOf inst (64 * k + w.val)
            u.snd.spares = s.snd.spares ∧ u.snd.repairs = s.snd.repairs ∧ u.saf.reports.getLast? = some (4, key) ∧
            tget 0 u.snd.results at_ = s.resultWord m.id inst (64 * k + w.val) b.val (b2n v) 2 ∧
            (m.id = 1 → g ∈ u.orch.retired) ∧ (m.id = 2 → inst = 0 → g ∈ u.br.east.retired) ∧
            (m.id = 2 → inst = 1 → g ∈ u.br.west.retired) ∧ (m.id = 3 → u.coreOut (u.lower inst) = true) ∧
            (m.id = 4 ∨ m.id = 5 → bit (u.rd K.sndOutOfServiceClusters) inst = 1) ∧
            (m.id = 7 → ∀ n : Fin 16, inst = 0 ∨ inst = 1 + n.val / 8 → bit (u.rd K.sndOutOfServiceClusters) n = 1)))) ∧
    (s.snd.slice = none → s.snd.sliceAt + s.rd K.sndLogicSliceInterval * 1000000 ≤ s.now →
      (∀ c, s.nextCore = some c → exec .logicSliceInterval s =
        .next { s with snd := { s.snd with slice := some (c, 0), sliceAt := s.now, next := (c + 1) % 64, failed := false } }) ∧
      (s.nextCore = none → exec .logicSliceInterval s = .next { s with snd := { s.snd with sliceAt := s.now } })))) ∧
  (
  ∀ s : State,
  (∀ c : Fin 64,
    (s.drained c = false → exec (.logicSliceStart c) s = .next s) ∧
    (s.snd.slice = none → c.val ∉ s.snd.offer → exec (.logicSliceStart c) s = .next s) ∧
    (s.snd.slice = none → c.val ∈ s.snd.offer → s.drained c = true → exec (.logicSliceStart c) s =
      .next { s with snd := { s.snd with slice := some (c.val, 1), failed := false } }) ∧
    (∀ x, s.snd.slice = some x → x ≠ (c.val, 0) → exec (.logicSliceStart c) s = .next s) ∧
    (s.snd.slice = some (c.val, 0) →
      (s.drained c = true → exec (.logicSliceStart c) s = .next { s with snd := { s.snd with slice := some (c.val, 1) } }) ∧
      (s.drained c = true ∨ s.now < s.snd.sliceAt + s.rd K.sndDrainLimit * 1000 → exec .sliceDeferred s = .next s) ∧
      (s.drained c = false → s.snd.sliceAt + s.rd K.sndDrainLimit * 1000 ≤ s.now → Leads (exec .sliceDeferred s) fun u =>
        u.snd = { s.snd with slice := none, next := c.val } ∧
          u.rd K.ctrSndSliceDeferred = (s.rd K.ctrSndSliceDeferred + 1) % 2 ^ 64)) ∧
    (s.snd.slice = some (c.val, 1) →
      (s.coreOut c = false → Leads (exec (.logicSliceDone true) s) fun u =>
        u.snd.slice = (if s.lastOfCluster c then some (c.val, 2) else none) ∧ u.snd.failed = false ∧
          u.rd K.ctrSndLogicSlices = (s.rd K.ctrSndLogicSlices + 1) % 2 ^ 64) ∧
      (s.coreOut c = true → Leads (exec (.logicSliceDone true) s) fun u => u.snd.slice = none ∧ u.snd.failed = false ∧
        bit (u.rd K.sndOutOfServiceCores) c = 0 ∧ c.val ∉ u.snd.offer ∧
        u.rd K.ctrSndReturns = (s.rd K.ctrSndReturns + 1) % 2 ^ 64) ∧
      (s.snd.failed = false → exec (.logicSliceDone false) s = .next { s with snd := { s.snd with failed := true } }) ∧
      (s.snd.failed = true → Leads (exec (.logicSliceDone false) s) fun u => u.snd.slice = none ∧ u.coreOut (s.lower c) = true ∧
        (s.saf.reports ++ [(3, c.val)]) <+: u.saf.reports ∧
        u.rd K.ctrSndLogicFailures = (s.rd K.ctrSndLogicFailures + 1) % 2 ^ 64)) ∧
    (s.snd.slice = some (c.val, 2) →
      (exec (.helperSliceDone true) s = .next { s with snd := { s.snd with slice := none, failed := false } }) ∧
      (s.snd.failed = false → exec (.helperSliceDone false) s = .next { s with snd := { s.snd with failed := true } }) ∧
      (s.snd.failed = true → Leads (exec (.helperSliceDone false) s) fun u => u.snd.slice = none ∧ u.coreOut c = true ∧
        (s.saf.reports ++ [(3, 256 + c.val / 4)]) <+: u.saf.reports ∧
        u.rd K.ctrSndLogicFailures = (s.rd K.ctrSndLogicFailures + 1) % 2 ^ 64))) ∧
  ((∀ c, s.snd.slice ≠ some (c, 0)) → exec .sliceDeferred s = .next s) ∧
  (∀ p : Bool, ((∀ c, s.snd.slice ≠ some (c, 1)) → exec (.logicSliceDone p) s = .next s) ∧
    ((∀ c, s.snd.slice ≠ some (c, 2)) → exec (.helperSliceDone p) s = .next s)) ∧
  (exec (.fullTest false) s = .next { s with abort := 0 }) ∧
  (s.life = 1 ∨ s.life = 4 →
    (s.bin.zeroWait = none → s.otpWriting = false → s.boot.asserted = false →
      Leads (exec (.fullTest true) s) fun u => u.abort = 0 ∧ u.boot.asserted = true ∧ u.boot.cause = 6 ∧ u.boot.fullTest = true ∧
        u.bin.drk = []) ∧
    (s.bin.zeroWait ≠ none ∨ s.otpWriting = true → s.boot.asserted = false →
      Leads (exec (.fullTest true) s) fun u => u.abort = 0 ∧ u.boot = { s.boot with waiting := s.boot.waiting ++ [(6, s.now)] } ∧
        u.bin.zeroWait.isSome = true) ∧
    (s.boot.asserted = true → Leads (exec (.fullTest true) s) fun u => u.abort = 0 ∧ u.boot.asserted = true)) ∧
  (s.life ≠ 1 → s.life ≠ 4 → exec (.fullTest true) s = .next { s with abort := 0x0500000C }) ∧
  (∀ l, s.boot.fullTest = false ∨ s.boot.asserted = true → exec (.fullTestDone l) s = .next s) ∧
  (∀ l, s.boot.fullTest = true → s.boot.asserted = false → Leads (exec (.fullTestDone l) s) fun u =>
    (∀ k, k / 2 ^ 48 ≠ 1 → k / 2 ^ 48 ≠ 9 → mget u.mem k = 0#8) ∧
    (s.aonBusy = false → u.boot.asserted = true ∧ u.boot.cause = 7) ∧
    (s.aonBusy = true → u.boot = { s.boot with waiting := s.boot.waiting ++ [(7, s.now)] }) ∧
    ((tget [] s.alm.raised 23).length < 8 →
      tget [] u.alm.raised 23 = tget [] s.alm.raised 23 ++ [⟨0x1407, 2, packDetail [(4, l.length)]⟩]) ∧
    (∀ a b w i v, l = [(a, b, w, i, v)] → tget 0 u.snd.results s.snd.resultAt =
      s.resultWord a.toNat b.toNat w.toNat i.toNat (b2n v) 4)))

/-- A class of at most 4 and not below the default is taken, another refused. The oldest report of the blocks is reacted to as
one of a fault line is. An INFO or LOCAL report is counted alone; a DEGRADED one sets bit 0 of FaultStatus, and one of a packet
thread takes its core out of service; a CRITICAL or FATAL one enters safe state with the outputs low, and after a FATAL one the
reset follows in 1 ms. In safe state a further fault is counted and recorded and changes nothing else, but a FATAL one shortens
the delay to 1 ms. At the end of the delay the device resets, once AON's writes have ended. The software releases the outputs
when boot has ended and neither the fault bits nor safe state forbid it, and is refused otherwise; a write of 0 has no effect.
(22_sounding_safety.md) -/
def Obligations.SafetyManagerReacts : Prop :=
  (
  ∀ s : State,
  (∀ (p : Fin 12) (v : BitVec 8),
    (s.defaultClass p ≤ v.toNat → v.toNat ≤ 4 → Leads (exec (.faultClassWrite p v) s) fun u => u.opStatus = 0 ∧
      u.sourceClass p = v.toNat ∧ ∀ q : Fin 12, q ≠ p → u.sourceClass q = s.sourceClass q) ∧
    (v.toNat < s.defaultClass p ∨ 4 < v.toNat → exec (.faultClassWrite p v) s = .next { s with opStatus := 0xFE })) ∧
  (∀ (src : Fin 12) (unit : BitVec 16), let c := s.reportClass src unit.toNat
    (c ≤ 1 → Leads (exec (.safetyFault (some (src, unit))) s) fun u => u.saf = s.saf ∧ u.alm = s.alm ∧
      u.rd (classCounter c) = (s.rd (classCounter c) + 1) % 2 ^ 64 ∧ u.rd K.safFaultStatus = s.rd K.safFaultStatus) ∧
    (c = 2 → Leads (exec (.safetyFault (some (src, unit))) s) fun u =>
      u.rd K.ctrSafFaultsDegraded = (s.rd K.ctrSafFaultsDegraded + 1) % 2 ^ 64 ∧
      (s.safeState = true → u.saf = s.saf ∧ u.rd K.safFaultStatus = s.rd K.safFaultStatus) ∧
      (s.safeState = false → u.rd K.safFaultStatus = s.rd K.safFaultStatus ||| 1 ∧ (src.val ≠ 1 → u.saf = s.saf) ∧
        (src.val = 1 → unit.toNat < 512 → u.coreOut (s.lower (unit.toNat / 8)) = true))) ∧
    (c = 3 ∨ c = 4 → Leads (exec (.safetyFault (some (src, unit))) s) fun u => u.safeState = true ∧
      u.rd (classCounter c) = (s.rd (classCounter c) + 1) % 2 ^ 64 ∧
      (s.safeState = false → u.saf.safeOut = false ∧ u.rd K.safFaultStatus = s.rd K.safFaultStatus ||| 6 ∧
        u.rd K.ctrSafSafeStateEntries = (s.rd K.ctrSafSafeStateEntries + 1) % 2 ^ 64 ∧
        u.saf.lodestarOff = decide (src.val = 9 ∧ unit = 0#16) ∧
        (c = 4 → u.saf.safeAt = some (s.now + 1000000)) ∧
        (c = 3 → u.saf.safeAt = if s.rd K.safSafeResetDelay = 0 then none
          else some (s.now + s.rd K.safSafeResetDelay * 1000000))) ∧
      (s.safeState = true → u.rd K.safFaultStatus = s.rd K.safFaultStatus ∧ u.saf.safeOut = s.saf.safeOut ∧
        u.rd K.ctrSafSafeStateEntries = s.rd K.ctrSafSafeStateEntries ∧ (c = 3 → u.saf = s.saf) ∧
        (c = 4 → s.saf.safeAt = none ∨ (∃ t, s.saf.safeAt = some t ∧ s.now + 1000000 < t) →
          u.saf.safeAt = some (s.now + 1000000)) ∧
        (c = 4 → (∃ t, s.saf.safeAt = some t ∧ t ≤ s.now + 1000000) → u.saf = s.saf)))) ∧
  (∀ (src : Fin 12) (unit : BitVec 16) r, s.saf.reports = (src.val, unit.toNat) :: r →
    exec (.safetyFault none) s = exec (.safetyFault (some (src, unit))) { s with saf := { s.saf with reports := r } }) ∧
  (s.saf.reports = [] → exec (.safetyFault none) s = .next s)) ∧
  (
  ∀ s : State,
  (s.saf.safeAt = none ∨ (∃ t, s.saf.safeAt = some t ∧ s.now < t) → exec .safeResetDelayExpiry s = .next s) ∧
  (∀ t, s.saf.safeAt = some t → t ≤ s.now →
    (s.boot.asserted = false → s.aonBusy = false → s.saf.safeCause ≤ 8 →
      Leads (exec .safeResetDelayExpiry s) fun u => u.boot.asserted = true ∧ u.boot.cause = s.saf.safeCause ∧ u.boot.at_ = s.now) ∧
    (s.boot.asserted = false → s.aonBusy = true → exec .safeResetDelayExpiry s = .next { s with
      saf := { s.saf with safeAt := none },
      boot := { s.boot with waiting := s.boot.waiting ++ [(s.saf.safeCause, s.now)] } }) ∧
    (s.boot.asserted = true → s.boot.at_ ≠ s.now →
      exec .safeResetDelayExpiry s = .next { s with saf := { s.saf with safeAt := none } })) ∧
  (s.rd K.binBootState = 1 → bit (s.rd K.safFaultStatus) 2 = 0 → s.safeState = false → Leads (exec (.safeRelease true) s) fun u =>
    u.abort = 0 ∧ u.saf = { s.saf with safeOut := true } ∧ u.rd K.safFaultStatus = s.rd K.safFaultStatus) ∧
  (s.rd K.binBootState ≠ 1 ∨ bit (s.rd K.safFaultStatus) 2 = 1 ∨ s.safeState = true →
    exec (.safeRelease true) s = .next { s with abort := 0x04000001 }) ∧
  (exec (.safeRelease false) s = .next { s with abort := 0 }))

/-- A kick of a pair notes its instant; another number is refused. An active pair whose watchdog expires, or whose cores
disagree, is reported, stops, a commit under way ends with HARDWARE, and its exception queue is discarded and counted; with its
firmware it starts anew at address 0, and without it goes on restarting. The bytes 0x5A and 0xA5 within 1 us kick the armed
device watchdog; a kick before DeviceWdMin, a wrong second byte, and no kick within DeviceWdMax are a FATAL report; a byte that
begins no kick is forgotten. A command that meets none of this changes nothing (log entry 1). (22_sounding_safety.md) -/
def Obligations.WatchdogsAreKept : Prop :=
  ∀ s : State,
  (∀ p : BitVec 8, (p.toNat < 2 → Leads (exec (.pilotKick p) s) fun u => u.abort = 0 ∧
      tget 0 u.saf.kicks p.toNat = s.now ∧ (∀ k, k ≠ p.toNat → tget 0 u.saf.kicks k = tget 0 s.saf.kicks k) ∧ u.dict = s.dict) ∧
    (2 ≤ p.toNat → exec (.pilotKick p) s = .next { s with abort := 0x03000006 })) ∧
  (∀ p : Fin 2,
    let stopped (u : State) : Prop := (u.thread (576 + 2 * p)).st = .out ∧ u.saf.restarting = p.val :: s.saf.restarting ∧
      u.saf.reports = s.saf.reports ++ [(6, p.val)] ∧ u.pc.exceptionQ = [] ∧ u.uda.commit = none ∧
      (s.uda.commit ≠ none → u.rd K.cmtCommitState = 4 ∧ u.rd K.cmtLastResult = 0x06000001) ∧
      u.rd K.ctrSafExceptionDiscarded = (s.rd K.ctrSafExceptionDiscarded + s.pc.exceptionQ.length) % 2 ^ 64
    (s.pairActive p = false → exec (.pilotLockstepMismatch p) s = .next s ∧ exec (.pilotWatchdogExpiry p) s = .next s) ∧
    (s.now < tget 0 s.saf.kicks p + s.rd K.safPilotWatchdogTime * 1000000 → exec (.pilotWatchdogExpiry p) s = .next s) ∧
    (s.pairActive p = true → Leads (exec (.pilotLockstepMismatch p) s) stopped) ∧
    (s.pairActive p = true → tget 0 s.saf.kicks p + s.rd K.safPilotWatchdogTime * 1000000 ≤ s.now →
      Leads (exec (.pilotWatchdogExpiry p) s) stopped) ∧
    (p.val ∉ s.saf.restarting → exec (.pilotPairRestarted p) s = .next s) ∧
    (p.val ∈ s.saf.restarting →
      (∀ image, (s.firmware 1 [0, 1]).1 = some image →
        Leads (exec (.pilotPairRestarted p) s) fun u => p.val ∉ u.saf.restarting ∧ (u.thread (576 + 2 * p)).st = .ready ∧
          (u.thread (576 + 2 * p)).pc = 0 ∧ tget 0 u.saf.kicks p = s.now) ∧
      ((s.firmware 1 [0, 1]).1 = none → Leads (exec (.pilotPairRestarted p) s) fun u => u.saf = s.saf ∧
        u.thread (576 + 2 * p) = s.thread (576 + 2 * p)))) ∧
  (∀ v : BitVec 8, s.saf.wdArmed = false → exec (.deviceKick v) s = .next { s with abort := 0 }) ∧
  (s.saf.wdArmed = false ∨ s.now < s.saf.wdKickAt + s.rd K.safDeviceWdMax * 1000000 → exec .deviceWdExpiry s = .next s) ∧
  (s.saf.wdArmed = true →
    (∀ v : BitVec 8, s.saf.wdFirst = none ∨ (∃ t, s.saf.wdFirst = some t ∧ t + 1000 < s.now) →
      exec (.deviceKick v) s =
        .next { s with abort := 0, saf := { s.saf with wdFirst := if v = 0x5A#8 then some s.now else none } }) ∧
    (∀ t, s.saf.wdFirst = some t → s.now ≤ t + 1000 →
      (s.saf.wdKicked = false ∨ s.saf.wdKickAt + s.rd K.safDeviceWdMin * 1000000 ≤ s.now →
        Leads (exec (.deviceKick 0xA5#8) s) fun u => u.abort = 0 ∧
          u.saf = { s.saf with wdKicked := true, wdKickAt := s.now, wdFirst := none }) ∧
      (s.saf.wdKicked = true → s.now < s.saf.wdKickAt + s.rd K.safDeviceWdMin * 1000000 →
        Leads (exec (.deviceKick 0xA5#8) s) fun u => u.abort = 0 ∧ u.saf.wdArmed = false ∧
          u.saf.reports = s.saf.reports ++ [(11, 0)]) ∧
      (∀ v : BitVec 8, v ≠ 0xA5#8 → Leads (exec (.deviceKick v) s) fun u => u.abort = 0 ∧ u.saf.wdArmed = false ∧
        u.saf.reports = s.saf.reports ++ [(11, 0)])) ∧
    (s.saf.wdKickAt + s.rd K.safDeviceWdMax * 1000000 ≤ s.now → Leads (exec .deviceWdExpiry s) fun u =>
      u.saf.wdArmed = false ∧ u.saf.reports = s.saf.reports ++ [(11, 0)] ∧
        u.rd K.ctrSafDeviceWdExpiries = (s.rd K.ctrSafDeviceWdExpiries + 1) % 2 ^ 64))

/-- Power-on resets everything but OTP, the flashes and the ball levels. PORST_N low and a ResetRequest after 1 ms reset the
device with their cause, once AON's writes have ended; a ResetRequest during a commit or after a power-fail warning is BUSY, and
another value is refused. 20 us after assertion, with PORST_N and PWRFAIL_N high and a power failure recovered, reset is
released, its cause recorded and counted. A power-fail warning is latched; 10 ms of power end its reset. While the loop tracks,
margin lowers CoreVoltage by 5 mV, not below 700 mV, unless a rise waits; an alarm raises it by 20 mV, up to 850 mV, a response
lets waiting rises go on, and no answer holds 850 mV in FAULT. TRST_N low holds the TAP in reset, and so does every life-cycle
state but MANUFACTURE and RETURNED. A command that meets none of this changes nothing (log entry 1). (23_power_reset_boot.md,
24_package_pins.md) -/
def Obligations.ResetsAndVoltage : Prop :=
  (
  ∀ s : State, let b := s.boot
  (Leads (exec .powerOn s) fun u => u.boot.asserted = true ∧ u.boot.cause = 0 ∧ u.boot.at_ = s.now ∧ u.bin.otp = s.bin.otp ∧
    u.bin.drk = [] ∧ u.dict = State.reset.dict ∧ (∀ k, mget u.mem k = if k / 2 ^ 48 = 9 then mget s.mem k else 0#8) ∧
    u.alm.log = s.alm.log ∧ u.cores = State.reset.cores ∧ u.pending = s.pending) ∧
  (exec (.porst false) s = .next { s with boot := { b with porst := false } }) ∧
  (b.asserted = false → s.aonBusy = false → Leads (exec (.porst true) s) fun u => u.boot.asserted = true ∧ u.boot.cause = 1 ∧
    u.boot.porst = true ∧ u.cores.threads = [] ∧ u.bin.otp = s.bin.otp ∧ u.alm = s.alm) ∧
  (b.asserted = false → s.aonBusy = true →
    exec (.porst true) s = .next { s with boot := { b with porst := true, waiting := b.waiting ++ [(1, s.now)] } }) ∧
  (b.asserted = true → b.at_ ≠ s.now → exec (.porst true) s = .next { s with boot := { b with porst := true } }) ∧
  (∀ v : BitVec 8,
    (v = 1#8 → s.rd K.cmtCommitState ≠ 1 → s.rd K.cmtCommitState ≠ 2 → s.rd K.rstPowerFailLatched = 0 →
      exec (.resetRequest v) s =
        .next { s with abort := 0, boot := { b with softAt := some (b.softAt.getD (s.now + 1000000)) } }) ∧
    (v = 1#8 → s.rd K.cmtCommitState = 1 ∨ s.rd K.cmtCommitState = 2 ∨ s.rd K.rstPowerFailLatched ≠ 0 →
      exec (.resetRequest v) s = .next { s with abort := 0x03000008 }) ∧
    (v ≠ 1#8 → exec (.resetRequest v) s = .next { s with abort := 0x03000006 })) ∧
  (b.softAt = none ∨ (∃ t, b.softAt = some t ∧ s.now < t) → exec .resetRequestDelay s = .next s) ∧
  (∀ t, b.softAt = some t → t ≤ s.now →
    (b.asserted = false → s.aonBusy = false → Leads (exec .resetRequestDelay s) fun u =>
      u.boot.asserted = true ∧ u.boot.cause = 2 ∧ u.boot.softAt = none) ∧
    (b.asserted = false → s.aonBusy = true → exec .resetRequestDelay s =
      .next { s with boot := { b with softAt := none, waiting := b.waiting ++ [(2, s.now)] } }) ∧
    (b.asserted = true → b.at_ ≠ s.now → exec .resetRequestDelay s = .next { s with boot := { b with softAt := none } })) ∧
  (b.asserted = false ∨ s.now < b.at_ + 20000 ∨ b.porst = true ∨ b.pwrfail = true ∨ b.powerFail = true →
    exec .resetRelease s = .next s) ∧
  (b.asserted = true → b.at_ + 20000 ≤ s.now → b.porst = false → b.pwrfail = false → b.powerFail = false →
    Leads (exec .resetRelease s) fun u => u.boot = { b with asserted := false, releasedAt := s.now } ∧
      u.rd K.rstLastResetCause = b.cause ∧
      u.rd K.rstResetCount = (if b.cause = 0 then s.rd K.rstResetCount else (s.rd K.rstResetCount + 1) % 2 ^ 32)) ∧
  (exec (.pwrfailWarning b.pwrfail) s = .next s) ∧
  (b.pwrfail = false → Leads (exec (.pwrfailWarning true) s) fun u => u.boot = { b with pwrfail := true } ∧
    u.rd K.rstPowerFailLatched = 1) ∧
  (b.pwrfail = true → exec (.pwrfailWarning false) s = .next { s with boot := { b with pwrfail := false, pwrHighAt := s.now } }) ∧
  (exec .powerFailRecovery s = .next { s with boot := { b with
    powerFail := b.powerFail && !(!b.pwrfail && !b.porst && decide (b.pwrHighAt + 10000000 ≤ s.now)) } })) ∧
  (
  ∀ s : State,
  (s.rd K.rstAvsState ≠ 1 →
    ∀ i ∈ [Instr.avsStepTimer, .avsMarginAlarm, .avsRegulatorResponse, .avsRegulatorTimeout], exec i s = .next s) ∧
  (s.rd K.rstAvsState = 1 →
    (s.boot.avsWait ≠ [] → exec .avsStepTimer s = .next s) ∧
    (s.boot.avsWait = [] → exec .avsStepTimer s = .next (s.wr K.rstCoreVoltage (max 700 (s.rd K.rstCoreVoltage - 5)))) ∧
    (exec .avsMarginAlarm s = .next (s.wr K.rstCoreVoltage (min 850 (s.rd K.rstCoreVoltage + 20)))) ∧
    (exec .avsRegulatorResponse s = .next { s with boot := { s.boot with avsWait := [] } }) ∧
    Leads (exec .avsRegulatorTimeout s) fun u => u.rd K.rstAvsState = 2 ∧ u.rd K.rstCoreVoltage = 850 ∧ u.boot = s.boot) ∧
  (∀ low : Bool, exec (.tapReset low) s =
    .next { s with boot := { s.boot with tapHeld := low || (decide (s.life ≠ 1) && decide (s.life ≠ 4)) } }))

/-- Each PLL locks, or fails at its third 100 us without lock; that of an island, and its loss of lock, is reported. When every
PLL has settled the first step ends. The boot flash is started; firmware that verifies ends step 3, without it the device is in
recovery mode; the bank of the higher Sequence is selected, else the defaults, in which every backbone port is down; the
configuration is applied, a Vaulted region refused on the CH9820-A2; then the code of the directory is loaded, and the clusters
without code stay out of service; with training over the device runs and its watchdog is armed. A command out of its step
changes nothing (log entry 1). (23_power_reset_boot.md, 18_binnacle.md, 24_package_pins.md, 16_dram.md) -/
def Obligations.TheDeviceBoots : Prop :=
  ∀ s : State,
  (∀ i : Fin 27, let report := if i.val < 20 then [(9, i.val)] else if i.val < 23 then [(9, i.val + 1)] else []
    (s.boot.asserted = true ∨ (s.pll i).1 ≠ 0 → exec (.pllLock i) s = .next s ∧ exec (.pllLockTimeout i) s = .next s) ∧
    (s.now < s.boot.releasedAt + 100000 * ((s.pll i).2 + 1) → exec (.pllLockTimeout i) s = .next s) ∧
    (s.boot.asserted = true ∨ (s.pll i).1 ≠ 1 → exec (.pllLossOfLock i) s = .next s) ∧
    (s.boot.asserted = false →
      ((s.pll i).1 = 0 → Leads (exec (.pllLock i) s) fun u => (u.pll i).1 = 1 ∧ (∀ j, j ≠ i.val → u.pll j = s.pll j) ∧
        u.boot.step = (if s.booting = true ∧ s.boot.step = 0 ∧ (∀ j : Fin 27, j ≠ i → (s.pll j).1 ≠ 0) then 1 else s.boot.step)) ∧
      ((s.pll i).1 = 0 → s.boot.releasedAt + 100000 * ((s.pll i).2 + 1) ≤ s.now →
        ((s.pll i).2 < 2 → exec (.pllLockTimeout i) s = .next (s.setPll i (0, (s.pll i).2 + 1))) ∧
        (2 ≤ (s.pll i).2 → Leads (exec (.pllLockTimeout i) s) fun u => (u.pll i).1 = 2 ∧
          u.saf.reports = s.saf.reports ++ report)) ∧
      ((s.pll i).1 = 1 → Leads (exec (.pllLossOfLock i) s) fun u => (u.pll i).1 = 2 ∧
        u.saf.reports = s.saf.reports ++ report ∧ u.dict = s.dict))) ∧
  (s.booting = false ∨ s.boot.step ≠ 2 ∨ s.life = 0 ∨ s.life = 5 → exec .bootFirmwareLoaded s = .next s) ∧
  (s.booting = false ∨ s.boot.step ≠ 3 → exec .bootConfigSelect s = .next s) ∧
  (s.booting = false ∨ s.boot.step ≠ 4 → exec .bootConfigApply s = .next s) ∧
  (s.booting = false ∨ s.boot.step ≠ 5 ∨ bit s.boot.stepsDone 7 = 1 → exec .bootCodeLoad s = .next s) ∧
  (s.booting = false ∨ s.boot.step ≠ 5 ∨ bit s.boot.stepsDone 7 = 0 ∨ s.rd K.dramDramState = 1 →
    exec .bootRunning s = .next s) ∧
  (s.booting = true →
    (s.boot.step = 2 → s.life ≠ 0 → s.life ≠ 5 →
      let f := ((s.startBootFlash.wr K.rstDirectoryCopy ((s.directory.map Prod.fst).getD 0xFF)).firmware 1 [0, 1]).1
      Leads (exec .bootFirmwareLoaded s) fun u => u.boot.bflResetLow = false ∧ (u.boot.bflMode = 1 ∨ u.boot.bflMode = 2) ∧
        u.rd K.rstDirectoryCopy = (s.directory.map Prod.fst).getD 0xFF ∧
        (∀ image, f = some image → u.boot.step = 3 ∧ u.rd K.idPilotFirmwareBuild = imgSequence image) ∧
        (f = none → u.boot.step = 2 ∧ u.rd K.binBootState = 2)) ∧
    (s.boot.step = 3 →
      let f := selectBank (s.validBank 0).1 ((s.validBank 0).2.validBank 1).1
      (∀ n image, f = some (n, image) → Leads (exec .bootConfigSelect s) fun u => u.boot.step = 4 ∧ u.rd K.cmtInForceBank = n ∧
        u.rd K.idConfigSequence = imgSequence image ∧ u.boot.bankSigner = imgSigner image) ∧
      (f = none → Leads (exec .bootConfigSelect s) fun u => u.boot.step = 4 ∧ u.rd K.cmtInForceBank = 0xFF ∧
        u.rd K.idConfigSequence = 0 ∧ u.boot.bankSigner = 0xFF)) ∧
    (s.boot.step = 4 → Leads (exec .bootConfigApply s) fun u => u.boot.step = 5 ∧ u.boot.rstout = true ∧
      u.alm.configured = true ∧ u.rd K.cmtStagedWrites = 0 ∧ u.rdv.live = u.rdv.cfg ∧ u.bio.pinLive = u.bio.pinCfg ∧
      (s.rd K.cmtInForceBank = 0xFF → (∀ p : Fin 7, u.rd (K.portAdminUp p) = 0) ∧ u.rdv.cfg = s.rdv.cfg) ∧
      (∀ r : Fin 8, u.rd (K.drgState r) = if u.rd (K.drgSize r) = 0 then 3
        else if u.variant ≠ .a2s ∧ u.rd (K.drgKind r) = 2 then 2 else 0)) ∧
    (s.boot.step = 5 → bit s.boot.stepsDone 7 = 0 → Leads (exec .bootCodeLoad s) fun u =>
      u.boot.step = 5 ∧ u.boot.stepsDone = s.boot.stepsDone ||| 128 ∧
        (∀ n : Fin 16, u.codeLoaded n = false → bit (u.rd K.sndOutOfServiceClusters) n = 1) ∧
        (s.directory = none → u.boot.codeOk = s.boot.codeOk)) ∧
    (s.boot.step = 5 → bit s.boot.stepsDone 7 = 1 → s.rd K.dramDramState ≠ 1 → Leads (exec .bootRunning s) fun u =>
      u.boot.step = 9 ∧ u.rd K.binBootState = 1 ∧ u.rd K.rstFullServiceTime = (s.now - s.boot.releasedAt) / 1000 % 2 ^ 64 ∧
      u.saf.wdArmed = true ∧ u.saf.wdKickAt = s.now ∧ u.saf.wdKicked = false))
end

