-- ==== Sys2Proof/Laws/Tables.lean ====
section
/-! SUPPORT. The laws of sparse tables and memories: read after write, writes elsewhere, and the canonical form every operation
keeps. -/

namespace Sys2Proof.Laws

open Sys2Proof.Machine

/-! ### Read after write -/

theorem tget_terase (d : α) (t : Tbl α) (a b : Nat) : tget d (terase t a) b = if b = a then d else tget d t b := by
  induction t with
  | nil => simp [terase, tget]
  | cons kv r ih =>
    obtain ⟨k, v⟩ := kv
    simp only [terase]
    split
    · rename_i h
      subst h
      rw [ih]
      by_cases hb : b = a <;> simp [tget, hb]
    · rename_i h
      by_cases hb : b = k
      · subst hb
        have : ¬ b = a := fun e => h e.symm
        simp [tget, this]
      · simp [tget, hb, ih]

theorem tget_tput (d : α) (t : Tbl α) (a b : Nat) (x : α) : tget d (tput t a x) b = if b = a then x else tget d t b := by
  induction t with
  | nil => simp [tput, tget]
  | cons kv r ih =>
    obtain ⟨k, v⟩ := kv
    simp only [tput]
    split
    · simp [tget]
    · split
      · rename_i h
        subst h
        by_cases hb : b = a <;> simp [tget, hb]
      · rename_i h
        by_cases hb : b = k
        · subst hb
          have : ¬ b = a := fun e => h e.symm
          simp [tget, this]
        · simp [tget, hb, ih]

/-- A read of a table after a write. -/
theorem tget_tset [DecidableEq α] (d : α) (t : Tbl α) (a b : Nat) (x : α) :
    tget d (tset d t a x) b = if b = a then x else tget d t b := by
  unfold tset
  split
  · rename_i h
    subst h
    exact tget_terase x t a b
  · exact tget_tput d t a b x

@[simp] theorem tget_tset_self [DecidableEq α] (d : α) (t : Tbl α) (a : Nat) (x : α) : tget d (tset d t a x) a = x := by
  simp [tget_tset]

/-- Elsewhere a write changes nothing, whatever default the read takes. -/
theorem tget_tset_ne [DecidableEq α] (d d' : α) (t : Tbl α) (x : α) {a b : Nat} (h : b ≠ a) :
    tget d' (tset d t a x) b = tget d' t b := by
  unfold tset
  split
  · rw [tget_terase, if_neg h]
  · rw [tget_tput, if_neg h]

/-- A read of memory after a write of bytes at and above a key. -/
theorem mget_mwrite (m : List Host.Cell) (a b : Nat) (bs : List Byte) :
    mget (mwrite m a bs) b = if a ≤ b then bs.getD (b - a) (mget m b) else mget m b := by
  induction bs generalizing m a with
  | nil => simp [mwrite]
  | cons x r ih =>
    simp only [mwrite, ih]
    have hm : mget (tset unwritten m a x) b = if b = a then x else mget m b := tget_tset unwritten m a b x
    by_cases h1 : a + 1 ≤ b
    · have h2 : a ≤ b := by omega
      have h3 : b ≠ a := by omega
      have h4 : b - a = (b - (a + 1)) + 1 := by omega
      simp [h1, h2, hm, h3, h4]
    · by_cases h2 : b = a
      · subst h2
        rw [if_neg h1, hm, if_pos rfl, if_pos (Nat.le_refl b)]
        simp
      · have h3 : ¬ a ≤ b := by omega
        simp [h1, h3, hm, h2]

@[simp] theorem mread_length (m : List Host.Cell) (a n : Nat) : (mread m a n).length = n := by
  induction n generalizing a with
  | zero => rfl
  | succ n ih => simp [mread, ih]

/-- Reading back the bytes just written. -/
theorem mread_mwrite_same (m : List Host.Cell) (a : Nat) (bs : List Byte) : mread (mwrite m a bs) a bs.length = bs := by
  induction bs generalizing m a with
  | nil => rfl
  | cons x r ih =>
    simp only [List.length_cons, mread, mwrite]
    rw [ih]
    have : mget (mwrite (tset unwritten m a x) (a + 1) r) a = x := by
      rw [mget_mwrite]
      have : ¬ a + 1 ≤ a := by omega
      simp only [this, if_false]
      exact tget_tset_self unwritten m a x
    rw [this]

/-! ### Canonical form -/

theorem twfFrom_mono [DecidableEq α] (d : α) {lo lo' : Nat} (t : Tbl α) (h : lo' ≤ lo) (w : twfFrom d lo t = true) :
    twfFrom d lo' t = true := by
  cases t with
  | nil => rfl
  | cons kv r =>
    obtain ⟨k, v⟩ := kv
    simp only [twfFrom, Bool.and_eq_true, decide_eq_true_eq] at w ⊢
    exact ⟨by omega, w.2⟩

theorem terase_wf [DecidableEq α] (d : α) (lo a : Nat) (t : Tbl α) (w : twfFrom d lo t = true) :
    twfFrom d lo (terase t a) = true := by
  induction t generalizing lo with
  | nil => exact w
  | cons kv r ih =>
    obtain ⟨k, v⟩ := kv
    simp only [twfFrom, Bool.and_eq_true, decide_eq_true_eq] at w
    simp only [terase]
    split
    · exact twfFrom_mono d _ (by omega) (ih _ w.2.2)
    · simp only [twfFrom, Bool.and_eq_true, decide_eq_true_eq]
      exact ⟨w.1, w.2.1, ih _ w.2.2⟩

theorem tput_wf [DecidableEq α] (d : α) (lo a : Nat) (t : Tbl α) (x : α) (hx : x ≠ d) (ha : lo ≤ a)
    (w : twfFrom d lo t = true) : twfFrom d lo (tput t a x) = true := by
  induction t generalizing lo with
  | nil => simp [tput, twfFrom, ha, hx]
  | cons kv r ih =>
    obtain ⟨k, v⟩ := kv
    simp only [twfFrom, Bool.and_eq_true, decide_eq_true_eq] at w
    simp only [tput]
    split
    · rename_i h
      simp only [twfFrom, Bool.and_eq_true, decide_eq_true_eq]
      exact ⟨ha, hx, by omega, w.2.1, w.2.2⟩
    · split
      · rename_i h
        subst h
        simp only [twfFrom, Bool.and_eq_true, decide_eq_true_eq]
        exact ⟨ha, hx, w.2.2⟩
      · rename_i h1 h2
        simp only [twfFrom, Bool.and_eq_true, decide_eq_true_eq]
        exact ⟨w.1, w.2.1, ih _ (by omega) w.2.2⟩

/-- A write keeps a table canonical. -/
theorem tset_wf [DecidableEq α] (d : α) (t : Tbl α) (a : Nat) (x : α) (w : twf d t = true) : twf d (tset d t a x) = true := by
  unfold tset
  split
  · exact terase_wf d 0 a t w
  · rename_i h
    exact tput_wf d 0 a t x h (by omega) w

/-- A write of bytes keeps memory canonical. -/
theorem mwrite_wf (m : List Host.Cell) (a : Nat) (bs : List Byte) (w : Memory.wf m = true) : Memory.wf (mwrite m a bs) = true := by
  induction bs generalizing m a with
  | nil => exact w
  | cons x r ih => exact ih _ _ (tset_wf unwritten m a x w)

theorem storeBytes_wf (s : State) (sp : Space) (off : Nat) (bs : List Byte) (w : Memory.wf s.mem = true) :
    Memory.wf (s.storeBytes sp off bs).mem = true := mwrite_wf _ _ _ w

/-- A table of which entries are dropped stays canonical. -/
theorem filter_wf [DecidableEq α] (d : α) (lo : Nat) (t : Tbl α) (p : Nat × α → Bool) (w : twfFrom d lo t = true) :
    twfFrom d lo (t.filter p) = true := by
  induction t generalizing lo with
  | nil => exact w
  | cons kv r ih =>
    obtain ⟨k, v⟩ := kv
    simp only [twfFrom, Bool.and_eq_true, decide_eq_true_eq] at w
    simp only [List.filter_cons]
    split
    · simp only [twfFrom, Bool.and_eq_true, decide_eq_true_eq]
      exact ⟨w.1, w.2.1, ih _ w.2.2⟩
    · exact twfFrom_mono d _ (by omega) (ih _ w.2.2)

/-- Memory that is cleared in part stays canonical. -/
theorem memory_filter_wf (m : List Host.Cell) (p : Host.Cell → Bool) (w : Memory.wf m = true) : Memory.wf (m.filter p) = true :=
  filter_wf unwritten 0 m p w

end Sys2Proof.Laws
end

