-- ==== Sys2Proof/Laws/State.lean ====
section
/-! SUPPORT. What each update of one piece of state leaves of every field, and what a read after it gives, so that no proof unfolds an
update of a record. -/

namespace Sys2Proof.Laws

open Sys2Proof.Machine

variable (s : State)

/-! `State.wr`. -/

@[simp] theorem wr_variant (k v : Nat) : (s.wr k v).variant = s.variant := rfl
@[simp] theorem wr_now (k v : Nat) : (s.wr k v).now = s.now := rfl
@[simp] theorem wr_staged (k v : Nat) : (s.wr k v).staged = s.staged := rfl
@[simp] theorem wr_octets (k v : Nat) : (s.wr k v).octets = s.octets := rfl
@[simp] theorem wr_mem (k v : Nat) : (s.wr k v).mem = s.mem := rfl
@[simp] theorem wr_firsts (k v : Nat) : (s.wr k v).firsts = s.firsts := rfl
@[simp] theorem wr_freeCtr (k v : Nat) : (s.wr k v).freeCtr = s.freeCtr := rfl
@[simp] theorem wr_opStatus (k v : Nat) : (s.wr k v).opStatus = s.opStatus := rfl
@[simp] theorem wr_reply (k v : Nat) : (s.wr k v).reply = s.reply := rfl
@[simp] theorem wr_abort (k v : Nat) : (s.wr k v).abort = s.abort := rfl
@[simp] theorem wr_px (k v : Nat) : (s.wr k v).px = s.px := rfl
@[simp] theorem wr_pc (k v : Nat) : (s.wr k v).pc = s.pc := rfl
@[simp] theorem wr_br (k v : Nat) : (s.wr k v).br = s.br := rfl
@[simp] theorem wr_orch (k v : Nat) : (s.wr k v).orch = s.orch := rfl
@[simp] theorem wr_lode (k v : Nat) : (s.wr k v).lode = s.lode := rfl
@[simp] theorem wr_chron (k v : Nat) : (s.wr k v).chron = s.chron := rfl
@[simp] theorem wr_tm (k v : Nat) : (s.wr k v).tm = s.tm := rfl
@[simp] theorem wr_alm (k v : Nat) : (s.wr k v).alm = s.alm := rfl
@[simp] theorem wr_trc (k v : Nat) : (s.wr k v).trc = s.trc := rfl
@[simp] theorem wr_uda (k v : Nat) : (s.wr k v).uda = s.uda := rfl
@[simp] theorem wr_disp (k v : Nat) : (s.wr k v).disp = s.disp := rfl
@[simp] theorem wr_oru (k v : Nat) : (s.wr k v).oru = s.oru := rfl
@[simp] theorem wr_cores (k v : Nat) : (s.wr k v).cores = s.cores := rfl
@[simp] theorem wr_rdv (k v : Nat) : (s.wr k v).rdv = s.rdv := rfl
@[simp] theorem wr_bio (k v : Nat) : (s.wr k v).bio = s.bio := rfl
@[simp] theorem wr_dram (k v : Nat) : (s.wr k v).dram = s.dram := rfl
@[simp] theorem wr_dma (k v : Nat) : (s.wr k v).dma = s.dma := rfl
@[simp] theorem wr_saf (k v : Nat) : (s.wr k v).saf = s.saf := rfl
@[simp] theorem wr_snd (k v : Nat) : (s.wr k v).snd = s.snd := rfl
@[simp] theorem wr_bin (k v : Nat) : (s.wr k v).bin = s.bin := rfl
@[simp] theorem wr_boot (k v : Nat) : (s.wr k v).boot = s.boot := rfl
@[simp] theorem wr_pending (k v : Nat) : (s.wr k v).pending = s.pending := rfl
theorem rd_wr (k v k1 : Nat) : (s.wr k v).rd k1 = if k1 = k then v else s.rd k1 := by
  unfold State.rd State.wr
  by_cases h : k1 = k
  · subst h
    simp
  · rw [if_neg h]
    exact tget_tset_ne _ _ _ _ h
@[simp] theorem wr_thread (k v : Nat) (t1 : Nat) : (s.wr k v).thread t1 = s.thread t1 := rfl

/-! `State.bump`. -/

@[simp] theorem bump_variant (k : Nat) (n : Nat) : (s.bump k n).variant = s.variant := rfl
@[simp] theorem bump_now (k : Nat) (n : Nat) : (s.bump k n).now = s.now := rfl
@[simp] theorem bump_staged (k : Nat) (n : Nat) : (s.bump k n).staged = s.staged := rfl
@[simp] theorem bump_octets (k : Nat) (n : Nat) : (s.bump k n).octets = s.octets := rfl
@[simp] theorem bump_mem (k : Nat) (n : Nat) : (s.bump k n).mem = s.mem := rfl
@[simp] theorem bump_firsts (k : Nat) (n : Nat) : (s.bump k n).firsts = s.firsts := rfl
@[simp] theorem bump_freeCtr (k : Nat) (n : Nat) : (s.bump k n).freeCtr = s.freeCtr := rfl
@[simp] theorem bump_opStatus (k : Nat) (n : Nat) : (s.bump k n).opStatus = s.opStatus := rfl
@[simp] theorem bump_reply (k : Nat) (n : Nat) : (s.bump k n).reply = s.reply := rfl
@[simp] theorem bump_abort (k : Nat) (n : Nat) : (s.bump k n).abort = s.abort := rfl
@[simp] theorem bump_px (k : Nat) (n : Nat) : (s.bump k n).px = s.px := rfl
@[simp] theorem bump_pc (k : Nat) (n : Nat) : (s.bump k n).pc = s.pc := rfl
@[simp] theorem bump_br (k : Nat) (n : Nat) : (s.bump k n).br = s.br := rfl
@[simp] theorem bump_orch (k : Nat) (n : Nat) : (s.bump k n).orch = s.orch := rfl
@[simp] theorem bump_lode (k : Nat) (n : Nat) : (s.bump k n).lode = s.lode := rfl
@[simp] theorem bump_chron (k : Nat) (n : Nat) : (s.bump k n).chron = s.chron := rfl
@[simp] theorem bump_tm (k : Nat) (n : Nat) : (s.bump k n).tm = s.tm := rfl
@[simp] theorem bump_alm (k : Nat) (n : Nat) : (s.bump k n).alm = s.alm := rfl
@[simp] theorem bump_trc (k : Nat) (n : Nat) : (s.bump k n).trc = s.trc := rfl
@[simp] theorem bump_uda (k : Nat) (n : Nat) : (s.bump k n).uda = s.uda := rfl
@[simp] theorem bump_disp (k : Nat) (n : Nat) : (s.bump k n).disp = s.disp := rfl
@[simp] theorem bump_oru (k : Nat) (n : Nat) : (s.bump k n).oru = s.oru := rfl
@[simp] theorem bump_cores (k : Nat) (n : Nat) : (s.bump k n).cores = s.cores := rfl
@[simp] theorem bump_rdv (k : Nat) (n : Nat) : (s.bump k n).rdv = s.rdv := rfl
@[simp] theorem bump_bio (k : Nat) (n : Nat) : (s.bump k n).bio = s.bio := rfl
@[simp] theorem bump_dram (k : Nat) (n : Nat) : (s.bump k n).dram = s.dram := rfl
@[simp] theorem bump_dma (k : Nat) (n : Nat) : (s.bump k n).dma = s.dma := rfl
@[simp] theorem bump_saf (k : Nat) (n : Nat) : (s.bump k n).saf = s.saf := rfl
@[simp] theorem bump_snd (k : Nat) (n : Nat) : (s.bump k n).snd = s.snd := rfl
@[simp] theorem bump_bin (k : Nat) (n : Nat) : (s.bump k n).bin = s.bin := rfl
@[simp] theorem bump_boot (k : Nat) (n : Nat) : (s.bump k n).boot = s.boot := rfl
@[simp] theorem bump_pending (k : Nat) (n : Nat) : (s.bump k n).pending = s.pending := rfl
theorem rd_bump (k n k1 : Nat) : (s.bump k n).rd k1 = if k1 = k then (s.rd k + n) % 2 ^ 64 else s.rd k1 := rd_wr ..
@[simp] theorem bump_thread (k : Nat) (n : Nat) (t1 : Nat) : (s.bump k n).thread t1 = s.thread t1 := rfl

/-! `State.setOctets`. -/

@[simp] theorem setOctets_variant (k : Nat) (b : List Byte) : (s.setOctets k b).variant = s.variant := rfl
@[simp] theorem setOctets_now (k : Nat) (b : List Byte) : (s.setOctets k b).now = s.now := rfl
@[simp] theorem setOctets_dict (k : Nat) (b : List Byte) : (s.setOctets k b).dict = s.dict := rfl
@[simp] theorem setOctets_staged (k : Nat) (b : List Byte) : (s.setOctets k b).staged = s.staged := rfl
@[simp] theorem setOctets_mem (k : Nat) (b : List Byte) : (s.setOctets k b).mem = s.mem := rfl
@[simp] theorem setOctets_firsts (k : Nat) (b : List Byte) : (s.setOctets k b).firsts = s.firsts := rfl
@[simp] theorem setOctets_freeCtr (k : Nat) (b : List Byte) : (s.setOctets k b).freeCtr = s.freeCtr := rfl
@[simp] theorem setOctets_opStatus (k : Nat) (b : List Byte) : (s.setOctets k b).opStatus = s.opStatus := rfl
@[simp] theorem setOctets_reply (k : Nat) (b : List Byte) : (s.setOctets k b).reply = s.reply := rfl
@[simp] theorem setOctets_abort (k : Nat) (b : List Byte) : (s.setOctets k b).abort = s.abort := rfl
@[simp] theorem setOctets_px (k : Nat) (b : List Byte) : (s.setOctets k b).px = s.px := rfl
@[simp] theorem setOctets_pc (k : Nat) (b : List Byte) : (s.setOctets k b).pc = s.pc := rfl
@[simp] theorem setOctets_br (k : Nat) (b : List Byte) : (s.setOctets k b).br = s.br := rfl
@[simp] theorem setOctets_orch (k : Nat) (b : List Byte) : (s.setOctets k b).orch = s.orch := rfl
@[simp] theorem setOctets_lode (k : Nat) (b : List Byte) : (s.setOctets k b).lode = s.lode := rfl
@[simp] theorem setOctets_chron (k : Nat) (b : List Byte) : (s.setOctets k b).chron = s.chron := rfl
@[simp] theorem setOctets_tm (k : Nat) (b : List Byte) : (s.setOctets k b).tm = s.tm := rfl
@[simp] theorem setOctets_alm (k : Nat) (b : List Byte) : (s.setOctets k b).alm = s.alm := rfl
@[simp] theorem setOctets_trc (k : Nat) (b : List Byte) : (s.setOctets k b).trc = s.trc := rfl
@[simp] theorem setOctets_uda (k : Nat) (b : List Byte) : (s.setOctets k b).uda = s.uda := rfl
@[simp] theorem setOctets_disp (k : Nat) (b : List Byte) : (s.setOctets k b).disp = s.disp := rfl
@[simp] theorem setOctets_oru (k : Nat) (b : List Byte) : (s.setOctets k b).oru = s.oru := rfl
@[simp] theorem setOctets_cores (k : Nat) (b : List Byte) : (s.setOctets k b).cores = s.cores := rfl
@[simp] theorem setOctets_rdv (k : Nat) (b : List Byte) : (s.setOctets k b).rdv = s.rdv := rfl
@[simp] theorem setOctets_bio (k : Nat) (b : List Byte) : (s.setOctets k b).bio = s.bio := rfl
@[simp] theorem setOctets_dram (k : Nat) (b : List Byte) : (s.setOctets k b).dram = s.dram := rfl
@[simp] theorem setOctets_dma (k : Nat) (b : List Byte) : (s.setOctets k b).dma = s.dma := rfl
@[simp] theorem setOctets_saf (k : Nat) (b : List Byte) : (s.setOctets k b).saf = s.saf := rfl
@[simp] theorem setOctets_snd (k : Nat) (b : List Byte) : (s.setOctets k b).snd = s.snd := rfl
@[simp] theorem setOctets_bin (k : Nat) (b : List Byte) : (s.setOctets k b).bin = s.bin := rfl
@[simp] theorem setOctets_boot (k : Nat) (b : List Byte) : (s.setOctets k b).boot = s.boot := rfl
@[simp] theorem setOctets_pending (k : Nat) (b : List Byte) : (s.setOctets k b).pending = s.pending := rfl
@[simp] theorem setOctets_rd (k : Nat) (b : List Byte) (k1 : Nat) : (s.setOctets k b).rd k1 = s.rd k1 := rfl
theorem octetsOf_setOctets (k : Nat) (b : List Byte) (k1 : Nat) : (s.setOctets k b).octetsOf k1 = if k1 = k then b else s.octetsOf k1 := tget_tset ..
@[simp] theorem octetsOf_setOctets_self (k : Nat) (b : List Byte) : (s.setOctets k b).octetsOf k = b := tget_tset_self ..
@[simp] theorem setOctets_thread (k : Nat) (b : List Byte) (t1 : Nat) : (s.setOctets k b).thread t1 = s.thread t1 := rfl

/-! `State.tick`. -/

@[simp] theorem tick_variant : (s.tick).variant = s.variant := rfl
@[simp] theorem tick_now : (s.tick).now = s.now := rfl
@[simp] theorem tick_dict : (s.tick).dict = s.dict := rfl
@[simp] theorem tick_staged : (s.tick).staged = s.staged := rfl
@[simp] theorem tick_octets : (s.tick).octets = s.octets := rfl
@[simp] theorem tick_mem : (s.tick).mem = s.mem := rfl
@[simp] theorem tick_firsts : (s.tick).firsts = s.firsts := rfl
@[simp] theorem tick_opStatus : (s.tick).opStatus = s.opStatus := rfl
@[simp] theorem tick_reply : (s.tick).reply = s.reply := rfl
@[simp] theorem tick_abort : (s.tick).abort = s.abort := rfl
@[simp] theorem tick_px : (s.tick).px = s.px := rfl
@[simp] theorem tick_pc : (s.tick).pc = s.pc := rfl
@[simp] theorem tick_br : (s.tick).br = s.br := rfl
@[simp] theorem tick_orch : (s.tick).orch = s.orch := rfl
@[simp] theorem tick_lode : (s.tick).lode = s.lode := rfl
@[simp] theorem tick_chron : (s.tick).chron = s.chron := rfl
@[simp] theorem tick_tm : (s.tick).tm = s.tm := rfl
@[simp] theorem tick_alm : (s.tick).alm = s.alm := rfl
@[simp] theorem tick_trc : (s.tick).trc = s.trc := rfl
@[simp] theorem tick_uda : (s.tick).uda = s.uda := rfl
@[simp] theorem tick_disp : (s.tick).disp = s.disp := rfl
@[simp] theorem tick_oru : (s.tick).oru = s.oru := rfl
@[simp] theorem tick_cores : (s.tick).cores = s.cores := rfl
@[simp] theorem tick_rdv : (s.tick).rdv = s.rdv := rfl
@[simp] theorem tick_bio : (s.tick).bio = s.bio := rfl
@[simp] theorem tick_dram : (s.tick).dram = s.dram := rfl
@[simp] theorem tick_dma : (s.tick).dma = s.dma := rfl
@[simp] theorem tick_saf : (s.tick).saf = s.saf := rfl
@[simp] theorem tick_snd : (s.tick).snd = s.snd := rfl
@[simp] theorem tick_bin : (s.tick).bin = s.bin := rfl
@[simp] theorem tick_boot : (s.tick).boot = s.boot := rfl
@[simp] theorem tick_pending : (s.tick).pending = s.pending := rfl
@[simp] theorem tick_rd (k1 : Nat) : (s.tick).rd k1 = s.rd k1 := rfl
@[simp] theorem tick_thread (t1 : Nat) : (s.tick).thread t1 = s.thread t1 := rfl

/-! `State.status`. -/

@[simp] theorem status_variant (v : Nat) : (s.status v).variant = s.variant := rfl
@[simp] theorem status_now (v : Nat) : (s.status v).now = s.now := rfl
@[simp] theorem status_dict (v : Nat) : (s.status v).dict = s.dict := rfl
@[simp] theorem status_staged (v : Nat) : (s.status v).staged = s.staged := rfl
@[simp] theorem status_octets (v : Nat) : (s.status v).octets = s.octets := rfl
@[simp] theorem status_mem (v : Nat) : (s.status v).mem = s.mem := rfl
@[simp] theorem status_firsts (v : Nat) : (s.status v).firsts = s.firsts := rfl
@[simp] theorem status_freeCtr (v : Nat) : (s.status v).freeCtr = s.freeCtr := rfl
@[simp] theorem status_reply (v : Nat) : (s.status v).reply = s.reply := rfl
@[simp] theorem status_abort (v : Nat) : (s.status v).abort = s.abort := rfl
@[simp] theorem status_px (v : Nat) : (s.status v).px = s.px := rfl
@[simp] theorem status_pc (v : Nat) : (s.status v).pc = s.pc := rfl
@[simp] theorem status_br (v : Nat) : (s.status v).br = s.br := rfl
@[simp] theorem status_orch (v : Nat) : (s.status v).orch = s.orch := rfl
@[simp] theorem status_lode (v : Nat) : (s.status v).lode = s.lode := rfl
@[simp] theorem status_chron (v : Nat) : (s.status v).chron = s.chron := rfl
@[simp] theorem status_tm (v : Nat) : (s.status v).tm = s.tm := rfl
@[simp] theorem status_alm (v : Nat) : (s.status v).alm = s.alm := rfl
@[simp] theorem status_trc (v : Nat) : (s.status v).trc = s.trc := rfl
@[simp] theorem status_uda (v : Nat) : (s.status v).uda = s.uda := rfl
@[simp] theorem status_disp (v : Nat) : (s.status v).disp = s.disp := rfl
@[simp] theorem status_oru (v : Nat) : (s.status v).oru = s.oru := rfl
@[simp] theorem status_cores (v : Nat) : (s.status v).cores = s.cores := rfl
@[simp] theorem status_rdv (v : Nat) : (s.status v).rdv = s.rdv := rfl
@[simp] theorem status_bio (v : Nat) : (s.status v).bio = s.bio := rfl
@[simp] theorem status_dram (v : Nat) : (s.status v).dram = s.dram := rfl
@[simp] theorem status_dma (v : Nat) : (s.status v).dma = s.dma := rfl
@[simp] theorem status_saf (v : Nat) : (s.status v).saf = s.saf := rfl
@[simp] theorem status_snd (v : Nat) : (s.status v).snd = s.snd := rfl
@[simp] theorem status_bin (v : Nat) : (s.status v).bin = s.bin := rfl
@[simp] theorem status_boot (v : Nat) : (s.status v).boot = s.boot := rfl
@[simp] theorem status_pending (v : Nat) : (s.status v).pending = s.pending := rfl
@[simp] theorem status_rd (v : Nat) (k1 : Nat) : (s.status v).rd k1 = s.rd k1 := rfl
@[simp] theorem status_thread (v : Nat) (t1 : Nat) : (s.status v).thread t1 = s.thread t1 := rfl

/-! `State.aborted`. -/

@[simp] theorem aborted_variant (v : Nat) : (s.aborted v).variant = s.variant := rfl
@[simp] theorem aborted_now (v : Nat) : (s.aborted v).now = s.now := rfl
@[simp] theorem aborted_dict (v : Nat) : (s.aborted v).dict = s.dict := rfl
@[simp] theorem aborted_staged (v : Nat) : (s.aborted v).staged = s.staged := rfl
@[simp] theorem aborted_octets (v : Nat) : (s.aborted v).octets = s.octets := rfl
@[simp] theorem aborted_mem (v : Nat) : (s.aborted v).mem = s.mem := rfl
@[simp] theorem aborted_firsts (v : Nat) : (s.aborted v).firsts = s.firsts := rfl
@[simp] theorem aborted_freeCtr (v : Nat) : (s.aborted v).freeCtr = s.freeCtr := rfl
@[simp] theorem aborted_opStatus (v : Nat) : (s.aborted v).opStatus = s.opStatus := rfl
@[simp] theorem aborted_reply (v : Nat) : (s.aborted v).reply = s.reply := rfl
@[simp] theorem aborted_px (v : Nat) : (s.aborted v).px = s.px := rfl
@[simp] theorem aborted_pc (v : Nat) : (s.aborted v).pc = s.pc := rfl
@[simp] theorem aborted_br (v : Nat) : (s.aborted v).br = s.br := rfl
@[simp] theorem aborted_orch (v : Nat) : (s.aborted v).orch = s.orch := rfl
@[simp] theorem aborted_lode (v : Nat) : (s.aborted v).lode = s.lode := rfl
@[simp] theorem aborted_chron (v : Nat) : (s.aborted v).chron = s.chron := rfl
@[simp] theorem aborted_tm (v : Nat) : (s.aborted v).tm = s.tm := rfl
@[simp] theorem aborted_alm (v : Nat) : (s.aborted v).alm = s.alm := rfl
@[simp] theorem aborted_trc (v : Nat) : (s.aborted v).trc = s.trc := rfl
@[simp] theorem aborted_uda (v : Nat) : (s.aborted v).uda = s.uda := rfl
@[simp] theorem aborted_disp (v : Nat) : (s.aborted v).disp = s.disp := rfl
@[simp] theorem aborted_oru (v : Nat) : (s.aborted v).oru = s.oru := rfl
@[simp] theorem aborted_cores (v : Nat) : (s.aborted v).cores = s.cores := rfl
@[simp] theorem aborted_rdv (v : Nat) : (s.aborted v).rdv = s.rdv := rfl
@[simp] theorem aborted_bio (v : Nat) : (s.aborted v).bio = s.bio := rfl
@[simp] theorem aborted_dram (v : Nat) : (s.aborted v).dram = s.dram := rfl
@[simp] theorem aborted_dma (v : Nat) : (s.aborted v).dma = s.dma := rfl
@[simp] theorem aborted_saf (v : Nat) : (s.aborted v).saf = s.saf := rfl
@[simp] theorem aborted_snd (v : Nat) : (s.aborted v).snd = s.snd := rfl
@[simp] theorem aborted_bin (v : Nat) : (s.aborted v).bin = s.bin := rfl
@[simp] theorem aborted_boot (v : Nat) : (s.aborted v).boot = s.boot := rfl
@[simp] theorem aborted_pending (v : Nat) : (s.aborted v).pending = s.pending := rfl
@[simp] theorem aborted_rd (v : Nat) (k1 : Nat) : (s.aborted v).rd k1 = s.rd k1 := rfl
@[simp] theorem aborted_thread (v : Nat) (t1 : Nat) : (s.aborted v).thread t1 = s.thread t1 := rfl

/-! `State.answer`. -/

@[simp] theorem answer_variant (status : Nat) (r : List Byte) : (s.answer status r).variant = s.variant := rfl
@[simp] theorem answer_now (status : Nat) (r : List Byte) : (s.answer status r).now = s.now := rfl
@[simp] theorem answer_dict (status : Nat) (r : List Byte) : (s.answer status r).dict = s.dict := rfl
@[simp] theorem answer_staged (status : Nat) (r : List Byte) : (s.answer status r).staged = s.staged := rfl
@[simp] theorem answer_octets (status : Nat) (r : List Byte) : (s.answer status r).octets = s.octets := rfl
@[simp] theorem answer_mem (status : Nat) (r : List Byte) : (s.answer status r).mem = s.mem := rfl
@[simp] theorem answer_firsts (status : Nat) (r : List Byte) : (s.answer status r).firsts = s.firsts := rfl
@[simp] theorem answer_freeCtr (status : Nat) (r : List Byte) : (s.answer status r).freeCtr = s.freeCtr := rfl
@[simp] theorem answer_abort (status : Nat) (r : List Byte) : (s.answer status r).abort = s.abort := rfl
@[simp] theorem answer_px (status : Nat) (r : List Byte) : (s.answer status r).px = s.px := rfl
@[simp] theorem answer_pc (status : Nat) (r : List Byte) : (s.answer status r).pc = s.pc := rfl
@[simp] theorem answer_br (status : Nat) (r : List Byte) : (s.answer status r).br = s.br := rfl
@[simp] theorem answer_orch (status : Nat) (r : List Byte) : (s.answer status r).orch = s.orch := rfl
@[simp] theorem answer_lode (status : Nat) (r : List Byte) : (s.answer status r).lode = s.lode := rfl
@[simp] theorem answer_chron (status : Nat) (r : List Byte) : (s.answer status r).chron = s.chron := rfl
@[simp] theorem answer_tm (status : Nat) (r : List Byte) : (s.answer status r).tm = s.tm := rfl
@[simp] theorem answer_alm (status : Nat) (r : List Byte) : (s.answer status r).alm = s.alm := rfl
@[simp] theorem answer_trc (status : Nat) (r : List Byte) : (s.answer status r).trc = s.trc := rfl
@[simp] theorem answer_uda (status : Nat) (r : List Byte) : (s.answer status r).uda = s.uda := rfl
@[simp] theorem answer_disp (status : Nat) (r : List Byte) : (s.answer status r).disp = s.disp := rfl
@[simp] theorem answer_oru (status : Nat) (r : List Byte) : (s.answer status r).oru = s.oru := rfl
@[simp] theorem answer_cores (status : Nat) (r : List Byte) : (s.answer status r).cores = s.cores := rfl
@[simp] theorem answer_rdv (status : Nat) (r : List Byte) : (s.answer status r).rdv = s.rdv := rfl
@[simp] theorem answer_bio (status : Nat) (r : List Byte) : (s.answer status r).bio = s.bio := rfl
@[simp] theorem answer_dram (status : Nat) (r : List Byte) : (s.answer status r).dram = s.dram := rfl
@[simp] theorem answer_dma (status : Nat) (r : List Byte) : (s.answer status r).dma = s.dma := rfl
@[simp] theorem answer_saf (status : Nat) (r : List Byte) : (s.answer status r).saf = s.saf := rfl
@[simp] theorem answer_snd (status : Nat) (r : List Byte) : (s.answer status r).snd = s.snd := rfl
@[simp] theorem answer_bin (status : Nat) (r : List Byte) : (s.answer status r).bin = s.bin := rfl
@[simp] theorem answer_boot (status : Nat) (r : List Byte) : (s.answer status r).boot = s.boot := rfl
@[simp] theorem answer_pending (status : Nat) (r : List Byte) : (s.answer status r).pending = s.pending := rfl
@[simp] theorem answer_rd (status : Nat) (r : List Byte) (k1 : Nat) : (s.answer status r).rd k1 = s.rd k1 := rfl
@[simp] theorem answer_thread (status : Nat) (r : List Byte) (t1 : Nat) : (s.answer status r).thread t1 = s.thread t1 := rfl

/-! `State.storeBytes`. -/

@[simp] theorem storeBytes_variant (sp : Space) (off : Nat) (bs : List Byte) : (s.storeBytes sp off bs).variant = s.variant := rfl
@[simp] theorem storeBytes_now (sp : Space) (off : Nat) (bs : List Byte) : (s.storeBytes sp off bs).now = s.now := rfl
@[simp] theorem storeBytes_dict (sp : Space) (off : Nat) (bs : List Byte) : (s.storeBytes sp off bs).dict = s.dict := rfl
@[simp] theorem storeBytes_staged (sp : Space) (off : Nat) (bs : List Byte) : (s.storeBytes sp off bs).staged = s.staged := rfl
@[simp] theorem storeBytes_octets (sp : Space) (off : Nat) (bs : List Byte) : (s.storeBytes sp off bs).octets = s.octets := rfl
@[simp] theorem storeBytes_firsts (sp : Space) (off : Nat) (bs : List Byte) : (s.storeBytes sp off bs).firsts = s.firsts := rfl
@[simp] theorem storeBytes_freeCtr (sp : Space) (off : Nat) (bs : List Byte) : (s.storeBytes sp off bs).freeCtr = s.freeCtr := rfl
@[simp] theorem storeBytes_opStatus (sp : Space) (off : Nat) (bs : List Byte) : (s.storeBytes sp off bs).opStatus = s.opStatus := rfl
@[simp] theorem storeBytes_reply (sp : Space) (off : Nat) (bs : List Byte) : (s.storeBytes sp off bs).reply = s.reply := rfl
@[simp] theorem storeBytes_abort (sp : Space) (off : Nat) (bs : List Byte) : (s.storeBytes sp off bs).abort = s.abort := rfl
@[simp] theorem storeBytes_px (sp : Space) (off : Nat) (bs : List Byte) : (s.storeBytes sp off bs).px = s.px := rfl
@[simp] theorem storeBytes_pc (sp : Space) (off : Nat) (bs : List Byte) : (s.storeBytes sp off bs).pc = s.pc := rfl
@[simp] theorem storeBytes_br (sp : Space) (off : Nat) (bs : List Byte) : (s.storeBytes sp off bs).br = s.br := rfl
@[simp] theorem storeBytes_orch (sp : Space) (off : Nat) (bs : List Byte) : (s.storeBytes sp off bs).orch = s.orch := rfl
@[simp] theorem storeBytes_lode (sp : Space) (off : Nat) (bs : List Byte) : (s.storeBytes sp off bs).lode = s.lode := rfl
@[simp] theorem storeBytes_chron (sp : Space) (off : Nat) (bs : List Byte) : (s.storeBytes sp off bs).chron = s.chron := rfl
@[simp] theorem storeBytes_tm (sp : Space) (off : Nat) (bs : List Byte) : (s.storeBytes sp off bs).tm = s.tm := rfl
@[simp] theorem storeBytes_alm (sp : Space) (off : Nat) (bs : List Byte) : (s.storeBytes sp off bs).alm = s.alm := rfl
@[simp] theorem storeBytes_trc (sp : Space) (off : Nat) (bs : List Byte) : (s.storeBytes sp off bs).trc = s.trc := rfl
@[simp] theorem storeBytes_uda (sp : Space) (off : Nat) (bs : List Byte) : (s.storeBytes sp off bs).uda = s.uda := rfl
@[simp] theorem storeBytes_disp (sp : Space) (off : Nat) (bs : List Byte) : (s.storeBytes sp off bs).disp = s.disp := rfl
@[simp] theorem storeBytes_oru (sp : Space) (off : Nat) (bs : List Byte) : (s.storeBytes sp off bs).oru = s.oru := rfl
@[simp] theorem storeBytes_cores (sp : Space) (off : Nat) (bs : List Byte) : (s.storeBytes sp off bs).cores = s.cores := rfl
@[simp] theorem storeBytes_rdv (sp : Space) (off : Nat) (bs : List Byte) : (s.storeBytes sp off bs).rdv = s.rdv := rfl
@[simp] theorem storeBytes_bio (sp : Space) (off : Nat) (bs : List Byte) : (s.storeBytes sp off bs).bio = s.bio := rfl
@[simp] theorem storeBytes_dram (sp : Space) (off : Nat) (bs : List Byte) : (s.storeBytes sp off bs).dram = s.dram := rfl
@[simp] theorem storeBytes_dma (sp : Space) (off : Nat) (bs : List Byte) : (s.storeBytes sp off bs).dma = s.dma := rfl
@[simp] theorem storeBytes_saf (sp : Space) (off : Nat) (bs : List Byte) : (s.storeBytes sp off bs).saf = s.saf := rfl
@[simp] theorem storeBytes_snd (sp : Space) (off : Nat) (bs : List Byte) : (s.storeBytes sp off bs).snd = s.snd := rfl
@[simp] theorem storeBytes_bin (sp : Space) (off : Nat) (bs : List Byte) : (s.storeBytes sp off bs).bin = s.bin := rfl
@[simp] theorem storeBytes_boot (sp : Space) (off : Nat) (bs : List Byte) : (s.storeBytes sp off bs).boot = s.boot := rfl
@[simp] theorem storeBytes_pending (sp : Space) (off : Nat) (bs : List Byte) : (s.storeBytes sp off bs).pending = s.pending := rfl
@[simp] theorem storeBytes_rd (sp : Space) (off : Nat) (bs : List Byte) (k1 : Nat) : (s.storeBytes sp off bs).rd k1 = s.rd k1 := rfl
@[simp] theorem storeBytes_thread (sp : Space) (off : Nat) (bs : List Byte) (t1 : Nat) : (s.storeBytes sp off bs).thread t1 = s.thread t1 := rfl

/-! `State.setRep`. -/

@[simp] theorem setRep_variant (w : Bool) (r : Replica) : (s.setRep w r).variant = s.variant := rfl
@[simp] theorem setRep_now (w : Bool) (r : Replica) : (s.setRep w r).now = s.now := rfl
@[simp] theorem setRep_dict (w : Bool) (r : Replica) : (s.setRep w r).dict = s.dict := rfl
@[simp] theorem setRep_staged (w : Bool) (r : Replica) : (s.setRep w r).staged = s.staged := rfl
@[simp] theorem setRep_octets (w : Bool) (r : Replica) : (s.setRep w r).octets = s.octets := rfl
@[simp] theorem setRep_mem (w : Bool) (r : Replica) : (s.setRep w r).mem = s.mem := rfl
@[simp] theorem setRep_firsts (w : Bool) (r : Replica) : (s.setRep w r).firsts = s.firsts := rfl
@[simp] theorem setRep_freeCtr (w : Bool) (r : Replica) : (s.setRep w r).freeCtr = s.freeCtr := rfl
@[simp] theorem setRep_opStatus (w : Bool) (r : Replica) : (s.setRep w r).opStatus = s.opStatus := rfl
@[simp] theorem setRep_reply (w : Bool) (r : Replica) : (s.setRep w r).reply = s.reply := rfl
@[simp] theorem setRep_abort (w : Bool) (r : Replica) : (s.setRep w r).abort = s.abort := rfl
@[simp] theorem setRep_px (w : Bool) (r : Replica) : (s.setRep w r).px = s.px := rfl
@[simp] theorem setRep_pc (w : Bool) (r : Replica) : (s.setRep w r).pc = s.pc := rfl
@[simp] theorem setRep_orch (w : Bool) (r : Replica) : (s.setRep w r).orch = s.orch := rfl
@[simp] theorem setRep_lode (w : Bool) (r : Replica) : (s.setRep w r).lode = s.lode := rfl
@[simp] theorem setRep_chron (w : Bool) (r : Replica) : (s.setRep w r).chron = s.chron := rfl
@[simp] theorem setRep_tm (w : Bool) (r : Replica) : (s.setRep w r).tm = s.tm := rfl
@[simp] theorem setRep_alm (w : Bool) (r : Replica) : (s.setRep w r).alm = s.alm := rfl
@[simp] theorem setRep_trc (w : Bool) (r : Replica) : (s.setRep w r).trc = s.trc := rfl
@[simp] theorem setRep_uda (w : Bool) (r : Replica) : (s.setRep w r).uda = s.uda := rfl
@[simp] theorem setRep_disp (w : Bool) (r : Replica) : (s.setRep w r).disp = s.disp := rfl
@[simp] theorem setRep_oru (w : Bool) (r : Replica) : (s.setRep w r).oru = s.oru := rfl
@[simp] theorem setRep_cores (w : Bool) (r : Replica) : (s.setRep w r).cores = s.cores := rfl
@[simp] theorem setRep_rdv (w : Bool) (r : Replica) : (s.setRep w r).rdv = s.rdv := rfl
@[simp] theorem setRep_bio (w : Bool) (r : Replica) : (s.setRep w r).bio = s.bio := rfl
@[simp] theorem setRep_dram (w : Bool) (r : Replica) : (s.setRep w r).dram = s.dram := rfl
@[simp] theorem setRep_dma (w : Bool) (r : Replica) : (s.setRep w r).dma = s.dma := rfl
@[simp] theorem setRep_saf (w : Bool) (r : Replica) : (s.setRep w r).saf = s.saf := rfl
@[simp] theorem setRep_snd (w : Bool) (r : Replica) : (s.setRep w r).snd = s.snd := rfl
@[simp] theorem setRep_bin (w : Bool) (r : Replica) : (s.setRep w r).bin = s.bin := rfl
@[simp] theorem setRep_boot (w : Bool) (r : Replica) : (s.setRep w r).boot = s.boot := rfl
@[simp] theorem setRep_pending (w : Bool) (r : Replica) : (s.setRep w r).pending = s.pending := rfl
@[simp] theorem setRep_rd (w : Bool) (r : Replica) (k1 : Nat) : (s.setRep w r).rd k1 = s.rd k1 := rfl
@[simp] theorem setRep_thread (w : Bool) (r : Replica) (t1 : Nat) : (s.setRep w r).thread t1 = s.thread t1 := rfl

/-! `State.setCell`. -/

@[simp] theorem setCell_variant (h : Nat) (c : Cell) : (s.setCell h c).variant = s.variant := rfl
@[simp] theorem setCell_now (h : Nat) (c : Cell) : (s.setCell h c).now = s.now := rfl
@[simp] theorem setCell_dict (h : Nat) (c : Cell) : (s.setCell h c).dict = s.dict := rfl
@[simp] theorem setCell_staged (h : Nat) (c : Cell) : (s.setCell h c).staged = s.staged := rfl
@[simp] theorem setCell_octets (h : Nat) (c : Cell) : (s.setCell h c).octets = s.octets := rfl
@[simp] theorem setCell_firsts (h : Nat) (c : Cell) : (s.setCell h c).firsts = s.firsts := rfl
@[simp] theorem setCell_freeCtr (h : Nat) (c : Cell) : (s.setCell h c).freeCtr = s.freeCtr := rfl
@[simp] theorem setCell_opStatus (h : Nat) (c : Cell) : (s.setCell h c).opStatus = s.opStatus := rfl
@[simp] theorem setCell_reply (h : Nat) (c : Cell) : (s.setCell h c).reply = s.reply := rfl
@[simp] theorem setCell_abort (h : Nat) (c : Cell) : (s.setCell h c).abort = s.abort := rfl
@[simp] theorem setCell_px (h : Nat) (c : Cell) : (s.setCell h c).px = s.px := rfl
@[simp] theorem setCell_pc (h : Nat) (c : Cell) : (s.setCell h c).pc = s.pc := rfl
@[simp] theorem setCell_br (h : Nat) (c : Cell) : (s.setCell h c).br = s.br := rfl
@[simp] theorem setCell_lode (h : Nat) (c : Cell) : (s.setCell h c).lode = s.lode := rfl
@[simp] theorem setCell_chron (h : Nat) (c : Cell) : (s.setCell h c).chron = s.chron := rfl
@[simp] theorem setCell_tm (h : Nat) (c : Cell) : (s.setCell h c).tm = s.tm := rfl
@[simp] theorem setCell_alm (h : Nat) (c : Cell) : (s.setCell h c).alm = s.alm := rfl
@[simp] theorem setCell_trc (h : Nat) (c : Cell) : (s.setCell h c).trc = s.trc := rfl
@[simp] theorem setCell_uda (h : Nat) (c : Cell) : (s.setCell h c).uda = s.uda := rfl
@[simp] theorem setCell_disp (h : Nat) (c : Cell) : (s.setCell h c).disp = s.disp := rfl
@[simp] theorem setCell_oru (h : Nat) (c : Cell) : (s.setCell h c).oru = s.oru := rfl
@[simp] theorem setCell_cores (h : Nat) (c : Cell) : (s.setCell h c).cores = s.cores := rfl
@[simp] theorem setCell_rdv (h : Nat) (c : Cell) : (s.setCell h c).rdv = s.rdv := rfl
@[simp] theorem setCell_bio (h : Nat) (c : Cell) : (s.setCell h c).bio = s.bio := rfl
@[simp] theorem setCell_dram (h : Nat) (c : Cell) : (s.setCell h c).dram = s.dram := rfl
@[simp] theorem setCell_dma (h : Nat) (c : Cell) : (s.setCell h c).dma = s.dma := rfl
@[simp] theorem setCell_saf (h : Nat) (c : Cell) : (s.setCell h c).saf = s.saf := rfl
@[simp] theorem setCell_snd (h : Nat) (c : Cell) : (s.setCell h c).snd = s.snd := rfl
@[simp] theorem setCell_bin (h : Nat) (c : Cell) : (s.setCell h c).bin = s.bin := rfl
@[simp] theorem setCell_boot (h : Nat) (c : Cell) : (s.setCell h c).boot = s.boot := rfl
@[simp] theorem setCell_pending (h : Nat) (c : Cell) : (s.setCell h c).pending = s.pending := rfl
@[simp] theorem setCell_rd (h : Nat) (c : Cell) (k1 : Nat) : (s.setCell h c).rd k1 = s.rd k1 := rfl
theorem cell_setCell (h : Nat) (c : Cell) (h1 : Nat) : (s.setCell h c).cell h1 = if h1 = h then c else s.cell h1 := tget_tset ..
@[simp] theorem cell_setCell_self (h : Nat) (c : Cell) : (s.setCell h c).cell h = c := tget_tset_self ..
@[simp] theorem setCell_thread (h : Nat) (c : Cell) (t1 : Nat) : (s.setCell h c).thread t1 = s.thread t1 := rfl

/-! `State.setThread`. -/

@[simp] theorem setThread_variant (t : Nat) (x : Thread) : (s.setThread t x).variant = s.variant := rfl
@[simp] theorem setThread_now (t : Nat) (x : Thread) : (s.setThread t x).now = s.now := rfl
@[simp] theorem setThread_dict (t : Nat) (x : Thread) : (s.setThread t x).dict = s.dict := rfl
@[simp] theorem setThread_staged (t : Nat) (x : Thread) : (s.setThread t x).staged = s.staged := rfl
@[simp] theorem setThread_octets (t : Nat) (x : Thread) : (s.setThread t x).octets = s.octets := rfl
@[simp] theorem setThread_mem (t : Nat) (x : Thread) : (s.setThread t x).mem = s.mem := rfl
@[simp] theorem setThread_firsts (t : Nat) (x : Thread) : (s.setThread t x).firsts = s.firsts := rfl
@[simp] theorem setThread_freeCtr (t : Nat) (x : Thread) : (s.setThread t x).freeCtr = s.freeCtr := rfl
@[simp] theorem setThread_opStatus (t : Nat) (x : Thread) : (s.setThread t x).opStatus = s.opStatus := rfl
@[simp] theorem setThread_reply (t : Nat) (x : Thread) : (s.setThread t x).reply = s.reply := rfl
@[simp] theorem setThread_abort (t : Nat) (x : Thread) : (s.setThread t x).abort = s.abort := rfl
@[simp] theorem setThread_px (t : Nat) (x : Thread) : (s.setThread t x).px = s.px := rfl
@[simp] theorem setThread_pc (t : Nat) (x : Thread) : (s.setThread t x).pc = s.pc := rfl
@[simp] theorem setThread_br (t : Nat) (x : Thread) : (s.setThread t x).br = s.br := rfl
@[simp] theorem setThread_orch (t : Nat) (x : Thread) : (s.setThread t x).orch = s.orch := rfl
@[simp] theorem setThread_lode (t : Nat) (x : Thread) : (s.setThread t x).lode = s.lode := rfl
@[simp] theorem setThread_chron (t : Nat) (x : Thread) : (s.setThread t x).chron = s.chron := rfl
@[simp] theorem setThread_tm (t : Nat) (x : Thread) : (s.setThread t x).tm = s.tm := rfl
@[simp] theorem setThread_alm (t : Nat) (x : Thread) : (s.setThread t x).alm = s.alm := rfl
@[simp] theorem setThread_trc (t : Nat) (x : Thread) : (s.setThread t x).trc = s.trc := rfl
@[simp] theorem setThread_uda (t : Nat) (x : Thread) : (s.setThread t x).uda = s.uda := rfl
@[simp] theorem setThread_disp (t : Nat) (x : Thread) : (s.setThread t x).disp = s.disp := rfl
@[simp] theorem setThread_oru (t : Nat) (x : Thread) : (s.setThread t x).oru = s.oru := rfl
@[simp] theorem setThread_rdv (t : Nat) (x : Thread) : (s.setThread t x).rdv = s.rdv := rfl
@[simp] theorem setThread_bio (t : Nat) (x : Thread) : (s.setThread t x).bio = s.bio := rfl
@[simp] theorem setThread_dram (t : Nat) (x : Thread) : (s.setThread t x).dram = s.dram := rfl
@[simp] theorem setThread_dma (t : Nat) (x : Thread) : (s.setThread t x).dma = s.dma := rfl
@[simp] theorem setThread_saf (t : Nat) (x : Thread) : (s.setThread t x).saf = s.saf := rfl
@[simp] theorem setThread_snd (t : Nat) (x : Thread) : (s.setThread t x).snd = s.snd := rfl
@[simp] theorem setThread_bin (t : Nat) (x : Thread) : (s.setThread t x).bin = s.bin := rfl
@[simp] theorem setThread_boot (t : Nat) (x : Thread) : (s.setThread t x).boot = s.boot := rfl
@[simp] theorem setThread_pending (t : Nat) (x : Thread) : (s.setThread t x).pending = s.pending := rfl
@[simp] theorem setThread_rd (t : Nat) (x : Thread) (k1 : Nat) : (s.setThread t x).rd k1 = s.rd k1 := rfl
theorem thread_setThread (t : Nat) (x : Thread) (t1 : Nat) : (s.setThread t x).thread t1 = if t1 = t then x else s.thread t1 := tget_tset ..
@[simp] theorem thread_setThread_self (t : Nat) (x : Thread) : (s.setThread t x).thread t = x := tget_tset_self ..

/-! `State.setCore`. -/

@[simp] theorem setCore_variant (c : Nat) (x : Core) : (s.setCore c x).variant = s.variant := rfl
@[simp] theorem setCore_now (c : Nat) (x : Core) : (s.setCore c x).now = s.now := rfl
@[simp] theorem setCore_dict (c : Nat) (x : Core) : (s.setCore c x).dict = s.dict := rfl
@[simp] theorem setCore_staged (c : Nat) (x : Core) : (s.setCore c x).staged = s.staged := rfl
@[simp] theorem setCore_octets (c : Nat) (x : Core) : (s.setCore c x).octets = s.octets := rfl
@[simp] theorem setCore_mem (c : Nat) (x : Core) : (s.setCore c x).mem = s.mem := rfl
@[simp] theorem setCore_firsts (c : Nat) (x : Core) : (s.setCore c x).firsts = s.firsts := rfl
@[simp] theorem setCore_freeCtr (c : Nat) (x : Core) : (s.setCore c x).freeCtr = s.freeCtr := rfl
@[simp] theorem setCore_opStatus (c : Nat) (x : Core) : (s.setCore c x).opStatus = s.opStatus := rfl
@[simp] theorem setCore_reply (c : Nat) (x : Core) : (s.setCore c x).reply = s.reply := rfl
@[simp] theorem setCore_abort (c : Nat) (x : Core) : (s.setCore c x).abort = s.abort := rfl
@[simp] theorem setCore_px (c : Nat) (x : Core) : (s.setCore c x).px = s.px := rfl
@[simp] theorem setCore_pc (c : Nat) (x : Core) : (s.setCore c x).pc = s.pc := rfl
@[simp] theorem setCore_br (c : Nat) (x : Core) : (s.setCore c x).br = s.br := rfl
@[simp] theorem setCore_orch (c : Nat) (x : Core) : (s.setCore c x).orch = s.orch := rfl
@[simp] theorem setCore_lode (c : Nat) (x : Core) : (s.setCore c x).lode = s.lode := rfl
@[simp] theorem setCore_chron (c : Nat) (x : Core) : (s.setCore c x).chron = s.chron := rfl
@[simp] theorem setCore_tm (c : Nat) (x : Core) : (s.setCore c x).tm = s.tm := rfl
@[simp] theorem setCore_alm (c : Nat) (x : Core) : (s.setCore c x).alm = s.alm := rfl
@[simp] theorem setCore_trc (c : Nat) (x : Core) : (s.setCore c x).trc = s.trc := rfl
@[simp] theorem setCore_uda (c : Nat) (x : Core) : (s.setCore c x).uda = s.uda := rfl
@[simp] theorem setCore_disp (c : Nat) (x : Core) : (s.setCore c x).disp = s.disp := rfl
@[simp] theorem setCore_oru (c : Nat) (x : Core) : (s.setCore c x).oru = s.oru := rfl
@[simp] theorem setCore_rdv (c : Nat) (x : Core) : (s.setCore c x).rdv = s.rdv := rfl
@[simp] theorem setCore_bio (c : Nat) (x : Core) : (s.setCore c x).bio = s.bio := rfl
@[simp] theorem setCore_dram (c : Nat) (x : Core) : (s.setCore c x).dram = s.dram := rfl
@[simp] theorem setCore_dma (c : Nat) (x : Core) : (s.setCore c x).dma = s.dma := rfl
@[simp] theorem setCore_saf (c : Nat) (x : Core) : (s.setCore c x).saf = s.saf := rfl
@[simp] theorem setCore_snd (c : Nat) (x : Core) : (s.setCore c x).snd = s.snd := rfl
@[simp] theorem setCore_bin (c : Nat) (x : Core) : (s.setCore c x).bin = s.bin := rfl
@[simp] theorem setCore_boot (c : Nat) (x : Core) : (s.setCore c x).boot = s.boot := rfl
@[simp] theorem setCore_pending (c : Nat) (x : Core) : (s.setCore c x).pending = s.pending := rfl
@[simp] theorem setCore_rd (c : Nat) (x : Core) (k1 : Nat) : (s.setCore c x).rd k1 = s.rd k1 := rfl
@[simp] theorem setCore_thread (c : Nat) (x : Core) (t1 : Nat) : (s.setCore c x).thread t1 = s.thread t1 := rfl
theorem core_setCore (c : Nat) (x : Core) (c1 : Nat) : (s.setCore c x).core c1 = if c1 = c then x else s.core c1 := tget_tset ..
@[simp] theorem core_setCore_self (c : Nat) (x : Core) : (s.setCore c x).core c = x := tget_tset_self ..

/-! `State.reportFault`. -/

@[simp] theorem reportFault_variant (source unit : Nat) : (s.reportFault source unit).variant = s.variant := rfl
@[simp] theorem reportFault_now (source unit : Nat) : (s.reportFault source unit).now = s.now := rfl
@[simp] theorem reportFault_dict (source unit : Nat) : (s.reportFault source unit).dict = s.dict := rfl
@[simp] theorem reportFault_staged (source unit : Nat) : (s.reportFault source unit).staged = s.staged := rfl
@[simp] theorem reportFault_octets (source unit : Nat) : (s.reportFault source unit).octets = s.octets := rfl
@[simp] theorem reportFault_mem (source unit : Nat) : (s.reportFault source unit).mem = s.mem := rfl
@[simp] theorem reportFault_firsts (source unit : Nat) : (s.reportFault source unit).firsts = s.firsts := rfl
@[simp] theorem reportFault_freeCtr (source unit : Nat) : (s.reportFault source unit).freeCtr = s.freeCtr := rfl
@[simp] theorem reportFault_opStatus (source unit : Nat) : (s.reportFault source unit).opStatus = s.opStatus := rfl
@[simp] theorem reportFault_reply (source unit : Nat) : (s.reportFault source unit).reply = s.reply := rfl
@[simp] theorem reportFault_abort (source unit : Nat) : (s.reportFault source unit).abort = s.abort := rfl
@[simp] theorem reportFault_px (source unit : Nat) : (s.reportFault source unit).px = s.px := rfl
@[simp] theorem reportFault_pc (source unit : Nat) : (s.reportFault source unit).pc = s.pc := rfl
@[simp] theorem reportFault_br (source unit : Nat) : (s.reportFault source unit).br = s.br := rfl
@[simp] theorem reportFault_orch (source unit : Nat) : (s.reportFault source unit).orch = s.orch := rfl
@[simp] theorem reportFault_lode (source unit : Nat) : (s.reportFault source unit).lode = s.lode := rfl
@[simp] theorem reportFault_chron (source unit : Nat) : (s.reportFault source unit).chron = s.chron := rfl
@[simp] theorem reportFault_tm (source unit : Nat) : (s.reportFault source unit).tm = s.tm := rfl
@[simp] theorem reportFault_alm (source unit : Nat) : (s.reportFault source unit).alm = s.alm := rfl
@[simp] theorem reportFault_trc (source unit : Nat) : (s.reportFault source unit).trc = s.trc := rfl
@[simp] theorem reportFault_uda (source unit : Nat) : (s.reportFault source unit).uda = s.uda := rfl
@[simp] theorem reportFault_disp (source unit : Nat) : (s.reportFault source unit).disp = s.disp := rfl
@[simp] theorem reportFault_oru (source unit : Nat) : (s.reportFault source unit).oru = s.oru := rfl
@[simp] theorem reportFault_cores (source unit : Nat) : (s.reportFault source unit).cores = s.cores := rfl
@[simp] theorem reportFault_rdv (source unit : Nat) : (s.reportFault source unit).rdv = s.rdv := rfl
@[simp] theorem reportFault_bio (source unit : Nat) : (s.reportFault source unit).bio = s.bio := rfl
@[simp] theorem reportFault_dram (source unit : Nat) : (s.reportFault source unit).dram = s.dram := rfl
@[simp] theorem reportFault_dma (source unit : Nat) : (s.reportFault source unit).dma = s.dma := rfl
@[simp] theorem reportFault_snd (source unit : Nat) : (s.reportFault source unit).snd = s.snd := rfl
@[simp] theorem reportFault_bin (source unit : Nat) : (s.reportFault source unit).bin = s.bin := rfl
@[simp] theorem reportFault_boot (source unit : Nat) : (s.reportFault source unit).boot = s.boot := rfl
@[simp] theorem reportFault_pending (source unit : Nat) : (s.reportFault source unit).pending = s.pending := rfl
@[simp] theorem reportFault_rd (source unit : Nat) (k1 : Nat) : (s.reportFault source unit).rd k1 = s.rd k1 := rfl
@[simp] theorem reportFault_thread (source unit : Nat) (t1 : Nat) : (s.reportFault source unit).thread t1 = s.thread t1 := rfl

/-! `State.setLock`. -/

@[simp] theorem setLock_variant (l : Nat) (x : Lock) : (s.setLock l x).variant = s.variant := rfl
@[simp] theorem setLock_now (l : Nat) (x : Lock) : (s.setLock l x).now = s.now := rfl
@[simp] theorem setLock_dict (l : Nat) (x : Lock) : (s.setLock l x).dict = s.dict := rfl
@[simp] theorem setLock_staged (l : Nat) (x : Lock) : (s.setLock l x).staged = s.staged := rfl
@[simp] theorem setLock_octets (l : Nat) (x : Lock) : (s.setLock l x).octets = s.octets := rfl
@[simp] theorem setLock_mem (l : Nat) (x : Lock) : (s.setLock l x).mem = s.mem := rfl
@[simp] theorem setLock_firsts (l : Nat) (x : Lock) : (s.setLock l x).firsts = s.firsts := rfl
@[simp] theorem setLock_freeCtr (l : Nat) (x : Lock) : (s.setLock l x).freeCtr = s.freeCtr := rfl
@[simp] theorem setLock_opStatus (l : Nat) (x : Lock) : (s.setLock l x).opStatus = s.opStatus := rfl
@[simp] theorem setLock_reply (l : Nat) (x : Lock) : (s.setLock l x).reply = s.reply := rfl
@[simp] theorem setLock_abort (l : Nat) (x : Lock) : (s.setLock l x).abort = s.abort := rfl
@[simp] theorem setLock_px (l : Nat) (x : Lock) : (s.setLock l x).px = s.px := rfl
@[simp] theorem setLock_pc (l : Nat) (x : Lock) : (s.setLock l x).pc = s.pc := rfl
@[simp] theorem setLock_br (l : Nat) (x : Lock) : (s.setLock l x).br = s.br := rfl
@[simp] theorem setLock_orch (l : Nat) (x : Lock) : (s.setLock l x).orch = s.orch := rfl
@[simp] theorem setLock_lode (l : Nat) (x : Lock) : (s.setLock l x).lode = s.lode := rfl
@[simp] theorem setLock_chron (l : Nat) (x : Lock) : (s.setLock l x).chron = s.chron := rfl
@[simp] theorem setLock_tm (l : Nat) (x : Lock) : (s.setLock l x).tm = s.tm := rfl
@[simp] theorem setLock_alm (l : Nat) (x : Lock) : (s.setLock l x).alm = s.alm := rfl
@[simp] theorem setLock_trc (l : Nat) (x : Lock) : (s.setLock l x).trc = s.trc := rfl
@[simp] theorem setLock_uda (l : Nat) (x : Lock) : (s.setLock l x).uda = s.uda := rfl
@[simp] theorem setLock_disp (l : Nat) (x : Lock) : (s.setLock l x).disp = s.disp := rfl
@[simp] theorem setLock_oru (l : Nat) (x : Lock) : (s.setLock l x).oru = s.oru := rfl
@[simp] theorem setLock_cores (l : Nat) (x : Lock) : (s.setLock l x).cores = s.cores := rfl
@[simp] theorem setLock_bio (l : Nat) (x : Lock) : (s.setLock l x).bio = s.bio := rfl
@[simp] theorem setLock_dram (l : Nat) (x : Lock) : (s.setLock l x).dram = s.dram := rfl
@[simp] theorem setLock_dma (l : Nat) (x : Lock) : (s.setLock l x).dma = s.dma := rfl
@[simp] theorem setLock_saf (l : Nat) (x : Lock) : (s.setLock l x).saf = s.saf := rfl
@[simp] theorem setLock_snd (l : Nat) (x : Lock) : (s.setLock l x).snd = s.snd := rfl
@[simp] theorem setLock_bin (l : Nat) (x : Lock) : (s.setLock l x).bin = s.bin := rfl
@[simp] theorem setLock_boot (l : Nat) (x : Lock) : (s.setLock l x).boot = s.boot := rfl
@[simp] theorem setLock_pending (l : Nat) (x : Lock) : (s.setLock l x).pending = s.pending := rfl
@[simp] theorem setLock_rd (l : Nat) (x : Lock) (k1 : Nat) : (s.setLock l x).rd k1 = s.rd k1 := rfl
@[simp] theorem setLock_thread (l : Nat) (x : Lock) (t1 : Nat) : (s.setLock l x).thread t1 = s.thread t1 := rfl
theorem lock_setLock (l : Nat) (x : Lock) (l1 : Nat) : (s.setLock l x).lock l1 = if l1 = l then x else s.lock l1 := tget_tset ..
@[simp] theorem lock_setLock_self (l : Nat) (x : Lock) : (s.setLock l x).lock l = x := tget_tset_self ..

/-! `State.setSem`. -/

@[simp] theorem setSem_variant (n : Nat) (x : Sem) : (s.setSem n x).variant = s.variant := rfl
@[simp] theorem setSem_now (n : Nat) (x : Sem) : (s.setSem n x).now = s.now := rfl
@[simp] theorem setSem_dict (n : Nat) (x : Sem) : (s.setSem n x).dict = s.dict := rfl
@[simp] theorem setSem_staged (n : Nat) (x : Sem) : (s.setSem n x).staged = s.staged := rfl
@[simp] theorem setSem_octets (n : Nat) (x : Sem) : (s.setSem n x).octets = s.octets := rfl
@[simp] theorem setSem_mem (n : Nat) (x : Sem) : (s.setSem n x).mem = s.mem := rfl
@[simp] theorem setSem_firsts (n : Nat) (x : Sem) : (s.setSem n x).firsts = s.firsts := rfl
@[simp] theorem setSem_freeCtr (n : Nat) (x : Sem) : (s.setSem n x).freeCtr = s.freeCtr := rfl
@[simp] theorem setSem_opStatus (n : Nat) (x : Sem) : (s.setSem n x).opStatus = s.opStatus := rfl
@[simp] theorem setSem_reply (n : Nat) (x : Sem) : (s.setSem n x).reply = s.reply := rfl
@[simp] theorem setSem_abort (n : Nat) (x : Sem) : (s.setSem n x).abort = s.abort := rfl
@[simp] theorem setSem_px (n : Nat) (x : Sem) : (s.setSem n x).px = s.px := rfl
@[simp] theorem setSem_pc (n : Nat) (x : Sem) : (s.setSem n x).pc = s.pc := rfl
@[simp] theorem setSem_br (n : Nat) (x : Sem) : (s.setSem n x).br = s.br := rfl
@[simp] theorem setSem_orch (n : Nat) (x : Sem) : (s.setSem n x).orch = s.orch := rfl
@[simp] theorem setSem_lode (n : Nat) (x : Sem) : (s.setSem n x).lode = s.lode := rfl
@[simp] theorem setSem_chron (n : Nat) (x : Sem) : (s.setSem n x).chron = s.chron := rfl
@[simp] theorem setSem_tm (n : Nat) (x : Sem) : (s.setSem n x).tm = s.tm := rfl
@[simp] theorem setSem_alm (n : Nat) (x : Sem) : (s.setSem n x).alm = s.alm := rfl
@[simp] theorem setSem_trc (n : Nat) (x : Sem) : (s.setSem n x).trc = s.trc := rfl
@[simp] theorem setSem_uda (n : Nat) (x : Sem) : (s.setSem n x).uda = s.uda := rfl
@[simp] theorem setSem_disp (n : Nat) (x : Sem) : (s.setSem n x).disp = s.disp := rfl
@[simp] theorem setSem_oru (n : Nat) (x : Sem) : (s.setSem n x).oru = s.oru := rfl
@[simp] theorem setSem_cores (n : Nat) (x : Sem) : (s.setSem n x).cores = s.cores := rfl
@[simp] theorem setSem_bio (n : Nat) (x : Sem) : (s.setSem n x).bio = s.bio := rfl
@[simp] theorem setSem_dram (n : Nat) (x : Sem) : (s.setSem n x).dram = s.dram := rfl
@[simp] theorem setSem_dma (n : Nat) (x : Sem) : (s.setSem n x).dma = s.dma := rfl
@[simp] theorem setSem_saf (n : Nat) (x : Sem) : (s.setSem n x).saf = s.saf := rfl
@[simp] theorem setSem_snd (n : Nat) (x : Sem) : (s.setSem n x).snd = s.snd := rfl
@[simp] theorem setSem_bin (n : Nat) (x : Sem) : (s.setSem n x).bin = s.bin := rfl
@[simp] theorem setSem_boot (n : Nat) (x : Sem) : (s.setSem n x).boot = s.boot := rfl
@[simp] theorem setSem_pending (n : Nat) (x : Sem) : (s.setSem n x).pending = s.pending := rfl
@[simp] theorem setSem_rd (n : Nat) (x : Sem) (k1 : Nat) : (s.setSem n x).rd k1 = s.rd k1 := rfl
@[simp] theorem setSem_thread (n : Nat) (x : Sem) (t1 : Nat) : (s.setSem n x).thread t1 = s.thread t1 := rfl
theorem sem_setSem (n : Nat) (x : Sem) (n1 : Nat) : (s.setSem n x).sem n1 = if n1 = n then x else s.sem n1 := tget_tset ..
@[simp] theorem sem_setSem_self (n : Nat) (x : Sem) : (s.setSem n x).sem n = x := tget_tset_self ..

/-! `State.setRdvChan`. -/

@[simp] theorem setRdvChan_variant (c : Nat) (x : Chan) : (s.setRdvChan c x).variant = s.variant := rfl
@[simp] theorem setRdvChan_now (c : Nat) (x : Chan) : (s.setRdvChan c x).now = s.now := rfl
@[simp] theorem setRdvChan_dict (c : Nat) (x : Chan) : (s.setRdvChan c x).dict = s.dict := rfl
@[simp] theorem setRdvChan_staged (c : Nat) (x : Chan) : (s.setRdvChan c x).staged = s.staged := rfl
@[simp] theorem setRdvChan_octets (c : Nat) (x : Chan) : (s.setRdvChan c x).octets = s.octets := rfl
@[simp] theorem setRdvChan_mem (c : Nat) (x : Chan) : (s.setRdvChan c x).mem = s.mem := rfl
@[simp] theorem setRdvChan_firsts (c : Nat) (x : Chan) : (s.setRdvChan c x).firsts = s.firsts := rfl
@[simp] theorem setRdvChan_freeCtr (c : Nat) (x : Chan) : (s.setRdvChan c x).freeCtr = s.freeCtr := rfl
@[simp] theorem setRdvChan_opStatus (c : Nat) (x : Chan) : (s.setRdvChan c x).opStatus = s.opStatus := rfl
@[simp] theorem setRdvChan_reply (c : Nat) (x : Chan) : (s.setRdvChan c x).reply = s.reply := rfl
@[simp] theorem setRdvChan_abort (c : Nat) (x : Chan) : (s.setRdvChan c x).abort = s.abort := rfl
@[simp] theorem setRdvChan_px (c : Nat) (x : Chan) : (s.setRdvChan c x).px = s.px := rfl
@[simp] theorem setRdvChan_pc (c : Nat) (x : Chan) : (s.setRdvChan c x).pc = s.pc := rfl
@[simp] theorem setRdvChan_br (c : Nat) (x : Chan) : (s.setRdvChan c x).br = s.br := rfl
@[simp] theorem setRdvChan_orch (c : Nat) (x : Chan) : (s.setRdvChan c x).orch = s.orch := rfl
@[simp] theorem setRdvChan_lode (c : Nat) (x : Chan) : (s.setRdvChan c x).lode = s.lode := rfl
@[simp] theorem setRdvChan_chron (c : Nat) (x : Chan) : (s.setRdvChan c x).chron = s.chron := rfl
@[simp] theorem setRdvChan_tm (c : Nat) (x : Chan) : (s.setRdvChan c x).tm = s.tm := rfl
@[simp] theorem setRdvChan_alm (c : Nat) (x : Chan) : (s.setRdvChan c x).alm = s.alm := rfl
@[simp] theorem setRdvChan_trc (c : Nat) (x : Chan) : (s.setRdvChan c x).trc = s.trc := rfl
@[simp] theorem setRdvChan_uda (c : Nat) (x : Chan) : (s.setRdvChan c x).uda = s.uda := rfl
@[simp] theorem setRdvChan_disp (c : Nat) (x : Chan) : (s.setRdvChan c x).disp = s.disp := rfl
@[simp] theorem setRdvChan_oru (c : Nat) (x : Chan) : (s.setRdvChan c x).oru = s.oru := rfl
@[simp] theorem setRdvChan_cores (c : Nat) (x : Chan) : (s.setRdvChan c x).cores = s.cores := rfl
@[simp] theorem setRdvChan_bio (c : Nat) (x : Chan) : (s.setRdvChan c x).bio = s.bio := rfl
@[simp] theorem setRdvChan_dram (c : Nat) (x : Chan) : (s.setRdvChan c x).dram = s.dram := rfl
@[simp] theorem setRdvChan_dma (c : Nat) (x : Chan) : (s.setRdvChan c x).dma = s.dma := rfl
@[simp] theorem setRdvChan_saf (c : Nat) (x : Chan) : (s.setRdvChan c x).saf = s.saf := rfl
@[simp] theorem setRdvChan_snd (c : Nat) (x : Chan) : (s.setRdvChan c x).snd = s.snd := rfl
@[simp] theorem setRdvChan_bin (c : Nat) (x : Chan) : (s.setRdvChan c x).bin = s.bin := rfl
@[simp] theorem setRdvChan_boot (c : Nat) (x : Chan) : (s.setRdvChan c x).boot = s.boot := rfl
@[simp] theorem setRdvChan_pending (c : Nat) (x : Chan) : (s.setRdvChan c x).pending = s.pending := rfl
@[simp] theorem setRdvChan_rd (c : Nat) (x : Chan) (k1 : Nat) : (s.setRdvChan c x).rd k1 = s.rd k1 := rfl
@[simp] theorem setRdvChan_thread (c : Nat) (x : Chan) (t1 : Nat) : (s.setRdvChan c x).thread t1 = s.thread t1 := rfl
theorem rdvChan_setRdvChan (c : Nat) (x : Chan) (c1 : Nat) : (s.setRdvChan c x).rdvChan c1 = if c1 = c then x else s.rdvChan c1 := tget_tset ..
@[simp] theorem rdvChan_setRdvChan_self (c : Nat) (x : Chan) : (s.setRdvChan c x).rdvChan c = x := tget_tset_self ..

/-! `State.setEvbit`. -/

@[simp] theorem setEvbit_variant (e : Nat) (x : EvBit) : (s.setEvbit e x).variant = s.variant := rfl
@[simp] theorem setEvbit_now (e : Nat) (x : EvBit) : (s.setEvbit e x).now = s.now := rfl
@[simp] theorem setEvbit_dict (e : Nat) (x : EvBit) : (s.setEvbit e x).dict = s.dict := rfl
@[simp] theorem setEvbit_staged (e : Nat) (x : EvBit) : (s.setEvbit e x).staged = s.staged := rfl
@[simp] theorem setEvbit_octets (e : Nat) (x : EvBit) : (s.setEvbit e x).octets = s.octets := rfl
@[simp] theorem setEvbit_mem (e : Nat) (x : EvBit) : (s.setEvbit e x).mem = s.mem := rfl
@[simp] theorem setEvbit_firsts (e : Nat) (x : EvBit) : (s.setEvbit e x).firsts = s.firsts := rfl
@[simp] theorem setEvbit_freeCtr (e : Nat) (x : EvBit) : (s.setEvbit e x).freeCtr = s.freeCtr := rfl
@[simp] theorem setEvbit_opStatus (e : Nat) (x : EvBit) : (s.setEvbit e x).opStatus = s.opStatus := rfl
@[simp] theorem setEvbit_reply (e : Nat) (x : EvBit) : (s.setEvbit e x).reply = s.reply := rfl
@[simp] theorem setEvbit_abort (e : Nat) (x : EvBit) : (s.setEvbit e x).abort = s.abort := rfl
@[simp] theorem setEvbit_px (e : Nat) (x : EvBit) : (s.setEvbit e x).px = s.px := rfl
@[simp] theorem setEvbit_pc (e : Nat) (x : EvBit) : (s.setEvbit e x).pc = s.pc := rfl
@[simp] theorem setEvbit_br (e : Nat) (x : EvBit) : (s.setEvbit e x).br = s.br := rfl
@[simp] theorem setEvbit_orch (e : Nat) (x : EvBit) : (s.setEvbit e x).orch = s.orch := rfl
@[simp] theorem setEvbit_lode (e : Nat) (x : EvBit) : (s.setEvbit e x).lode = s.lode := rfl
@[simp] theorem setEvbit_chron (e : Nat) (x : EvBit) : (s.setEvbit e x).chron = s.chron := rfl
@[simp] theorem setEvbit_tm (e : Nat) (x : EvBit) : (s.setEvbit e x).tm = s.tm := rfl
@[simp] theorem setEvbit_alm (e : Nat) (x : EvBit) : (s.setEvbit e x).alm = s.alm := rfl
@[simp] theorem setEvbit_trc (e : Nat) (x : EvBit) : (s.setEvbit e x).trc = s.trc := rfl
@[simp] theorem setEvbit_uda (e : Nat) (x : EvBit) : (s.setEvbit e x).uda = s.uda := rfl
@[simp] theorem setEvbit_disp (e : Nat) (x : EvBit) : (s.setEvbit e x).disp = s.disp := rfl
@[simp] theorem setEvbit_oru (e : Nat) (x : EvBit) : (s.setEvbit e x).oru = s.oru := rfl
@[simp] theorem setEvbit_cores (e : Nat) (x : EvBit) : (s.setEvbit e x).cores = s.cores := rfl
@[simp] theorem setEvbit_bio (e : Nat) (x : EvBit) : (s.setEvbit e x).bio = s.bio := rfl
@[simp] theorem setEvbit_dram (e : Nat) (x : EvBit) : (s.setEvbit e x).dram = s.dram := rfl
@[simp] theorem setEvbit_dma (e : Nat) (x : EvBit) : (s.setEvbit e x).dma = s.dma := rfl
@[simp] theorem setEvbit_saf (e : Nat) (x : EvBit) : (s.setEvbit e x).saf = s.saf := rfl
@[simp] theorem setEvbit_snd (e : Nat) (x : EvBit) : (s.setEvbit e x).snd = s.snd := rfl
@[simp] theorem setEvbit_bin (e : Nat) (x : EvBit) : (s.setEvbit e x).bin = s.bin := rfl
@[simp] theorem setEvbit_boot (e : Nat) (x : EvBit) : (s.setEvbit e x).boot = s.boot := rfl
@[simp] theorem setEvbit_pending (e : Nat) (x : EvBit) : (s.setEvbit e x).pending = s.pending := rfl
@[simp] theorem setEvbit_rd (e : Nat) (x : EvBit) (k1 : Nat) : (s.setEvbit e x).rd k1 = s.rd k1 := rfl
@[simp] theorem setEvbit_thread (e : Nat) (x : EvBit) (t1 : Nat) : (s.setEvbit e x).thread t1 = s.thread t1 := rfl
theorem evbit_setEvbit (e : Nat) (x : EvBit) (e1 : Nat) : (s.setEvbit e x).evbit e1 = if e1 = e then x else s.evbit e1 := tget_tset ..
@[simp] theorem evbit_setEvbit_self (e : Nat) (x : EvBit) : (s.setEvbit e x).evbit e = x := tget_tset_self ..

/-! `State.setSubs`. -/

@[simp] theorem setSubs_variant (t : Nat) (second : Bool) (l : List Nat) : (s.setSubs t second l).variant = s.variant := rfl
@[simp] theorem setSubs_now (t : Nat) (second : Bool) (l : List Nat) : (s.setSubs t second l).now = s.now := rfl
@[simp] theorem setSubs_dict (t : Nat) (second : Bool) (l : List Nat) : (s.setSubs t second l).dict = s.dict := rfl
@[simp] theorem setSubs_staged (t : Nat) (second : Bool) (l : List Nat) : (s.setSubs t second l).staged = s.staged := rfl
@[simp] theorem setSubs_octets (t : Nat) (second : Bool) (l : List Nat) : (s.setSubs t second l).octets = s.octets := rfl
@[simp] theorem setSubs_mem (t : Nat) (second : Bool) (l : List Nat) : (s.setSubs t second l).mem = s.mem := rfl
@[simp] theorem setSubs_firsts (t : Nat) (second : Bool) (l : List Nat) : (s.setSubs t second l).firsts = s.firsts := rfl
@[simp] theorem setSubs_freeCtr (t : Nat) (second : Bool) (l : List Nat) : (s.setSubs t second l).freeCtr = s.freeCtr := rfl
@[simp] theorem setSubs_opStatus (t : Nat) (second : Bool) (l : List Nat) : (s.setSubs t second l).opStatus = s.opStatus := rfl
@[simp] theorem setSubs_reply (t : Nat) (second : Bool) (l : List Nat) : (s.setSubs t second l).reply = s.reply := rfl
@[simp] theorem setSubs_abort (t : Nat) (second : Bool) (l : List Nat) : (s.setSubs t second l).abort = s.abort := rfl
@[simp] theorem setSubs_px (t : Nat) (second : Bool) (l : List Nat) : (s.setSubs t second l).px = s.px := rfl
@[simp] theorem setSubs_pc (t : Nat) (second : Bool) (l : List Nat) : (s.setSubs t second l).pc = s.pc := rfl
@[simp] theorem setSubs_br (t : Nat) (second : Bool) (l : List Nat) : (s.setSubs t second l).br = s.br := rfl
@[simp] theorem setSubs_orch (t : Nat) (second : Bool) (l : List Nat) : (s.setSubs t second l).orch = s.orch := rfl
@[simp] theorem setSubs_lode (t : Nat) (second : Bool) (l : List Nat) : (s.setSubs t second l).lode = s.lode := rfl
@[simp] theorem setSubs_chron (t : Nat) (second : Bool) (l : List Nat) : (s.setSubs t second l).chron = s.chron := rfl
@[simp] theorem setSubs_tm (t : Nat) (second : Bool) (l : List Nat) : (s.setSubs t second l).tm = s.tm := rfl
@[simp] theorem setSubs_alm (t : Nat) (second : Bool) (l : List Nat) : (s.setSubs t second l).alm = s.alm := rfl
@[simp] theorem setSubs_trc (t : Nat) (second : Bool) (l : List Nat) : (s.setSubs t second l).trc = s.trc := rfl
@[simp] theorem setSubs_uda (t : Nat) (second : Bool) (l : List Nat) : (s.setSubs t second l).uda = s.uda := rfl
@[simp] theorem setSubs_disp (t : Nat) (second : Bool) (l : List Nat) : (s.setSubs t second l).disp = s.disp := rfl
@[simp] theorem setSubs_oru (t : Nat) (second : Bool) (l : List Nat) : (s.setSubs t second l).oru = s.oru := rfl
@[simp] theorem setSubs_cores (t : Nat) (second : Bool) (l : List Nat) : (s.setSubs t second l).cores = s.cores := rfl
@[simp] theorem setSubs_bio (t : Nat) (second : Bool) (l : List Nat) : (s.setSubs t second l).bio = s.bio := rfl
@[simp] theorem setSubs_dram (t : Nat) (second : Bool) (l : List Nat) : (s.setSubs t second l).dram = s.dram := rfl
@[simp] theorem setSubs_dma (t : Nat) (second : Bool) (l : List Nat) : (s.setSubs t second l).dma = s.dma := rfl
@[simp] theorem setSubs_saf (t : Nat) (second : Bool) (l : List Nat) : (s.setSubs t second l).saf = s.saf := rfl
@[simp] theorem setSubs_snd (t : Nat) (second : Bool) (l : List Nat) : (s.setSubs t second l).snd = s.snd := rfl
@[simp] theorem setSubs_bin (t : Nat) (second : Bool) (l : List Nat) : (s.setSubs t second l).bin = s.bin := rfl
@[simp] theorem setSubs_boot (t : Nat) (second : Bool) (l : List Nat) : (s.setSubs t second l).boot = s.boot := rfl
@[simp] theorem setSubs_pending (t : Nat) (second : Bool) (l : List Nat) : (s.setSubs t second l).pending = s.pending := rfl
@[simp] theorem setSubs_rd (t : Nat) (second : Bool) (l : List Nat) (k1 : Nat) : (s.setSubs t second l).rd k1 = s.rd k1 := rfl
@[simp] theorem setSubs_thread (t : Nat) (second : Bool) (l : List Nat) (t1 : Nat) : (s.setSubs t second l).thread t1 = s.thread t1 := rfl

/-! `State.setJentry`. -/

@[simp] theorem setJentry_variant (j : Nat) (e : JEntry) : (s.setJentry j e).variant = s.variant := rfl
@[simp] theorem setJentry_now (j : Nat) (e : JEntry) : (s.setJentry j e).now = s.now := rfl
@[simp] theorem setJentry_dict (j : Nat) (e : JEntry) : (s.setJentry j e).dict = s.dict := rfl
@[simp] theorem setJentry_staged (j : Nat) (e : JEntry) : (s.setJentry j e).staged = s.staged := rfl
@[simp] theorem setJentry_octets (j : Nat) (e : JEntry) : (s.setJentry j e).octets = s.octets := rfl
@[simp] theorem setJentry_mem (j : Nat) (e : JEntry) : (s.setJentry j e).mem = s.mem := rfl
@[simp] theorem setJentry_firsts (j : Nat) (e : JEntry) : (s.setJentry j e).firsts = s.firsts := rfl
@[simp] theorem setJentry_freeCtr (j : Nat) (e : JEntry) : (s.setJentry j e).freeCtr = s.freeCtr := rfl
@[simp] theorem setJentry_opStatus (j : Nat) (e : JEntry) : (s.setJentry j e).opStatus = s.opStatus := rfl
@[simp] theorem setJentry_reply (j : Nat) (e : JEntry) : (s.setJentry j e).reply = s.reply := rfl
@[simp] theorem setJentry_abort (j : Nat) (e : JEntry) : (s.setJentry j e).abort = s.abort := rfl
@[simp] theorem setJentry_px (j : Nat) (e : JEntry) : (s.setJentry j e).px = s.px := rfl
@[simp] theorem setJentry_pc (j : Nat) (e : JEntry) : (s.setJentry j e).pc = s.pc := rfl
@[simp] theorem setJentry_br (j : Nat) (e : JEntry) : (s.setJentry j e).br = s.br := rfl
@[simp] theorem setJentry_orch (j : Nat) (e : JEntry) : (s.setJentry j e).orch = s.orch := rfl
@[simp] theorem setJentry_lode (j : Nat) (e : JEntry) : (s.setJentry j e).lode = s.lode := rfl
@[simp] theorem setJentry_chron (j : Nat) (e : JEntry) : (s.setJentry j e).chron = s.chron := rfl
@[simp] theorem setJentry_tm (j : Nat) (e : JEntry) : (s.setJentry j e).tm = s.tm := rfl
@[simp] theorem setJentry_alm (j : Nat) (e : JEntry) : (s.setJentry j e).alm = s.alm := rfl
@[simp] theorem setJentry_trc (j : Nat) (e : JEntry) : (s.setJentry j e).trc = s.trc := rfl
@[simp] theorem setJentry_uda (j : Nat) (e : JEntry) : (s.setJentry j e).uda = s.uda := rfl
@[simp] theorem setJentry_disp (j : Nat) (e : JEntry) : (s.setJentry j e).disp = s.disp := rfl
@[simp] theorem setJentry_cores (j : Nat) (e : JEntry) : (s.setJentry j e).cores = s.cores := rfl
@[simp] theorem setJentry_rdv (j : Nat) (e : JEntry) : (s.setJentry j e).rdv = s.rdv := rfl
@[simp] theorem setJentry_bio (j : Nat) (e : JEntry) : (s.setJentry j e).bio = s.bio := rfl
@[simp] theorem setJentry_dram (j : Nat) (e : JEntry) : (s.setJentry j e).dram = s.dram := rfl
@[simp] theorem setJentry_dma (j : Nat) (e : JEntry) : (s.setJentry j e).dma = s.dma := rfl
@[simp] theorem setJentry_saf (j : Nat) (e : JEntry) : (s.setJentry j e).saf = s.saf := rfl
@[simp] theorem setJentry_snd (j : Nat) (e : JEntry) : (s.setJentry j e).snd = s.snd := rfl
@[simp] theorem setJentry_bin (j : Nat) (e : JEntry) : (s.setJentry j e).bin = s.bin := rfl
@[simp] theorem setJentry_boot (j : Nat) (e : JEntry) : (s.setJentry j e).boot = s.boot := rfl
@[simp] theorem setJentry_pending (j : Nat) (e : JEntry) : (s.setJentry j e).pending = s.pending := rfl
@[simp] theorem setJentry_rd (j : Nat) (e : JEntry) (k1 : Nat) : (s.setJentry j e).rd k1 = s.rd k1 := rfl
@[simp] theorem setJentry_thread (j : Nat) (e : JEntry) (t1 : Nat) : (s.setJentry j e).thread t1 = s.thread t1 := rfl
theorem jentry_setJentry (j : Nat) (e : JEntry) (j1 : Nat) : (s.setJentry j e).jentry j1 = if j1 = j then e else s.jentry j1 := tget_tset ..
@[simp] theorem jentry_setJentry_self (j : Nat) (e : JEntry) : (s.setJentry j e).jentry j = e := tget_tset_self ..

/-! `State.setPort`. -/

@[simp] theorem setPort_variant (p : Nat) (x : Port) : (s.setPort p x).variant = s.variant := rfl
@[simp] theorem setPort_now (p : Nat) (x : Port) : (s.setPort p x).now = s.now := rfl
@[simp] theorem setPort_dict (p : Nat) (x : Port) : (s.setPort p x).dict = s.dict := rfl
@[simp] theorem setPort_staged (p : Nat) (x : Port) : (s.setPort p x).staged = s.staged := rfl
@[simp] theorem setPort_octets (p : Nat) (x : Port) : (s.setPort p x).octets = s.octets := rfl
@[simp] theorem setPort_mem (p : Nat) (x : Port) : (s.setPort p x).mem = s.mem := rfl
@[simp] theorem setPort_firsts (p : Nat) (x : Port) : (s.setPort p x).firsts = s.firsts := rfl
@[simp] theorem setPort_freeCtr (p : Nat) (x : Port) : (s.setPort p x).freeCtr = s.freeCtr := rfl
@[simp] theorem setPort_opStatus (p : Nat) (x : Port) : (s.setPort p x).opStatus = s.opStatus := rfl
@[simp] theorem setPort_reply (p : Nat) (x : Port) : (s.setPort p x).reply = s.reply := rfl
@[simp] theorem setPort_abort (p : Nat) (x : Port) : (s.setPort p x).abort = s.abort := rfl
@[simp] theorem setPort_pc (p : Nat) (x : Port) : (s.setPort p x).pc = s.pc := rfl
@[simp] theorem setPort_br (p : Nat) (x : Port) : (s.setPort p x).br = s.br := rfl
@[simp] theorem setPort_orch (p : Nat) (x : Port) : (s.setPort p x).orch = s.orch := rfl
@[simp] theorem setPort_lode (p : Nat) (x : Port) : (s.setPort p x).lode = s.lode := rfl
@[simp] theorem setPort_chron (p : Nat) (x : Port) : (s.setPort p x).chron = s.chron := rfl
@[simp] theorem setPort_tm (p : Nat) (x : Port) : (s.setPort p x).tm = s.tm := rfl
@[simp] theorem setPort_alm (p : Nat) (x : Port) : (s.setPort p x).alm = s.alm := rfl
@[simp] theorem setPort_trc (p : Nat) (x : Port) : (s.setPort p x).trc = s.trc := rfl
@[simp] theorem setPort_uda (p : Nat) (x : Port) : (s.setPort p x).uda = s.uda := rfl
@[simp] theorem setPort_disp (p : Nat) (x : Port) : (s.setPort p x).disp = s.disp := rfl
@[simp] theorem setPort_oru (p : Nat) (x : Port) : (s.setPort p x).oru = s.oru := rfl
@[simp] theorem setPort_cores (p : Nat) (x : Port) : (s.setPort p x).cores = s.cores := rfl
@[simp] theorem setPort_rdv (p : Nat) (x : Port) : (s.setPort p x).rdv = s.rdv := rfl
@[simp] theorem setPort_bio (p : Nat) (x : Port) : (s.setPort p x).bio = s.bio := rfl
@[simp] theorem setPort_dram (p : Nat) (x : Port) : (s.setPort p x).dram = s.dram := rfl
@[simp] theorem setPort_dma (p : Nat) (x : Port) : (s.setPort p x).dma = s.dma := rfl
@[simp] theorem setPort_saf (p : Nat) (x : Port) : (s.setPort p x).saf = s.saf := rfl
@[simp] theorem setPort_snd (p : Nat) (x : Port) : (s.setPort p x).snd = s.snd := rfl
@[simp] theorem setPort_bin (p : Nat) (x : Port) : (s.setPort p x).bin = s.bin := rfl
@[simp] theorem setPort_boot (p : Nat) (x : Port) : (s.setPort p x).boot = s.boot := rfl
@[simp] theorem setPort_pending (p : Nat) (x : Port) : (s.setPort p x).pending = s.pending := rfl
@[simp] theorem setPort_rd (p : Nat) (x : Port) (k1 : Nat) : (s.setPort p x).rd k1 = s.rd k1 := rfl
@[simp] theorem setPort_thread (p : Nat) (x : Port) (t1 : Nat) : (s.setPort p x).thread t1 = s.thread t1 := rfl
theorem port_setPort (p : Nat) (x : Port) (p1 : Nat) : (s.setPort p x).port p1 = if p1 = p then x else s.port p1 := tget_tset ..
@[simp] theorem port_setPort_self (p : Nat) (x : Port) : (s.setPort p x).port p = x := tget_tset_self ..

/-! `State.setParsedQ`. -/

@[simp] theorem setParsedQ_variant (p : Nat) (q : List Parsed) : (s.setParsedQ p q).variant = s.variant := rfl
@[simp] theorem setParsedQ_now (p : Nat) (q : List Parsed) : (s.setParsedQ p q).now = s.now := rfl
@[simp] theorem setParsedQ_dict (p : Nat) (q : List Parsed) : (s.setParsedQ p q).dict = s.dict := rfl
@[simp] theorem setParsedQ_staged (p : Nat) (q : List Parsed) : (s.setParsedQ p q).staged = s.staged := rfl
@[simp] theorem setParsedQ_octets (p : Nat) (q : List Parsed) : (s.setParsedQ p q).octets = s.octets := rfl
@[simp] theorem setParsedQ_mem (p : Nat) (q : List Parsed) : (s.setParsedQ p q).mem = s.mem := rfl
@[simp] theorem setParsedQ_firsts (p : Nat) (q : List Parsed) : (s.setParsedQ p q).firsts = s.firsts := rfl
@[simp] theorem setParsedQ_freeCtr (p : Nat) (q : List Parsed) : (s.setParsedQ p q).freeCtr = s.freeCtr := rfl
@[simp] theorem setParsedQ_opStatus (p : Nat) (q : List Parsed) : (s.setParsedQ p q).opStatus = s.opStatus := rfl
@[simp] theorem setParsedQ_reply (p : Nat) (q : List Parsed) : (s.setParsedQ p q).reply = s.reply := rfl
@[simp] theorem setParsedQ_abort (p : Nat) (q : List Parsed) : (s.setParsedQ p q).abort = s.abort := rfl
@[simp] theorem setParsedQ_px (p : Nat) (q : List Parsed) : (s.setParsedQ p q).px = s.px := rfl
@[simp] theorem setParsedQ_br (p : Nat) (q : List Parsed) : (s.setParsedQ p q).br = s.br := rfl
@[simp] theorem setParsedQ_orch (p : Nat) (q : List Parsed) : (s.setParsedQ p q).orch = s.orch := rfl
@[simp] theorem setParsedQ_lode (p : Nat) (q : List Parsed) : (s.setParsedQ p q).lode = s.lode := rfl
@[simp] theorem setParsedQ_chron (p : Nat) (q : List Parsed) : (s.setParsedQ p q).chron = s.chron := rfl
@[simp] theorem setParsedQ_tm (p : Nat) (q : List Parsed) : (s.setParsedQ p q).tm = s.tm := rfl
@[simp] theorem setParsedQ_alm (p : Nat) (q : List Parsed) : (s.setParsedQ p q).alm = s.alm := rfl
@[simp] theorem setParsedQ_trc (p : Nat) (q : List Parsed) : (s.setParsedQ p q).trc = s.trc := rfl
@[simp] theorem setParsedQ_uda (p : Nat) (q : List Parsed) : (s.setParsedQ p q).uda = s.uda := rfl
@[simp] theorem setParsedQ_disp (p : Nat) (q : List Parsed) : (s.setParsedQ p q).disp = s.disp := rfl
@[simp] theorem setParsedQ_oru (p : Nat) (q : List Parsed) : (s.setParsedQ p q).oru = s.oru := rfl
@[simp] theorem setParsedQ_cores (p : Nat) (q : List Parsed) : (s.setParsedQ p q).cores = s.cores := rfl
@[simp] theorem setParsedQ_rdv (p : Nat) (q : List Parsed) : (s.setParsedQ p q).rdv = s.rdv := rfl
@[simp] theorem setParsedQ_bio (p : Nat) (q : List Parsed) : (s.setParsedQ p q).bio = s.bio := rfl
@[simp] theorem setParsedQ_dram (p : Nat) (q : List Parsed) : (s.setParsedQ p q).dram = s.dram := rfl
@[simp] theorem setParsedQ_dma (p : Nat) (q : List Parsed) : (s.setParsedQ p q).dma = s.dma := rfl
@[simp] theorem setParsedQ_saf (p : Nat) (q : List Parsed) : (s.setParsedQ p q).saf = s.saf := rfl
@[simp] theorem setParsedQ_snd (p : Nat) (q : List Parsed) : (s.setParsedQ p q).snd = s.snd := rfl
@[simp] theorem setParsedQ_bin (p : Nat) (q : List Parsed) : (s.setParsedQ p q).bin = s.bin := rfl
@[simp] theorem setParsedQ_boot (p : Nat) (q : List Parsed) : (s.setParsedQ p q).boot = s.boot := rfl
@[simp] theorem setParsedQ_pending (p : Nat) (q : List Parsed) : (s.setParsedQ p q).pending = s.pending := rfl
@[simp] theorem setParsedQ_rd (p : Nat) (q : List Parsed) (k1 : Nat) : (s.setParsedQ p q).rd k1 = s.rd k1 := rfl
@[simp] theorem setParsedQ_thread (p : Nat) (q : List Parsed) (t1 : Nat) : (s.setParsedQ p q).thread t1 = s.thread t1 := rfl
theorem parsedQ_setParsedQ (p : Nat) (q : List Parsed) (p1 : Nat) : (s.setParsedQ p q).parsedQ p1 = if p1 = p then q else s.parsedQ p1 := tget_tset ..
@[simp] theorem parsedQ_setParsedQ_self (p : Nat) (q : List Parsed) : (s.setParsedQ p q).parsedQ p = q := tget_tset_self ..

/-! `State.setOutQ`. -/

@[simp] theorem setOutQ_variant (p : Nat) (q : List OutDesc) : (s.setOutQ p q).variant = s.variant := rfl
@[simp] theorem setOutQ_now (p : Nat) (q : List OutDesc) : (s.setOutQ p q).now = s.now := rfl
@[simp] theorem setOutQ_dict (p : Nat) (q : List OutDesc) : (s.setOutQ p q).dict = s.dict := rfl
@[simp] theorem setOutQ_staged (p : Nat) (q : List OutDesc) : (s.setOutQ p q).staged = s.staged := rfl
@[simp] theorem setOutQ_octets (p : Nat) (q : List OutDesc) : (s.setOutQ p q).octets = s.octets := rfl
@[simp] theorem setOutQ_mem (p : Nat) (q : List OutDesc) : (s.setOutQ p q).mem = s.mem := rfl
@[simp] theorem setOutQ_firsts (p : Nat) (q : List OutDesc) : (s.setOutQ p q).firsts = s.firsts := rfl
@[simp] theorem setOutQ_freeCtr (p : Nat) (q : List OutDesc) : (s.setOutQ p q).freeCtr = s.freeCtr := rfl
@[simp] theorem setOutQ_opStatus (p : Nat) (q : List OutDesc) : (s.setOutQ p q).opStatus = s.opStatus := rfl
@[simp] theorem setOutQ_reply (p : Nat) (q : List OutDesc) : (s.setOutQ p q).reply = s.reply := rfl
@[simp] theorem setOutQ_abort (p : Nat) (q : List OutDesc) : (s.setOutQ p q).abort = s.abort := rfl
@[simp] theorem setOutQ_px (p : Nat) (q : List OutDesc) : (s.setOutQ p q).px = s.px := rfl
@[simp] theorem setOutQ_br (p : Nat) (q : List OutDesc) : (s.setOutQ p q).br = s.br := rfl
@[simp] theorem setOutQ_orch (p : Nat) (q : List OutDesc) : (s.setOutQ p q).orch = s.orch := rfl
@[simp] theorem setOutQ_lode (p : Nat) (q : List OutDesc) : (s.setOutQ p q).lode = s.lode := rfl
@[simp] theorem setOutQ_chron (p : Nat) (q : List OutDesc) : (s.setOutQ p q).chron = s.chron := rfl
@[simp] theorem setOutQ_tm (p : Nat) (q : List OutDesc) : (s.setOutQ p q).tm = s.tm := rfl
@[simp] theorem setOutQ_alm (p : Nat) (q : List OutDesc) : (s.setOutQ p q).alm = s.alm := rfl
@[simp] theorem setOutQ_trc (p : Nat) (q : List OutDesc) : (s.setOutQ p q).trc = s.trc := rfl
@[simp] theorem setOutQ_uda (p : Nat) (q : List OutDesc) : (s.setOutQ p q).uda = s.uda := rfl
@[simp] theorem setOutQ_disp (p : Nat) (q : List OutDesc) : (s.setOutQ p q).disp = s.disp := rfl
@[simp] theorem setOutQ_oru (p : Nat) (q : List OutDesc) : (s.setOutQ p q).oru = s.oru := rfl
@[simp] theorem setOutQ_cores (p : Nat) (q : List OutDesc) : (s.setOutQ p q).cores = s.cores := rfl
@[simp] theorem setOutQ_rdv (p : Nat) (q : List OutDesc) : (s.setOutQ p q).rdv = s.rdv := rfl
@[simp] theorem setOutQ_bio (p : Nat) (q : List OutDesc) : (s.setOutQ p q).bio = s.bio := rfl
@[simp] theorem setOutQ_dram (p : Nat) (q : List OutDesc) : (s.setOutQ p q).dram = s.dram := rfl
@[simp] theorem setOutQ_dma (p : Nat) (q : List OutDesc) : (s.setOutQ p q).dma = s.dma := rfl
@[simp] theorem setOutQ_saf (p : Nat) (q : List OutDesc) : (s.setOutQ p q).saf = s.saf := rfl
@[simp] theorem setOutQ_snd (p : Nat) (q : List OutDesc) : (s.setOutQ p q).snd = s.snd := rfl
@[simp] theorem setOutQ_bin (p : Nat) (q : List OutDesc) : (s.setOutQ p q).bin = s.bin := rfl
@[simp] theorem setOutQ_boot (p : Nat) (q : List OutDesc) : (s.setOutQ p q).boot = s.boot := rfl
@[simp] theorem setOutQ_pending (p : Nat) (q : List OutDesc) : (s.setOutQ p q).pending = s.pending := rfl
@[simp] theorem setOutQ_rd (p : Nat) (q : List OutDesc) (k1 : Nat) : (s.setOutQ p q).rd k1 = s.rd k1 := rfl
@[simp] theorem setOutQ_thread (p : Nat) (q : List OutDesc) (t1 : Nat) : (s.setOutQ p q).thread t1 = s.thread t1 := rfl
theorem outQ_setOutQ (p : Nat) (q : List OutDesc) (p1 : Nat) : (s.setOutQ p q).outQ p1 = if p1 = p then q else s.outQ p1 := tget_tset ..
@[simp] theorem outQ_setOutQ_self (p : Nat) (q : List OutDesc) : (s.setOutQ p q).outQ p = q := tget_tset_self ..

/-! `State.setSa`. -/

@[simp] theorem setSa_variant (k : Nat) (a : Sa) : (s.setSa k a).variant = s.variant := rfl
@[simp] theorem setSa_now (k : Nat) (a : Sa) : (s.setSa k a).now = s.now := rfl
@[simp] theorem setSa_dict (k : Nat) (a : Sa) : (s.setSa k a).dict = s.dict := rfl
@[simp] theorem setSa_staged (k : Nat) (a : Sa) : (s.setSa k a).staged = s.staged := rfl
@[simp] theorem setSa_octets (k : Nat) (a : Sa) : (s.setSa k a).octets = s.octets := rfl
@[simp] theorem setSa_mem (k : Nat) (a : Sa) : (s.setSa k a).mem = s.mem := rfl
@[simp] theorem setSa_firsts (k : Nat) (a : Sa) : (s.setSa k a).firsts = s.firsts := rfl
@[simp] theorem setSa_freeCtr (k : Nat) (a : Sa) : (s.setSa k a).freeCtr = s.freeCtr := rfl
@[simp] theorem setSa_opStatus (k : Nat) (a : Sa) : (s.setSa k a).opStatus = s.opStatus := rfl
@[simp] theorem setSa_reply (k : Nat) (a : Sa) : (s.setSa k a).reply = s.reply := rfl
@[simp] theorem setSa_abort (k : Nat) (a : Sa) : (s.setSa k a).abort = s.abort := rfl
@[simp] theorem setSa_pc (k : Nat) (a : Sa) : (s.setSa k a).pc = s.pc := rfl
@[simp] theorem setSa_br (k : Nat) (a : Sa) : (s.setSa k a).br = s.br := rfl
@[simp] theorem setSa_orch (k : Nat) (a : Sa) : (s.setSa k a).orch = s.orch := rfl
@[simp] theorem setSa_lode (k : Nat) (a : Sa) : (s.setSa k a).lode = s.lode := rfl
@[simp] theorem setSa_chron (k : Nat) (a : Sa) : (s.setSa k a).chron = s.chron := rfl
@[simp] theorem setSa_tm (k : Nat) (a : Sa) : (s.setSa k a).tm = s.tm := rfl
@[simp] theorem setSa_alm (k : Nat) (a : Sa) : (s.setSa k a).alm = s.alm := rfl
@[simp] theorem setSa_trc (k : Nat) (a : Sa) : (s.setSa k a).trc = s.trc := rfl
@[simp] theorem setSa_uda (k : Nat) (a : Sa) : (s.setSa k a).uda = s.uda := rfl
@[simp] theorem setSa_disp (k : Nat) (a : Sa) : (s.setSa k a).disp = s.disp := rfl
@[simp] theorem setSa_oru (k : Nat) (a : Sa) : (s.setSa k a).oru = s.oru := rfl
@[simp] theorem setSa_cores (k : Nat) (a : Sa) : (s.setSa k a).cores = s.cores := rfl
@[simp] theorem setSa_rdv (k : Nat) (a : Sa) : (s.setSa k a).rdv = s.rdv := rfl
@[simp] theorem setSa_bio (k : Nat) (a : Sa) : (s.setSa k a).bio = s.bio := rfl
@[simp] theorem setSa_dram (k : Nat) (a : Sa) : (s.setSa k a).dram = s.dram := rfl
@[simp] theorem setSa_dma (k : Nat) (a : Sa) : (s.setSa k a).dma = s.dma := rfl
@[simp] theorem setSa_saf (k : Nat) (a : Sa) : (s.setSa k a).saf = s.saf := rfl
@[simp] theorem setSa_snd (k : Nat) (a : Sa) : (s.setSa k a).snd = s.snd := rfl
@[simp] theorem setSa_bin (k : Nat) (a : Sa) : (s.setSa k a).bin = s.bin := rfl
@[simp] theorem setSa_boot (k : Nat) (a : Sa) : (s.setSa k a).boot = s.boot := rfl
@[simp] theorem setSa_pending (k : Nat) (a : Sa) : (s.setSa k a).pending = s.pending := rfl
@[simp] theorem setSa_rd (k : Nat) (a : Sa) (k1 : Nat) : (s.setSa k a).rd k1 = s.rd k1 := rfl
@[simp] theorem setSa_thread (k : Nat) (a : Sa) (t1 : Nat) : (s.setSa k a).thread t1 = s.thread t1 := rfl
theorem sa_setSa (k : Nat) (a : Sa) (k1 : Nat) : (s.setSa k a).sa k1 = if k1 = k then a else s.sa k1 := tget_tset ..
@[simp] theorem sa_setSa_self (k : Nat) (a : Sa) : (s.setSa k a).sa k = a := tget_tset_self ..

/-! `State.setTmPort`. -/

@[simp] theorem setTmPort_variant (p : Nat) (x : TmPort) : (s.setTmPort p x).variant = s.variant := rfl
@[simp] theorem setTmPort_now (p : Nat) (x : TmPort) : (s.setTmPort p x).now = s.now := rfl
@[simp] theorem setTmPort_dict (p : Nat) (x : TmPort) : (s.setTmPort p x).dict = s.dict := rfl
@[simp] theorem setTmPort_staged (p : Nat) (x : TmPort) : (s.setTmPort p x).staged = s.staged := rfl
@[simp] theorem setTmPort_octets (p : Nat) (x : TmPort) : (s.setTmPort p x).octets = s.octets := rfl
@[simp] theorem setTmPort_mem (p : Nat) (x : TmPort) : (s.setTmPort p x).mem = s.mem := rfl
@[simp] theorem setTmPort_firsts (p : Nat) (x : TmPort) : (s.setTmPort p x).firsts = s.firsts := rfl
@[simp] theorem setTmPort_freeCtr (p : Nat) (x : TmPort) : (s.setTmPort p x).freeCtr = s.freeCtr := rfl
@[simp] theorem setTmPort_opStatus (p : Nat) (x : TmPort) : (s.setTmPort p x).opStatus = s.opStatus := rfl
@[simp] theorem setTmPort_reply (p : Nat) (x : TmPort) : (s.setTmPort p x).reply = s.reply := rfl
@[simp] theorem setTmPort_abort (p : Nat) (x : TmPort) : (s.setTmPort p x).abort = s.abort := rfl
@[simp] theorem setTmPort_px (p : Nat) (x : TmPort) : (s.setTmPort p x).px = s.px := rfl
@[simp] theorem setTmPort_pc (p : Nat) (x : TmPort) : (s.setTmPort p x).pc = s.pc := rfl
@[simp] theorem setTmPort_br (p : Nat) (x : TmPort) : (s.setTmPort p x).br = s.br := rfl
@[simp] theorem setTmPort_orch (p : Nat) (x : TmPort) : (s.setTmPort p x).orch = s.orch := rfl
@[simp] theorem setTmPort_lode (p : Nat) (x : TmPort) : (s.setTmPort p x).lode = s.lode := rfl
@[simp] theorem setTmPort_chron (p : Nat) (x : TmPort) : (s.setTmPort p x).chron = s.chron := rfl
@[simp] theorem setTmPort_alm (p : Nat) (x : TmPort) : (s.setTmPort p x).alm = s.alm := rfl
@[simp] theorem setTmPort_trc (p : Nat) (x : TmPort) : (s.setTmPort p x).trc = s.trc := rfl
@[simp] theorem setTmPort_uda (p : Nat) (x : TmPort) : (s.setTmPort p x).uda = s.uda := rfl
@[simp] theorem setTmPort_disp (p : Nat) (x : TmPort) : (s.setTmPort p x).disp = s.disp := rfl
@[simp] theorem setTmPort_oru (p : Nat) (x : TmPort) : (s.setTmPort p x).oru = s.oru := rfl
@[simp] theorem setTmPort_cores (p : Nat) (x : TmPort) : (s.setTmPort p x).cores = s.cores := rfl
@[simp] theorem setTmPort_rdv (p : Nat) (x : TmPort) : (s.setTmPort p x).rdv = s.rdv := rfl
@[simp] theorem setTmPort_bio (p : Nat) (x : TmPort) : (s.setTmPort p x).bio = s.bio := rfl
@[simp] theorem setTmPort_dram (p : Nat) (x : TmPort) : (s.setTmPort p x).dram = s.dram := rfl
@[simp] theorem setTmPort_dma (p : Nat) (x : TmPort) : (s.setTmPort p x).dma = s.dma := rfl
@[simp] theorem setTmPort_saf (p : Nat) (x : TmPort) : (s.setTmPort p x).saf = s.saf := rfl
@[simp] theorem setTmPort_snd (p : Nat) (x : TmPort) : (s.setTmPort p x).snd = s.snd := rfl
@[simp] theorem setTmPort_bin (p : Nat) (x : TmPort) : (s.setTmPort p x).bin = s.bin := rfl
@[simp] theorem setTmPort_boot (p : Nat) (x : TmPort) : (s.setTmPort p x).boot = s.boot := rfl
@[simp] theorem setTmPort_pending (p : Nat) (x : TmPort) : (s.setTmPort p x).pending = s.pending := rfl
@[simp] theorem setTmPort_rd (p : Nat) (x : TmPort) (k1 : Nat) : (s.setTmPort p x).rd k1 = s.rd k1 := rfl
@[simp] theorem setTmPort_thread (p : Nat) (x : TmPort) (t1 : Nat) : (s.setTmPort p x).thread t1 = s.thread t1 := rfl
theorem tmPort_setTmPort (p : Nat) (x : TmPort) (p1 : Nat) : (s.setTmPort p x).tmPort p1 = if p1 = p then x else s.tmPort p1 := tget_tset ..
@[simp] theorem tmPort_setTmPort_self (p : Nat) (x : TmPort) : (s.setTmPort p x).tmPort p = x := tget_tset_self ..

/-! `State.setLstream`. -/

@[simp] theorem setLstream_variant (i : Nat) (x : LStream) : (s.setLstream i x).variant = s.variant := rfl
@[simp] theorem setLstream_now (i : Nat) (x : LStream) : (s.setLstream i x).now = s.now := rfl
@[simp] theorem setLstream_dict (i : Nat) (x : LStream) : (s.setLstream i x).dict = s.dict := rfl
@[simp] theorem setLstream_staged (i : Nat) (x : LStream) : (s.setLstream i x).staged = s.staged := rfl
@[simp] theorem setLstream_octets (i : Nat) (x : LStream) : (s.setLstream i x).octets = s.octets := rfl
@[simp] theorem setLstream_mem (i : Nat) (x : LStream) : (s.setLstream i x).mem = s.mem := rfl
@[simp] theorem setLstream_firsts (i : Nat) (x : LStream) : (s.setLstream i x).firsts = s.firsts := rfl
@[simp] theorem setLstream_freeCtr (i : Nat) (x : LStream) : (s.setLstream i x).freeCtr = s.freeCtr := rfl
@[simp] theorem setLstream_opStatus (i : Nat) (x : LStream) : (s.setLstream i x).opStatus = s.opStatus := rfl
@[simp] theorem setLstream_reply (i : Nat) (x : LStream) : (s.setLstream i x).reply = s.reply := rfl
@[simp] theorem setLstream_abort (i : Nat) (x : LStream) : (s.setLstream i x).abort = s.abort := rfl
@[simp] theorem setLstream_px (i : Nat) (x : LStream) : (s.setLstream i x).px = s.px := rfl
@[simp] theorem setLstream_pc (i : Nat) (x : LStream) : (s.setLstream i x).pc = s.pc := rfl
@[simp] theorem setLstream_br (i : Nat) (x : LStream) : (s.setLstream i x).br = s.br := rfl
@[simp] theorem setLstream_orch (i : Nat) (x : LStream) : (s.setLstream i x).orch = s.orch := rfl
@[simp] theorem setLstream_chron (i : Nat) (x : LStream) : (s.setLstream i x).chron = s.chron := rfl
@[simp] theorem setLstream_tm (i : Nat) (x : LStream) : (s.setLstream i x).tm = s.tm := rfl
@[simp] theorem setLstream_alm (i : Nat) (x : LStream) : (s.setLstream i x).alm = s.alm := rfl
@[simp] theorem setLstream_trc (i : Nat) (x : LStream) : (s.setLstream i x).trc = s.trc := rfl
@[simp] theorem setLstream_uda (i : Nat) (x : LStream) : (s.setLstream i x).uda = s.uda := rfl
@[simp] theorem setLstream_disp (i : Nat) (x : LStream) : (s.setLstream i x).disp = s.disp := rfl
@[simp] theorem setLstream_oru (i : Nat) (x : LStream) : (s.setLstream i x).oru = s.oru := rfl
@[simp] theorem setLstream_cores (i : Nat) (x : LStream) : (s.setLstream i x).cores = s.cores := rfl
@[simp] theorem setLstream_rdv (i : Nat) (x : LStream) : (s.setLstream i x).rdv = s.rdv := rfl
@[simp] theorem setLstream_bio (i : Nat) (x : LStream) : (s.setLstream i x).bio = s.bio := rfl
@[simp] theorem setLstream_dram (i : Nat) (x : LStream) : (s.setLstream i x).dram = s.dram := rfl
@[simp] theorem setLstream_dma (i : Nat) (x : LStream) : (s.setLstream i x).dma = s.dma := rfl
@[simp] theorem setLstream_saf (i : Nat) (x : LStream) : (s.setLstream i x).saf = s.saf := rfl
@[simp] theorem setLstream_snd (i : Nat) (x : LStream) : (s.setLstream i x).snd = s.snd := rfl
@[simp] theorem setLstream_bin (i : Nat) (x : LStream) : (s.setLstream i x).bin = s.bin := rfl
@[simp] theorem setLstream_boot (i : Nat) (x : LStream) : (s.setLstream i x).boot = s.boot := rfl
@[simp] theorem setLstream_pending (i : Nat) (x : LStream) : (s.setLstream i x).pending = s.pending := rfl
@[simp] theorem setLstream_rd (i : Nat) (x : LStream) (k1 : Nat) : (s.setLstream i x).rd k1 = s.rd k1 := rfl
@[simp] theorem setLstream_thread (i : Nat) (x : LStream) (t1 : Nat) : (s.setLstream i x).thread t1 = s.thread t1 := rfl
theorem lstream_setLstream (i : Nat) (x : LStream) (i1 : Nat) : (s.setLstream i x).lstream i1 = if i1 = i then x else s.lstream i1 := tget_tset ..
@[simp] theorem lstream_setLstream_self (i : Nat) (x : LStream) : (s.setLstream i x).lstream i = x := tget_tset_self ..

/-! `State.addFlight`. -/

@[simp] theorem addFlight_variant (f : Flight) : (s.addFlight f).variant = s.variant := rfl
@[simp] theorem addFlight_now (f : Flight) : (s.addFlight f).now = s.now := rfl
@[simp] theorem addFlight_dict (f : Flight) : (s.addFlight f).dict = s.dict := rfl
@[simp] theorem addFlight_staged (f : Flight) : (s.addFlight f).staged = s.staged := rfl
@[simp] theorem addFlight_octets (f : Flight) : (s.addFlight f).octets = s.octets := rfl
@[simp] theorem addFlight_mem (f : Flight) : (s.addFlight f).mem = s.mem := rfl
@[simp] theorem addFlight_firsts (f : Flight) : (s.addFlight f).firsts = s.firsts := rfl
@[simp] theorem addFlight_freeCtr (f : Flight) : (s.addFlight f).freeCtr = s.freeCtr := rfl
@[simp] theorem addFlight_opStatus (f : Flight) : (s.addFlight f).opStatus = s.opStatus := rfl
@[simp] theorem addFlight_reply (f : Flight) : (s.addFlight f).reply = s.reply := rfl
@[simp] theorem addFlight_abort (f : Flight) : (s.addFlight f).abort = s.abort := rfl
@[simp] theorem addFlight_px (f : Flight) : (s.addFlight f).px = s.px := rfl
@[simp] theorem addFlight_pc (f : Flight) : (s.addFlight f).pc = s.pc := rfl
@[simp] theorem addFlight_br (f : Flight) : (s.addFlight f).br = s.br := rfl
@[simp] theorem addFlight_orch (f : Flight) : (s.addFlight f).orch = s.orch := rfl
@[simp] theorem addFlight_chron (f : Flight) : (s.addFlight f).chron = s.chron := rfl
@[simp] theorem addFlight_tm (f : Flight) : (s.addFlight f).tm = s.tm := rfl
@[simp] theorem addFlight_alm (f : Flight) : (s.addFlight f).alm = s.alm := rfl
@[simp] theorem addFlight_trc (f : Flight) : (s.addFlight f).trc = s.trc := rfl
@[simp] theorem addFlight_uda (f : Flight) : (s.addFlight f).uda = s.uda := rfl
@[simp] theorem addFlight_disp (f : Flight) : (s.addFlight f).disp = s.disp := rfl
@[simp] theorem addFlight_oru (f : Flight) : (s.addFlight f).oru = s.oru := rfl
@[simp] theorem addFlight_cores (f : Flight) : (s.addFlight f).cores = s.cores := rfl
@[simp] theorem addFlight_rdv (f : Flight) : (s.addFlight f).rdv = s.rdv := rfl
@[simp] theorem addFlight_bio (f : Flight) : (s.addFlight f).bio = s.bio := rfl
@[simp] theorem addFlight_dram (f : Flight) : (s.addFlight f).dram = s.dram := rfl
@[simp] theorem addFlight_dma (f : Flight) : (s.addFlight f).dma = s.dma := rfl
@[simp] theorem addFlight_saf (f : Flight) : (s.addFlight f).saf = s.saf := rfl
@[simp] theorem addFlight_snd (f : Flight) : (s.addFlight f).snd = s.snd := rfl
@[simp] theorem addFlight_bin (f : Flight) : (s.addFlight f).bin = s.bin := rfl
@[simp] theorem addFlight_boot (f : Flight) : (s.addFlight f).boot = s.boot := rfl
@[simp] theorem addFlight_pending (f : Flight) : (s.addFlight f).pending = s.pending := rfl
@[simp] theorem addFlight_rd (f : Flight) (k1 : Nat) : (s.addFlight f).rd k1 = s.rd k1 := rfl
@[simp] theorem addFlight_thread (f : Flight) (t1 : Nat) : (s.addFlight f).thread t1 = s.thread t1 := rfl

/-! `State.setFlight`. -/

@[simp] theorem setFlight_variant (f : Flight) : (s.setFlight f).variant = s.variant := rfl
@[simp] theorem setFlight_now (f : Flight) : (s.setFlight f).now = s.now := rfl
@[simp] theorem setFlight_dict (f : Flight) : (s.setFlight f).dict = s.dict := rfl
@[simp] theorem setFlight_staged (f : Flight) : (s.setFlight f).staged = s.staged := rfl
@[simp] theorem setFlight_octets (f : Flight) : (s.setFlight f).octets = s.octets := rfl
@[simp] theorem setFlight_mem (f : Flight) : (s.setFlight f).mem = s.mem := rfl
@[simp] theorem setFlight_firsts (f : Flight) : (s.setFlight f).firsts = s.firsts := rfl
@[simp] theorem setFlight_freeCtr (f : Flight) : (s.setFlight f).freeCtr = s.freeCtr := rfl
@[simp] theorem setFlight_opStatus (f : Flight) : (s.setFlight f).opStatus = s.opStatus := rfl
@[simp] theorem setFlight_reply (f : Flight) : (s.setFlight f).reply = s.reply := rfl
@[simp] theorem setFlight_abort (f : Flight) : (s.setFlight f).abort = s.abort := rfl
@[simp] theorem setFlight_px (f : Flight) : (s.setFlight f).px = s.px := rfl
@[simp] theorem setFlight_pc (f : Flight) : (s.setFlight f).pc = s.pc := rfl
@[simp] theorem setFlight_br (f : Flight) : (s.setFlight f).br = s.br := rfl
@[simp] theorem setFlight_orch (f : Flight) : (s.setFlight f).orch = s.orch := rfl
@[simp] theorem setFlight_chron (f : Flight) : (s.setFlight f).chron = s.chron := rfl
@[simp] theorem setFlight_tm (f : Flight) : (s.setFlight f).tm = s.tm := rfl
@[simp] theorem setFlight_alm (f : Flight) : (s.setFlight f).alm = s.alm := rfl
@[simp] theorem setFlight_trc (f : Flight) : (s.setFlight f).trc = s.trc := rfl
@[simp] theorem setFlight_uda (f : Flight) : (s.setFlight f).uda = s.uda := rfl
@[simp] theorem setFlight_disp (f : Flight) : (s.setFlight f).disp = s.disp := rfl
@[simp] theorem setFlight_oru (f : Flight) : (s.setFlight f).oru = s.oru := rfl
@[simp] theorem setFlight_cores (f : Flight) : (s.setFlight f).cores = s.cores := rfl
@[simp] theorem setFlight_rdv (f : Flight) : (s.setFlight f).rdv = s.rdv := rfl
@[simp] theorem setFlight_bio (f : Flight) : (s.setFlight f).bio = s.bio := rfl
@[simp] theorem setFlight_dram (f : Flight) : (s.setFlight f).dram = s.dram := rfl
@[simp] theorem setFlight_dma (f : Flight) : (s.setFlight f).dma = s.dma := rfl
@[simp] theorem setFlight_saf (f : Flight) : (s.setFlight f).saf = s.saf := rfl
@[simp] theorem setFlight_snd (f : Flight) : (s.setFlight f).snd = s.snd := rfl
@[simp] theorem setFlight_bin (f : Flight) : (s.setFlight f).bin = s.bin := rfl
@[simp] theorem setFlight_boot (f : Flight) : (s.setFlight f).boot = s.boot := rfl
@[simp] theorem setFlight_pending (f : Flight) : (s.setFlight f).pending = s.pending := rfl
@[simp] theorem setFlight_rd (f : Flight) (k1 : Nat) : (s.setFlight f).rd k1 = s.rd k1 := rfl
@[simp] theorem setFlight_thread (f : Flight) (t1 : Nat) : (s.setFlight f).thread t1 = s.thread t1 := rfl

/-! `State.endFlight`. -/

@[simp] theorem endFlight_variant (id : Nat) : (s.endFlight id).variant = s.variant := rfl
@[simp] theorem endFlight_now (id : Nat) : (s.endFlight id).now = s.now := rfl
@[simp] theorem endFlight_dict (id : Nat) : (s.endFlight id).dict = s.dict := rfl
@[simp] theorem endFlight_staged (id : Nat) : (s.endFlight id).staged = s.staged := rfl
@[simp] theorem endFlight_octets (id : Nat) : (s.endFlight id).octets = s.octets := rfl
@[simp] theorem endFlight_mem (id : Nat) : (s.endFlight id).mem = s.mem := rfl
@[simp] theorem endFlight_firsts (id : Nat) : (s.endFlight id).firsts = s.firsts := rfl
@[simp] theorem endFlight_freeCtr (id : Nat) : (s.endFlight id).freeCtr = s.freeCtr := rfl
@[simp] theorem endFlight_opStatus (id : Nat) : (s.endFlight id).opStatus = s.opStatus := rfl
@[simp] theorem endFlight_reply (id : Nat) : (s.endFlight id).reply = s.reply := rfl
@[simp] theorem endFlight_abort (id : Nat) : (s.endFlight id).abort = s.abort := rfl
@[simp] theorem endFlight_px (id : Nat) : (s.endFlight id).px = s.px := rfl
@[simp] theorem endFlight_pc (id : Nat) : (s.endFlight id).pc = s.pc := rfl
@[simp] theorem endFlight_br (id : Nat) : (s.endFlight id).br = s.br := rfl
@[simp] theorem endFlight_orch (id : Nat) : (s.endFlight id).orch = s.orch := rfl
@[simp] theorem endFlight_chron (id : Nat) : (s.endFlight id).chron = s.chron := rfl
@[simp] theorem endFlight_tm (id : Nat) : (s.endFlight id).tm = s.tm := rfl
@[simp] theorem endFlight_alm (id : Nat) : (s.endFlight id).alm = s.alm := rfl
@[simp] theorem endFlight_trc (id : Nat) : (s.endFlight id).trc = s.trc := rfl
@[simp] theorem endFlight_uda (id : Nat) : (s.endFlight id).uda = s.uda := rfl
@[simp] theorem endFlight_disp (id : Nat) : (s.endFlight id).disp = s.disp := rfl
@[simp] theorem endFlight_oru (id : Nat) : (s.endFlight id).oru = s.oru := rfl
@[simp] theorem endFlight_cores (id : Nat) : (s.endFlight id).cores = s.cores := rfl
@[simp] theorem endFlight_rdv (id : Nat) : (s.endFlight id).rdv = s.rdv := rfl
@[simp] theorem endFlight_bio (id : Nat) : (s.endFlight id).bio = s.bio := rfl
@[simp] theorem endFlight_dram (id : Nat) : (s.endFlight id).dram = s.dram := rfl
@[simp] theorem endFlight_dma (id : Nat) : (s.endFlight id).dma = s.dma := rfl
@[simp] theorem endFlight_saf (id : Nat) : (s.endFlight id).saf = s.saf := rfl
@[simp] theorem endFlight_snd (id : Nat) : (s.endFlight id).snd = s.snd := rfl
@[simp] theorem endFlight_bin (id : Nat) : (s.endFlight id).bin = s.bin := rfl
@[simp] theorem endFlight_boot (id : Nat) : (s.endFlight id).boot = s.boot := rfl
@[simp] theorem endFlight_pending (id : Nat) : (s.endFlight id).pending = s.pending := rfl
@[simp] theorem endFlight_rd (id : Nat) (k1 : Nat) : (s.endFlight id).rd k1 = s.rd k1 := rfl
@[simp] theorem endFlight_thread (id : Nat) (t1 : Nat) : (s.endFlight id).thread t1 = s.thread t1 := rfl

/-! `State.setLevel`. -/

@[simp] theorem setLevel_variant (l : Nat) (q : List Item) : (s.setLevel l q).variant = s.variant := rfl
@[simp] theorem setLevel_now (l : Nat) (q : List Item) : (s.setLevel l q).now = s.now := rfl
@[simp] theorem setLevel_dict (l : Nat) (q : List Item) : (s.setLevel l q).dict = s.dict := rfl
@[simp] theorem setLevel_staged (l : Nat) (q : List Item) : (s.setLevel l q).staged = s.staged := rfl
@[simp] theorem setLevel_octets (l : Nat) (q : List Item) : (s.setLevel l q).octets = s.octets := rfl
@[simp] theorem setLevel_mem (l : Nat) (q : List Item) : (s.setLevel l q).mem = s.mem := rfl
@[simp] theorem setLevel_firsts (l : Nat) (q : List Item) : (s.setLevel l q).firsts = s.firsts := rfl
@[simp] theorem setLevel_freeCtr (l : Nat) (q : List Item) : (s.setLevel l q).freeCtr = s.freeCtr := rfl
@[simp] theorem setLevel_opStatus (l : Nat) (q : List Item) : (s.setLevel l q).opStatus = s.opStatus := rfl
@[simp] theorem setLevel_reply (l : Nat) (q : List Item) : (s.setLevel l q).reply = s.reply := rfl
@[simp] theorem setLevel_abort (l : Nat) (q : List Item) : (s.setLevel l q).abort = s.abort := rfl
@[simp] theorem setLevel_px (l : Nat) (q : List Item) : (s.setLevel l q).px = s.px := rfl
@[simp] theorem setLevel_pc (l : Nat) (q : List Item) : (s.setLevel l q).pc = s.pc := rfl
@[simp] theorem setLevel_br (l : Nat) (q : List Item) : (s.setLevel l q).br = s.br := rfl
@[simp] theorem setLevel_orch (l : Nat) (q : List Item) : (s.setLevel l q).orch = s.orch := rfl
@[simp] theorem setLevel_lode (l : Nat) (q : List Item) : (s.setLevel l q).lode = s.lode := rfl
@[simp] theorem setLevel_chron (l : Nat) (q : List Item) : (s.setLevel l q).chron = s.chron := rfl
@[simp] theorem setLevel_tm (l : Nat) (q : List Item) : (s.setLevel l q).tm = s.tm := rfl
@[simp] theorem setLevel_alm (l : Nat) (q : List Item) : (s.setLevel l q).alm = s.alm := rfl
@[simp] theorem setLevel_trc (l : Nat) (q : List Item) : (s.setLevel l q).trc = s.trc := rfl
@[simp] theorem setLevel_uda (l : Nat) (q : List Item) : (s.setLevel l q).uda = s.uda := rfl
@[simp] theorem setLevel_oru (l : Nat) (q : List Item) : (s.setLevel l q).oru = s.oru := rfl
@[simp] theorem setLevel_cores (l : Nat) (q : List Item) : (s.setLevel l q).cores = s.cores := rfl
@[simp] theorem setLevel_rdv (l : Nat) (q : List Item) : (s.setLevel l q).rdv = s.rdv := rfl
@[simp] theorem setLevel_bio (l : Nat) (q : List Item) : (s.setLevel l q).bio = s.bio := rfl
@[simp] theorem setLevel_dram (l : Nat) (q : List Item) : (s.setLevel l q).dram = s.dram := rfl
@[simp] theorem setLevel_dma (l : Nat) (q : List Item) : (s.setLevel l q).dma = s.dma := rfl
@[simp] theorem setLevel_saf (l : Nat) (q : List Item) : (s.setLevel l q).saf = s.saf := rfl
@[simp] theorem setLevel_snd (l : Nat) (q : List Item) : (s.setLevel l q).snd = s.snd := rfl
@[simp] theorem setLevel_bin (l : Nat) (q : List Item) : (s.setLevel l q).bin = s.bin := rfl
@[simp] theorem setLevel_boot (l : Nat) (q : List Item) : (s.setLevel l q).boot = s.boot := rfl
@[simp] theorem setLevel_pending (l : Nat) (q : List Item) : (s.setLevel l q).pending = s.pending := rfl
@[simp] theorem setLevel_rd (l : Nat) (q : List Item) (k1 : Nat) : (s.setLevel l q).rd k1 = s.rd k1 := rfl
@[simp] theorem setLevel_thread (l : Nat) (q : List Item) (t1 : Nat) : (s.setLevel l q).thread t1 = s.thread t1 := rfl
theorem level_setLevel (l : Nat) (q : List Item) (l1 : Nat) : (s.setLevel l q).level l1 = if l1 = l then q else s.level l1 := tget_tset ..
@[simp] theorem level_setLevel_self (l : Nat) (q : List Item) : (s.setLevel l q).level l = q := tget_tset_self ..

/-! `State.setDelayList`. -/

@[simp] theorem setDelayList_variant (l : Nat) (x : DelayList) : (s.setDelayList l x).variant = s.variant := rfl
@[simp] theorem setDelayList_now (l : Nat) (x : DelayList) : (s.setDelayList l x).now = s.now := rfl
@[simp] theorem setDelayList_dict (l : Nat) (x : DelayList) : (s.setDelayList l x).dict = s.dict := rfl
@[simp] theorem setDelayList_staged (l : Nat) (x : DelayList) : (s.setDelayList l x).staged = s.staged := rfl
@[simp] theorem setDelayList_octets (l : Nat) (x : DelayList) : (s.setDelayList l x).octets = s.octets := rfl
@[simp] theorem setDelayList_mem (l : Nat) (x : DelayList) : (s.setDelayList l x).mem = s.mem := rfl
@[simp] theorem setDelayList_firsts (l : Nat) (x : DelayList) : (s.setDelayList l x).firsts = s.firsts := rfl
@[simp] theorem setDelayList_freeCtr (l : Nat) (x : DelayList) : (s.setDelayList l x).freeCtr = s.freeCtr := rfl
@[simp] theorem setDelayList_opStatus (l : Nat) (x : DelayList) : (s.setDelayList l x).opStatus = s.opStatus := rfl
@[simp] theorem setDelayList_reply (l : Nat) (x : DelayList) : (s.setDelayList l x).reply = s.reply := rfl
@[simp] theorem setDelayList_abort (l : Nat) (x : DelayList) : (s.setDelayList l x).abort = s.abort := rfl
@[simp] theorem setDelayList_px (l : Nat) (x : DelayList) : (s.setDelayList l x).px = s.px := rfl
@[simp] theorem setDelayList_pc (l : Nat) (x : DelayList) : (s.setDelayList l x).pc = s.pc := rfl
@[simp] theorem setDelayList_br (l : Nat) (x : DelayList) : (s.setDelayList l x).br = s.br := rfl
@[simp] theorem setDelayList_orch (l : Nat) (x : DelayList) : (s.setDelayList l x).orch = s.orch := rfl
@[simp] theorem setDelayList_lode (l : Nat) (x : DelayList) : (s.setDelayList l x).lode = s.lode := rfl
@[simp] theorem setDelayList_chron (l : Nat) (x : DelayList) : (s.setDelayList l x).chron = s.chron := rfl
@[simp] theorem setDelayList_tm (l : Nat) (x : DelayList) : (s.setDelayList l x).tm = s.tm := rfl
@[simp] theorem setDelayList_alm (l : Nat) (x : DelayList) : (s.setDelayList l x).alm = s.alm := rfl
@[simp] theorem setDelayList_trc (l : Nat) (x : DelayList) : (s.setDelayList l x).trc = s.trc := rfl
@[simp] theorem setDelayList_uda (l : Nat) (x : DelayList) : (s.setDelayList l x).uda = s.uda := rfl
@[simp] theorem setDelayList_oru (l : Nat) (x : DelayList) : (s.setDelayList l x).oru = s.oru := rfl
@[simp] theorem setDelayList_cores (l : Nat) (x : DelayList) : (s.setDelayList l x).cores = s.cores := rfl
@[simp] theorem setDelayList_rdv (l : Nat) (x : DelayList) : (s.setDelayList l x).rdv = s.rdv := rfl
@[simp] theorem setDelayList_bio (l : Nat) (x : DelayList) : (s.setDelayList l x).bio = s.bio := rfl
@[simp] theorem setDelayList_dram (l : Nat) (x : DelayList) : (s.setDelayList l x).dram = s.dram := rfl
@[simp] theorem setDelayList_dma (l : Nat) (x : DelayList) : (s.setDelayList l x).dma = s.dma := rfl
@[simp] theorem setDelayList_saf (l : Nat) (x : DelayList) : (s.setDelayList l x).saf = s.saf := rfl
@[simp] theorem setDelayList_snd (l : Nat) (x : DelayList) : (s.setDelayList l x).snd = s.snd := rfl
@[simp] theorem setDelayList_bin (l : Nat) (x : DelayList) : (s.setDelayList l x).bin = s.bin := rfl
@[simp] theorem setDelayList_boot (l : Nat) (x : DelayList) : (s.setDelayList l x).boot = s.boot := rfl
@[simp] theorem setDelayList_pending (l : Nat) (x : DelayList) : (s.setDelayList l x).pending = s.pending := rfl
@[simp] theorem setDelayList_rd (l : Nat) (x : DelayList) (k1 : Nat) : (s.setDelayList l x).rd k1 = s.rd k1 := rfl
@[simp] theorem setDelayList_thread (l : Nat) (x : DelayList) (t1 : Nat) : (s.setDelayList l x).thread t1 = s.thread t1 := rfl
theorem delayList_setDelayList (l : Nat) (x : DelayList) (l1 : Nat) : (s.setDelayList l x).delayList l1 = if l1 = l then x else s.delayList l1 := tget_tset ..
@[simp] theorem delayList_setDelayList_self (l : Nat) (x : DelayList) : (s.setDelayList l x).delayList l = x := tget_tset_self ..

/-! `State.setDchan`. -/

@[simp] theorem setDchan_variant (c : Nat) (x : DramChan) : (s.setDchan c x).variant = s.variant := rfl
@[simp] theorem setDchan_now (c : Nat) (x : DramChan) : (s.setDchan c x).now = s.now := rfl
@[simp] theorem setDchan_dict (c : Nat) (x : DramChan) : (s.setDchan c x).dict = s.dict := rfl
@[simp] theorem setDchan_staged (c : Nat) (x : DramChan) : (s.setDchan c x).staged = s.staged := rfl
@[simp] theorem setDchan_octets (c : Nat) (x : DramChan) : (s.setDchan c x).octets = s.octets := rfl
@[simp] theorem setDchan_mem (c : Nat) (x : DramChan) : (s.setDchan c x).mem = s.mem := rfl
@[simp] theorem setDchan_firsts (c : Nat) (x : DramChan) : (s.setDchan c x).firsts = s.firsts := rfl
@[simp] theorem setDchan_freeCtr (c : Nat) (x : DramChan) : (s.setDchan c x).freeCtr = s.freeCtr := rfl
@[simp] theorem setDchan_opStatus (c : Nat) (x : DramChan) : (s.setDchan c x).opStatus = s.opStatus := rfl
@[simp] theorem setDchan_reply (c : Nat) (x : DramChan) : (s.setDchan c x).reply = s.reply := rfl
@[simp] theorem setDchan_abort (c : Nat) (x : DramChan) : (s.setDchan c x).abort = s.abort := rfl
@[simp] theorem setDchan_px (c : Nat) (x : DramChan) : (s.setDchan c x).px = s.px := rfl
@[simp] theorem setDchan_pc (c : Nat) (x : DramChan) : (s.setDchan c x).pc = s.pc := rfl
@[simp] theorem setDchan_br (c : Nat) (x : DramChan) : (s.setDchan c x).br = s.br := rfl
@[simp] theorem setDchan_orch (c : Nat) (x : DramChan) : (s.setDchan c x).orch = s.orch := rfl
@[simp] theorem setDchan_lode (c : Nat) (x : DramChan) : (s.setDchan c x).lode = s.lode := rfl
@[simp] theorem setDchan_chron (c : Nat) (x : DramChan) : (s.setDchan c x).chron = s.chron := rfl
@[simp] theorem setDchan_tm (c : Nat) (x : DramChan) : (s.setDchan c x).tm = s.tm := rfl
@[simp] theorem setDchan_alm (c : Nat) (x : DramChan) : (s.setDchan c x).alm = s.alm := rfl
@[simp] theorem setDchan_trc (c : Nat) (x : DramChan) : (s.setDchan c x).trc = s.trc := rfl
@[simp] theorem setDchan_uda (c : Nat) (x : DramChan) : (s.setDchan c x).uda = s.uda := rfl
@[simp] theorem setDchan_disp (c : Nat) (x : DramChan) : (s.setDchan c x).disp = s.disp := rfl
@[simp] theorem setDchan_oru (c : Nat) (x : DramChan) : (s.setDchan c x).oru = s.oru := rfl
@[simp] theorem setDchan_cores (c : Nat) (x : DramChan) : (s.setDchan c x).cores = s.cores := rfl
@[simp] theorem setDchan_rdv (c : Nat) (x : DramChan) : (s.setDchan c x).rdv = s.rdv := rfl
@[simp] theorem setDchan_bio (c : Nat) (x : DramChan) : (s.setDchan c x).bio = s.bio := rfl
@[simp] theorem setDchan_dma (c : Nat) (x : DramChan) : (s.setDchan c x).dma = s.dma := rfl
@[simp] theorem setDchan_saf (c : Nat) (x : DramChan) : (s.setDchan c x).saf = s.saf := rfl
@[simp] theorem setDchan_snd (c : Nat) (x : DramChan) : (s.setDchan c x).snd = s.snd := rfl
@[simp] theorem setDchan_bin (c : Nat) (x : DramChan) : (s.setDchan c x).bin = s.bin := rfl
@[simp] theorem setDchan_boot (c : Nat) (x : DramChan) : (s.setDchan c x).boot = s.boot := rfl
@[simp] theorem setDchan_pending (c : Nat) (x : DramChan) : (s.setDchan c x).pending = s.pending := rfl
@[simp] theorem setDchan_rd (c : Nat) (x : DramChan) (k1 : Nat) : (s.setDchan c x).rd k1 = s.rd k1 := rfl
@[simp] theorem setDchan_thread (c : Nat) (x : DramChan) (t1 : Nat) : (s.setDchan c x).thread t1 = s.thread t1 := rfl
theorem dchan_setDchan (c : Nat) (x : DramChan) (c1 : Nat) : (s.setDchan c x).dchan c1 = if c1 = c then x else s.dchan c1 := tget_tset ..
@[simp] theorem dchan_setDchan_self (c : Nat) (x : DramChan) : (s.setDchan c x).dchan c = x := tget_tset_self ..

/-! `State.setDbank`. -/

@[simp] theorem setDbank_variant (k : Nat) (x : DramBank) : (s.setDbank k x).variant = s.variant := rfl
@[simp] theorem setDbank_now (k : Nat) (x : DramBank) : (s.setDbank k x).now = s.now := rfl
@[simp] theorem setDbank_dict (k : Nat) (x : DramBank) : (s.setDbank k x).dict = s.dict := rfl
@[simp] theorem setDbank_staged (k : Nat) (x : DramBank) : (s.setDbank k x).staged = s.staged := rfl
@[simp] theorem setDbank_octets (k : Nat) (x : DramBank) : (s.setDbank k x).octets = s.octets := rfl
@[simp] theorem setDbank_mem (k : Nat) (x : DramBank) : (s.setDbank k x).mem = s.mem := rfl
@[simp] theorem setDbank_firsts (k : Nat) (x : DramBank) : (s.setDbank k x).firsts = s.firsts := rfl
@[simp] theorem setDbank_freeCtr (k : Nat) (x : DramBank) : (s.setDbank k x).freeCtr = s.freeCtr := rfl
@[simp] theorem setDbank_opStatus (k : Nat) (x : DramBank) : (s.setDbank k x).opStatus = s.opStatus := rfl
@[simp] theorem setDbank_reply (k : Nat) (x : DramBank) : (s.setDbank k x).reply = s.reply := rfl
@[simp] theorem setDbank_abort (k : Nat) (x : DramBank) : (s.setDbank k x).abort = s.abort := rfl
@[simp] theorem setDbank_px (k : Nat) (x : DramBank) : (s.setDbank k x).px = s.px := rfl
@[simp] theorem setDbank_pc (k : Nat) (x : DramBank) : (s.setDbank k x).pc = s.pc := rfl
@[simp] theorem setDbank_br (k : Nat) (x : DramBank) : (s.setDbank k x).br = s.br := rfl
@[simp] theorem setDbank_orch (k : Nat) (x : DramBank) : (s.setDbank k x).orch = s.orch := rfl
@[simp] theorem setDbank_lode (k : Nat) (x : DramBank) : (s.setDbank k x).lode = s.lode := rfl
@[simp] theorem setDbank_chron (k : Nat) (x : DramBank) : (s.setDbank k x).chron = s.chron := rfl
@[simp] theorem setDbank_tm (k : Nat) (x : DramBank) : (s.setDbank k x).tm = s.tm := rfl
@[simp] theorem setDbank_alm (k : Nat) (x : DramBank) : (s.setDbank k x).alm = s.alm := rfl
@[simp] theorem setDbank_trc (k : Nat) (x : DramBank) : (s.setDbank k x).trc = s.trc := rfl
@[simp] theorem setDbank_uda (k : Nat) (x : DramBank) : (s.setDbank k x).uda = s.uda := rfl
@[simp] theorem setDbank_disp (k : Nat) (x : DramBank) : (s.setDbank k x).disp = s.disp := rfl
@[simp] theorem setDbank_oru (k : Nat) (x : DramBank) : (s.setDbank k x).oru = s.oru := rfl
@[simp] theorem setDbank_cores (k : Nat) (x : DramBank) : (s.setDbank k x).cores = s.cores := rfl
@[simp] theorem setDbank_rdv (k : Nat) (x : DramBank) : (s.setDbank k x).rdv = s.rdv := rfl
@[simp] theorem setDbank_bio (k : Nat) (x : DramBank) : (s.setDbank k x).bio = s.bio := rfl
@[simp] theorem setDbank_dma (k : Nat) (x : DramBank) : (s.setDbank k x).dma = s.dma := rfl
@[simp] theorem setDbank_saf (k : Nat) (x : DramBank) : (s.setDbank k x).saf = s.saf := rfl
@[simp] theorem setDbank_snd (k : Nat) (x : DramBank) : (s.setDbank k x).snd = s.snd := rfl
@[simp] theorem setDbank_bin (k : Nat) (x : DramBank) : (s.setDbank k x).bin = s.bin := rfl
@[simp] theorem setDbank_boot (k : Nat) (x : DramBank) : (s.setDbank k x).boot = s.boot := rfl
@[simp] theorem setDbank_pending (k : Nat) (x : DramBank) : (s.setDbank k x).pending = s.pending := rfl
@[simp] theorem setDbank_rd (k : Nat) (x : DramBank) (k1 : Nat) : (s.setDbank k x).rd k1 = s.rd k1 := rfl
@[simp] theorem setDbank_thread (k : Nat) (x : DramBank) (t1 : Nat) : (s.setDbank k x).thread t1 = s.thread t1 := rfl
theorem dbank_setDbank (k : Nat) (x : DramBank) (k1 : Nat) : (s.setDbank k x).dbank k1 = if k1 = k then x else s.dbank k1 := tget_tset ..
@[simp] theorem dbank_setDbank_self (k : Nat) (x : DramBank) : (s.setDbank k x).dbank k = x := tget_tset_self ..

/-! `State.setDrank`. -/

@[simp] theorem setDrank_variant (k : Nat) (x : DramRank) : (s.setDrank k x).variant = s.variant := rfl
@[simp] theorem setDrank_now (k : Nat) (x : DramRank) : (s.setDrank k x).now = s.now := rfl
@[simp] theorem setDrank_dict (k : Nat) (x : DramRank) : (s.setDrank k x).dict = s.dict := rfl
@[simp] theorem setDrank_staged (k : Nat) (x : DramRank) : (s.setDrank k x).staged = s.staged := rfl
@[simp] theorem setDrank_octets (k : Nat) (x : DramRank) : (s.setDrank k x).octets = s.octets := rfl
@[simp] theorem setDrank_mem (k : Nat) (x : DramRank) : (s.setDrank k x).mem = s.mem := rfl
@[simp] theorem setDrank_firsts (k : Nat) (x : DramRank) : (s.setDrank k x).firsts = s.firsts := rfl
@[simp] theorem setDrank_freeCtr (k : Nat) (x : DramRank) : (s.setDrank k x).freeCtr = s.freeCtr := rfl
@[simp] theorem setDrank_opStatus (k : Nat) (x : DramRank) : (s.setDrank k x).opStatus = s.opStatus := rfl
@[simp] theorem setDrank_reply (k : Nat) (x : DramRank) : (s.setDrank k x).reply = s.reply := rfl
@[simp] theorem setDrank_abort (k : Nat) (x : DramRank) : (s.setDrank k x).abort = s.abort := rfl
@[simp] theorem setDrank_px (k : Nat) (x : DramRank) : (s.setDrank k x).px = s.px := rfl
@[simp] theorem setDrank_pc (k : Nat) (x : DramRank) : (s.setDrank k x).pc = s.pc := rfl
@[simp] theorem setDrank_br (k : Nat) (x : DramRank) : (s.setDrank k x).br = s.br := rfl
@[simp] theorem setDrank_orch (k : Nat) (x : DramRank) : (s.setDrank k x).orch = s.orch := rfl
@[simp] theorem setDrank_lode (k : Nat) (x : DramRank) : (s.setDrank k x).lode = s.lode := rfl
@[simp] theorem setDrank_chron (k : Nat) (x : DramRank) : (s.setDrank k x).chron = s.chron := rfl
@[simp] theorem setDrank_tm (k : Nat) (x : DramRank) : (s.setDrank k x).tm = s.tm := rfl
@[simp] theorem setDrank_alm (k : Nat) (x : DramRank) : (s.setDrank k x).alm = s.alm := rfl
@[simp] theorem setDrank_trc (k : Nat) (x : DramRank) : (s.setDrank k x).trc = s.trc := rfl
@[simp] theorem setDrank_uda (k : Nat) (x : DramRank) : (s.setDrank k x).uda = s.uda := rfl
@[simp] theorem setDrank_disp (k : Nat) (x : DramRank) : (s.setDrank k x).disp = s.disp := rfl
@[simp] theorem setDrank_oru (k : Nat) (x : DramRank) : (s.setDrank k x).oru = s.oru := rfl
@[simp] theorem setDrank_cores (k : Nat) (x : DramRank) : (s.setDrank k x).cores = s.cores := rfl
@[simp] theorem setDrank_rdv (k : Nat) (x : DramRank) : (s.setDrank k x).rdv = s.rdv := rfl
@[simp] theorem setDrank_bio (k : Nat) (x : DramRank) : (s.setDrank k x).bio = s.bio := rfl
@[simp] theorem setDrank_dma (k : Nat) (x : DramRank) : (s.setDrank k x).dma = s.dma := rfl
@[simp] theorem setDrank_saf (k : Nat) (x : DramRank) : (s.setDrank k x).saf = s.saf := rfl
@[simp] theorem setDrank_snd (k : Nat) (x : DramRank) : (s.setDrank k x).snd = s.snd := rfl
@[simp] theorem setDrank_bin (k : Nat) (x : DramRank) : (s.setDrank k x).bin = s.bin := rfl
@[simp] theorem setDrank_boot (k : Nat) (x : DramRank) : (s.setDrank k x).boot = s.boot := rfl
@[simp] theorem setDrank_pending (k : Nat) (x : DramRank) : (s.setDrank k x).pending = s.pending := rfl
@[simp] theorem setDrank_rd (k : Nat) (x : DramRank) (k1 : Nat) : (s.setDrank k x).rd k1 = s.rd k1 := rfl
@[simp] theorem setDrank_thread (k : Nat) (x : DramRank) (t1 : Nat) : (s.setDrank k x).thread t1 = s.thread t1 := rfl
theorem drank_setDrank (k : Nat) (x : DramRank) (k1 : Nat) : (s.setDrank k x).drank k1 = if k1 = k then x else s.drank k1 := tget_tset ..
@[simp] theorem drank_setDrank_self (k : Nat) (x : DramRank) : (s.setDrank k x).drank k = x := tget_tset_self ..

/-! `State.setXfer`. -/

@[simp] theorem setXfer_variant (ch : Nat) (x : Option DmaXfer) : (s.setXfer ch x).variant = s.variant := rfl
@[simp] theorem setXfer_now (ch : Nat) (x : Option DmaXfer) : (s.setXfer ch x).now = s.now := rfl
@[simp] theorem setXfer_dict (ch : Nat) (x : Option DmaXfer) : (s.setXfer ch x).dict = s.dict := rfl
@[simp] theorem setXfer_staged (ch : Nat) (x : Option DmaXfer) : (s.setXfer ch x).staged = s.staged := rfl
@[simp] theorem setXfer_octets (ch : Nat) (x : Option DmaXfer) : (s.setXfer ch x).octets = s.octets := rfl
@[simp] theorem setXfer_mem (ch : Nat) (x : Option DmaXfer) : (s.setXfer ch x).mem = s.mem := rfl
@[simp] theorem setXfer_firsts (ch : Nat) (x : Option DmaXfer) : (s.setXfer ch x).firsts = s.firsts := rfl
@[simp] theorem setXfer_freeCtr (ch : Nat) (x : Option DmaXfer) : (s.setXfer ch x).freeCtr = s.freeCtr := rfl
@[simp] theorem setXfer_opStatus (ch : Nat) (x : Option DmaXfer) : (s.setXfer ch x).opStatus = s.opStatus := rfl
@[simp] theorem setXfer_reply (ch : Nat) (x : Option DmaXfer) : (s.setXfer ch x).reply = s.reply := rfl
@[simp] theorem setXfer_abort (ch : Nat) (x : Option DmaXfer) : (s.setXfer ch x).abort = s.abort := rfl
@[simp] theorem setXfer_px (ch : Nat) (x : Option DmaXfer) : (s.setXfer ch x).px = s.px := rfl
@[simp] theorem setXfer_pc (ch : Nat) (x : Option DmaXfer) : (s.setXfer ch x).pc = s.pc := rfl
@[simp] theorem setXfer_br (ch : Nat) (x : Option DmaXfer) : (s.setXfer ch x).br = s.br := rfl
@[simp] theorem setXfer_orch (ch : Nat) (x : Option DmaXfer) : (s.setXfer ch x).orch = s.orch := rfl
@[simp] theorem setXfer_lode (ch : Nat) (x : Option DmaXfer) : (s.setXfer ch x).lode = s.lode := rfl
@[simp] theorem setXfer_chron (ch : Nat) (x : Option DmaXfer) : (s.setXfer ch x).chron = s.chron := rfl
@[simp] theorem setXfer_tm (ch : Nat) (x : Option DmaXfer) : (s.setXfer ch x).tm = s.tm := rfl
@[simp] theorem setXfer_alm (ch : Nat) (x : Option DmaXfer) : (s.setXfer ch x).alm = s.alm := rfl
@[simp] theorem setXfer_trc (ch : Nat) (x : Option DmaXfer) : (s.setXfer ch x).trc = s.trc := rfl
@[simp] theorem setXfer_uda (ch : Nat) (x : Option DmaXfer) : (s.setXfer ch x).uda = s.uda := rfl
@[simp] theorem setXfer_disp (ch : Nat) (x : Option DmaXfer) : (s.setXfer ch x).disp = s.disp := rfl
@[simp] theorem setXfer_oru (ch : Nat) (x : Option DmaXfer) : (s.setXfer ch x).oru = s.oru := rfl
@[simp] theorem setXfer_cores (ch : Nat) (x : Option DmaXfer) : (s.setXfer ch x).cores = s.cores := rfl
@[simp] theorem setXfer_rdv (ch : Nat) (x : Option DmaXfer) : (s.setXfer ch x).rdv = s.rdv := rfl
@[simp] theorem setXfer_bio (ch : Nat) (x : Option DmaXfer) : (s.setXfer ch x).bio = s.bio := rfl
@[simp] theorem setXfer_dram (ch : Nat) (x : Option DmaXfer) : (s.setXfer ch x).dram = s.dram := rfl
@[simp] theorem setXfer_saf (ch : Nat) (x : Option DmaXfer) : (s.setXfer ch x).saf = s.saf := rfl
@[simp] theorem setXfer_snd (ch : Nat) (x : Option DmaXfer) : (s.setXfer ch x).snd = s.snd := rfl
@[simp] theorem setXfer_bin (ch : Nat) (x : Option DmaXfer) : (s.setXfer ch x).bin = s.bin := rfl
@[simp] theorem setXfer_boot (ch : Nat) (x : Option DmaXfer) : (s.setXfer ch x).boot = s.boot := rfl
@[simp] theorem setXfer_pending (ch : Nat) (x : Option DmaXfer) : (s.setXfer ch x).pending = s.pending := rfl
@[simp] theorem setXfer_rd (ch : Nat) (x : Option DmaXfer) (k1 : Nat) : (s.setXfer ch x).rd k1 = s.rd k1 := rfl
@[simp] theorem setXfer_thread (ch : Nat) (x : Option DmaXfer) (t1 : Nat) : (s.setXfer ch x).thread t1 = s.thread t1 := rfl

/-! `State.otpSet`. -/

@[simp] theorem otpSet_variant (w v : Nat) : (s.otpSet w v).variant = s.variant := rfl
@[simp] theorem otpSet_now (w v : Nat) : (s.otpSet w v).now = s.now := rfl
@[simp] theorem otpSet_dict (w v : Nat) : (s.otpSet w v).dict = s.dict := rfl
@[simp] theorem otpSet_staged (w v : Nat) : (s.otpSet w v).staged = s.staged := rfl
@[simp] theorem otpSet_octets (w v : Nat) : (s.otpSet w v).octets = s.octets := rfl
@[simp] theorem otpSet_mem (w v : Nat) : (s.otpSet w v).mem = s.mem := rfl
@[simp] theorem otpSet_firsts (w v : Nat) : (s.otpSet w v).firsts = s.firsts := rfl
@[simp] theorem otpSet_freeCtr (w v : Nat) : (s.otpSet w v).freeCtr = s.freeCtr := rfl
@[simp] theorem otpSet_opStatus (w v : Nat) : (s.otpSet w v).opStatus = s.opStatus := rfl
@[simp] theorem otpSet_reply (w v : Nat) : (s.otpSet w v).reply = s.reply := rfl
@[simp] theorem otpSet_abort (w v : Nat) : (s.otpSet w v).abort = s.abort := rfl
@[simp] theorem otpSet_px (w v : Nat) : (s.otpSet w v).px = s.px := rfl
@[simp] theorem otpSet_pc (w v : Nat) : (s.otpSet w v).pc = s.pc := rfl
@[simp] theorem otpSet_br (w v : Nat) : (s.otpSet w v).br = s.br := rfl
@[simp] theorem otpSet_orch (w v : Nat) : (s.otpSet w v).orch = s.orch := rfl
@[simp] theorem otpSet_lode (w v : Nat) : (s.otpSet w v).lode = s.lode := rfl
@[simp] theorem otpSet_chron (w v : Nat) : (s.otpSet w v).chron = s.chron := rfl
@[simp] theorem otpSet_tm (w v : Nat) : (s.otpSet w v).tm = s.tm := rfl
@[simp] theorem otpSet_alm (w v : Nat) : (s.otpSet w v).alm = s.alm := rfl
@[simp] theorem otpSet_trc (w v : Nat) : (s.otpSet w v).trc = s.trc := rfl
@[simp] theorem otpSet_uda (w v : Nat) : (s.otpSet w v).uda = s.uda := rfl
@[simp] theorem otpSet_disp (w v : Nat) : (s.otpSet w v).disp = s.disp := rfl
@[simp] theorem otpSet_oru (w v : Nat) : (s.otpSet w v).oru = s.oru := rfl
@[simp] theorem otpSet_cores (w v : Nat) : (s.otpSet w v).cores = s.cores := rfl
@[simp] theorem otpSet_rdv (w v : Nat) : (s.otpSet w v).rdv = s.rdv := rfl
@[simp] theorem otpSet_bio (w v : Nat) : (s.otpSet w v).bio = s.bio := rfl
@[simp] theorem otpSet_dram (w v : Nat) : (s.otpSet w v).dram = s.dram := rfl
@[simp] theorem otpSet_dma (w v : Nat) : (s.otpSet w v).dma = s.dma := rfl
@[simp] theorem otpSet_saf (w v : Nat) : (s.otpSet w v).saf = s.saf := rfl
@[simp] theorem otpSet_snd (w v : Nat) : (s.otpSet w v).snd = s.snd := rfl
@[simp] theorem otpSet_boot (w v : Nat) : (s.otpSet w v).boot = s.boot := rfl
@[simp] theorem otpSet_pending (w v : Nat) : (s.otpSet w v).pending = s.pending := rfl
@[simp] theorem otpSet_rd (w v : Nat) (k1 : Nat) : (s.otpSet w v).rd k1 = s.rd k1 := rfl
@[simp] theorem otpSet_thread (w v : Nat) (t1 : Nat) : (s.otpSet w v).thread t1 = s.thread t1 := rfl
theorem otpWord_otpSet (w v : Nat) (w1 : Nat) : (s.otpSet w v).otpWord w1 = if w1 = w then (s.otpWord w ||| v % 2 ^ 32) else s.otpWord w1 := tget_tset ..
@[simp] theorem otpWord_otpSet_self (w v : Nat) : (s.otpSet w v).otpWord w = (s.otpWord w ||| v % 2 ^ 32) := tget_tset_self ..

/-! `State.setKeyEntry`. -/

@[simp] theorem setKeyEntry_variant (i : Nat) (e : KeyEntry) : (s.setKeyEntry i e).variant = s.variant := rfl
@[simp] theorem setKeyEntry_now (i : Nat) (e : KeyEntry) : (s.setKeyEntry i e).now = s.now := rfl
@[simp] theorem setKeyEntry_dict (i : Nat) (e : KeyEntry) : (s.setKeyEntry i e).dict = s.dict := rfl
@[simp] theorem setKeyEntry_staged (i : Nat) (e : KeyEntry) : (s.setKeyEntry i e).staged = s.staged := rfl
@[simp] theorem setKeyEntry_octets (i : Nat) (e : KeyEntry) : (s.setKeyEntry i e).octets = s.octets := rfl
@[simp] theorem setKeyEntry_mem (i : Nat) (e : KeyEntry) : (s.setKeyEntry i e).mem = s.mem := rfl
@[simp] theorem setKeyEntry_firsts (i : Nat) (e : KeyEntry) : (s.setKeyEntry i e).firsts = s.firsts := rfl
@[simp] theorem setKeyEntry_freeCtr (i : Nat) (e : KeyEntry) : (s.setKeyEntry i e).freeCtr = s.freeCtr := rfl
@[simp] theorem setKeyEntry_opStatus (i : Nat) (e : KeyEntry) : (s.setKeyEntry i e).opStatus = s.opStatus := rfl
@[simp] theorem setKeyEntry_reply (i : Nat) (e : KeyEntry) : (s.setKeyEntry i e).reply = s.reply := rfl
@[simp] theorem setKeyEntry_abort (i : Nat) (e : KeyEntry) : (s.setKeyEntry i e).abort = s.abort := rfl
@[simp] theorem setKeyEntry_px (i : Nat) (e : KeyEntry) : (s.setKeyEntry i e).px = s.px := rfl
@[simp] theorem setKeyEntry_pc (i : Nat) (e : KeyEntry) : (s.setKeyEntry i e).pc = s.pc := rfl
@[simp] theorem setKeyEntry_br (i : Nat) (e : KeyEntry) : (s.setKeyEntry i e).br = s.br := rfl
@[simp] theorem setKeyEntry_orch (i : Nat) (e : KeyEntry) : (s.setKeyEntry i e).orch = s.orch := rfl
@[simp] theorem setKeyEntry_lode (i : Nat) (e : KeyEntry) : (s.setKeyEntry i e).lode = s.lode := rfl
@[simp] theorem setKeyEntry_chron (i : Nat) (e : KeyEntry) : (s.setKeyEntry i e).chron = s.chron := rfl
@[simp] theorem setKeyEntry_tm (i : Nat) (e : KeyEntry) : (s.setKeyEntry i e).tm = s.tm := rfl
@[simp] theorem setKeyEntry_alm (i : Nat) (e : KeyEntry) : (s.setKeyEntry i e).alm = s.alm := rfl
@[simp] theorem setKeyEntry_trc (i : Nat) (e : KeyEntry) : (s.setKeyEntry i e).trc = s.trc := rfl
@[simp] theorem setKeyEntry_uda (i : Nat) (e : KeyEntry) : (s.setKeyEntry i e).uda = s.uda := rfl
@[simp] theorem setKeyEntry_disp (i : Nat) (e : KeyEntry) : (s.setKeyEntry i e).disp = s.disp := rfl
@[simp] theorem setKeyEntry_oru (i : Nat) (e : KeyEntry) : (s.setKeyEntry i e).oru = s.oru := rfl
@[simp] theorem setKeyEntry_cores (i : Nat) (e : KeyEntry) : (s.setKeyEntry i e).cores = s.cores := rfl
@[simp] theorem setKeyEntry_rdv (i : Nat) (e : KeyEntry) : (s.setKeyEntry i e).rdv = s.rdv := rfl
@[simp] theorem setKeyEntry_bio (i : Nat) (e : KeyEntry) : (s.setKeyEntry i e).bio = s.bio := rfl
@[simp] theorem setKeyEntry_dram (i : Nat) (e : KeyEntry) : (s.setKeyEntry i e).dram = s.dram := rfl
@[simp] theorem setKeyEntry_dma (i : Nat) (e : KeyEntry) : (s.setKeyEntry i e).dma = s.dma := rfl
@[simp] theorem setKeyEntry_saf (i : Nat) (e : KeyEntry) : (s.setKeyEntry i e).saf = s.saf := rfl
@[simp] theorem setKeyEntry_snd (i : Nat) (e : KeyEntry) : (s.setKeyEntry i e).snd = s.snd := rfl
@[simp] theorem setKeyEntry_boot (i : Nat) (e : KeyEntry) : (s.setKeyEntry i e).boot = s.boot := rfl
@[simp] theorem setKeyEntry_pending (i : Nat) (e : KeyEntry) : (s.setKeyEntry i e).pending = s.pending := rfl
@[simp] theorem setKeyEntry_rd (i : Nat) (e : KeyEntry) (k1 : Nat) : (s.setKeyEntry i e).rd k1 = s.rd k1 := rfl
@[simp] theorem setKeyEntry_thread (i : Nat) (e : KeyEntry) (t1 : Nat) : (s.setKeyEntry i e).thread t1 = s.thread t1 := rfl
theorem keyEntry_setKeyEntry (i : Nat) (e : KeyEntry) (i1 : Nat) : (s.setKeyEntry i e).keyEntry i1 = if i1 = i then e else s.keyEntry i1 := tget_tset ..
@[simp] theorem keyEntry_setKeyEntry_self (i : Nat) (e : KeyEntry) : (s.setKeyEntry i e).keyEntry i = e := tget_tset_self ..

/-! `State.setDomItem`. -/

@[simp] theorem setDomItem_variant (d pos : Nat) (b : List Byte) : (s.setDomItem d pos b).variant = s.variant := rfl
@[simp] theorem setDomItem_now (d pos : Nat) (b : List Byte) : (s.setDomItem d pos b).now = s.now := rfl
@[simp] theorem setDomItem_dict (d pos : Nat) (b : List Byte) : (s.setDomItem d pos b).dict = s.dict := rfl
@[simp] theorem setDomItem_staged (d pos : Nat) (b : List Byte) : (s.setDomItem d pos b).staged = s.staged := rfl
@[simp] theorem setDomItem_octets (d pos : Nat) (b : List Byte) : (s.setDomItem d pos b).octets = s.octets := rfl
@[simp] theorem setDomItem_mem (d pos : Nat) (b : List Byte) : (s.setDomItem d pos b).mem = s.mem := rfl
@[simp] theorem setDomItem_firsts (d pos : Nat) (b : List Byte) : (s.setDomItem d pos b).firsts = s.firsts := rfl
@[simp] theorem setDomItem_freeCtr (d pos : Nat) (b : List Byte) : (s.setDomItem d pos b).freeCtr = s.freeCtr := rfl
@[simp] theorem setDomItem_opStatus (d pos : Nat) (b : List Byte) : (s.setDomItem d pos b).opStatus = s.opStatus := rfl
@[simp] theorem setDomItem_reply (d pos : Nat) (b : List Byte) : (s.setDomItem d pos b).reply = s.reply := rfl
@[simp] theorem setDomItem_abort (d pos : Nat) (b : List Byte) : (s.setDomItem d pos b).abort = s.abort := rfl
@[simp] theorem setDomItem_px (d pos : Nat) (b : List Byte) : (s.setDomItem d pos b).px = s.px := rfl
@[simp] theorem setDomItem_pc (d pos : Nat) (b : List Byte) : (s.setDomItem d pos b).pc = s.pc := rfl
@[simp] theorem setDomItem_br (d pos : Nat) (b : List Byte) : (s.setDomItem d pos b).br = s.br := rfl
@[simp] theorem setDomItem_orch (d pos : Nat) (b : List Byte) : (s.setDomItem d pos b).orch = s.orch := rfl
@[simp] theorem setDomItem_lode (d pos : Nat) (b : List Byte) : (s.setDomItem d pos b).lode = s.lode := rfl
@[simp] theorem setDomItem_chron (d pos : Nat) (b : List Byte) : (s.setDomItem d pos b).chron = s.chron := rfl
@[simp] theorem setDomItem_tm (d pos : Nat) (b : List Byte) : (s.setDomItem d pos b).tm = s.tm := rfl
@[simp] theorem setDomItem_alm (d pos : Nat) (b : List Byte) : (s.setDomItem d pos b).alm = s.alm := rfl
@[simp] theorem setDomItem_trc (d pos : Nat) (b : List Byte) : (s.setDomItem d pos b).trc = s.trc := rfl
@[simp] theorem setDomItem_disp (d pos : Nat) (b : List Byte) : (s.setDomItem d pos b).disp = s.disp := rfl
@[simp] theorem setDomItem_oru (d pos : Nat) (b : List Byte) : (s.setDomItem d pos b).oru = s.oru := rfl
@[simp] theorem setDomItem_cores (d pos : Nat) (b : List Byte) : (s.setDomItem d pos b).cores = s.cores := rfl
@[simp] theorem setDomItem_rdv (d pos : Nat) (b : List Byte) : (s.setDomItem d pos b).rdv = s.rdv := rfl
@[simp] theorem setDomItem_bio (d pos : Nat) (b : List Byte) : (s.setDomItem d pos b).bio = s.bio := rfl
@[simp] theorem setDomItem_dram (d pos : Nat) (b : List Byte) : (s.setDomItem d pos b).dram = s.dram := rfl
@[simp] theorem setDomItem_dma (d pos : Nat) (b : List Byte) : (s.setDomItem d pos b).dma = s.dma := rfl
@[simp] theorem setDomItem_saf (d pos : Nat) (b : List Byte) : (s.setDomItem d pos b).saf = s.saf := rfl
@[simp] theorem setDomItem_snd (d pos : Nat) (b : List Byte) : (s.setDomItem d pos b).snd = s.snd := rfl
@[simp] theorem setDomItem_bin (d pos : Nat) (b : List Byte) : (s.setDomItem d pos b).bin = s.bin := rfl
@[simp] theorem setDomItem_boot (d pos : Nat) (b : List Byte) : (s.setDomItem d pos b).boot = s.boot := rfl
@[simp] theorem setDomItem_pending (d pos : Nat) (b : List Byte) : (s.setDomItem d pos b).pending = s.pending := rfl
@[simp] theorem setDomItem_rd (d pos : Nat) (b : List Byte) (k1 : Nat) : (s.setDomItem d pos b).rd k1 = s.rd k1 := rfl
@[simp] theorem setDomItem_thread (d pos : Nat) (b : List Byte) (t1 : Nat) : (s.setDomItem d pos b).thread t1 = s.thread t1 := rfl

/-! `State.setOps`. -/

@[simp] theorem setOps_variant (c : Nat) (l : List HOp) : (s.setOps c l).variant = s.variant := rfl
@[simp] theorem setOps_now (c : Nat) (l : List HOp) : (s.setOps c l).now = s.now := rfl
@[simp] theorem setOps_dict (c : Nat) (l : List HOp) : (s.setOps c l).dict = s.dict := rfl
@[simp] theorem setOps_staged (c : Nat) (l : List HOp) : (s.setOps c l).staged = s.staged := rfl
@[simp] theorem setOps_octets (c : Nat) (l : List HOp) : (s.setOps c l).octets = s.octets := rfl
@[simp] theorem setOps_mem (c : Nat) (l : List HOp) : (s.setOps c l).mem = s.mem := rfl
@[simp] theorem setOps_firsts (c : Nat) (l : List HOp) : (s.setOps c l).firsts = s.firsts := rfl
@[simp] theorem setOps_freeCtr (c : Nat) (l : List HOp) : (s.setOps c l).freeCtr = s.freeCtr := rfl
@[simp] theorem setOps_opStatus (c : Nat) (l : List HOp) : (s.setOps c l).opStatus = s.opStatus := rfl
@[simp] theorem setOps_reply (c : Nat) (l : List HOp) : (s.setOps c l).reply = s.reply := rfl
@[simp] theorem setOps_abort (c : Nat) (l : List HOp) : (s.setOps c l).abort = s.abort := rfl
@[simp] theorem setOps_px (c : Nat) (l : List HOp) : (s.setOps c l).px = s.px := rfl
@[simp] theorem setOps_pc (c : Nat) (l : List HOp) : (s.setOps c l).pc = s.pc := rfl
@[simp] theorem setOps_br (c : Nat) (l : List HOp) : (s.setOps c l).br = s.br := rfl
@[simp] theorem setOps_orch (c : Nat) (l : List HOp) : (s.setOps c l).orch = s.orch := rfl
@[simp] theorem setOps_lode (c : Nat) (l : List HOp) : (s.setOps c l).lode = s.lode := rfl
@[simp] theorem setOps_chron (c : Nat) (l : List HOp) : (s.setOps c l).chron = s.chron := rfl
@[simp] theorem setOps_tm (c : Nat) (l : List HOp) : (s.setOps c l).tm = s.tm := rfl
@[simp] theorem setOps_alm (c : Nat) (l : List HOp) : (s.setOps c l).alm = s.alm := rfl
@[simp] theorem setOps_trc (c : Nat) (l : List HOp) : (s.setOps c l).trc = s.trc := rfl
@[simp] theorem setOps_uda (c : Nat) (l : List HOp) : (s.setOps c l).uda = s.uda := rfl
@[simp] theorem setOps_disp (c : Nat) (l : List HOp) : (s.setOps c l).disp = s.disp := rfl
@[simp] theorem setOps_oru (c : Nat) (l : List HOp) : (s.setOps c l).oru = s.oru := rfl
@[simp] theorem setOps_rdv (c : Nat) (l : List HOp) : (s.setOps c l).rdv = s.rdv := rfl
@[simp] theorem setOps_bio (c : Nat) (l : List HOp) : (s.setOps c l).bio = s.bio := rfl
@[simp] theorem setOps_dram (c : Nat) (l : List HOp) : (s.setOps c l).dram = s.dram := rfl
@[simp] theorem setOps_dma (c : Nat) (l : List HOp) : (s.setOps c l).dma = s.dma := rfl
@[simp] theorem setOps_saf (c : Nat) (l : List HOp) : (s.setOps c l).saf = s.saf := rfl
@[simp] theorem setOps_snd (c : Nat) (l : List HOp) : (s.setOps c l).snd = s.snd := rfl
@[simp] theorem setOps_bin (c : Nat) (l : List HOp) : (s.setOps c l).bin = s.bin := rfl
@[simp] theorem setOps_boot (c : Nat) (l : List HOp) : (s.setOps c l).boot = s.boot := rfl
@[simp] theorem setOps_pending (c : Nat) (l : List HOp) : (s.setOps c l).pending = s.pending := rfl
@[simp] theorem setOps_rd (c : Nat) (l : List HOp) (k1 : Nat) : (s.setOps c l).rd k1 = s.rd k1 := rfl
@[simp] theorem setOps_thread (c : Nat) (l : List HOp) (t1 : Nat) : (s.setOps c l).thread t1 = s.thread t1 := rfl
theorem ops_setOps (c : Nat) (l : List HOp) (c1 : Nat) : (s.setOps c l).ops c1 = if c1 = c then l else s.ops c1 := tget_tset ..
@[simp] theorem ops_setOps_self (c : Nat) (l : List HOp) : (s.setOps c l).ops c = l := tget_tset_self ..

/-! `State.setPin`. -/

@[simp] theorem setPin_variant (i : Nat) (x : Pin) : (s.setPin i x).variant = s.variant := rfl
@[simp] theorem setPin_now (i : Nat) (x : Pin) : (s.setPin i x).now = s.now := rfl
@[simp] theorem setPin_dict (i : Nat) (x : Pin) : (s.setPin i x).dict = s.dict := rfl
@[simp] theorem setPin_staged (i : Nat) (x : Pin) : (s.setPin i x).staged = s.staged := rfl
@[simp] theorem setPin_octets (i : Nat) (x : Pin) : (s.setPin i x).octets = s.octets := rfl
@[simp] theorem setPin_mem (i : Nat) (x : Pin) : (s.setPin i x).mem = s.mem := rfl
@[simp] theorem setPin_firsts (i : Nat) (x : Pin) : (s.setPin i x).firsts = s.firsts := rfl
@[simp] theorem setPin_freeCtr (i : Nat) (x : Pin) : (s.setPin i x).freeCtr = s.freeCtr := rfl
@[simp] theorem setPin_opStatus (i : Nat) (x : Pin) : (s.setPin i x).opStatus = s.opStatus := rfl
@[simp] theorem setPin_reply (i : Nat) (x : Pin) : (s.setPin i x).reply = s.reply := rfl
@[simp] theorem setPin_abort (i : Nat) (x : Pin) : (s.setPin i x).abort = s.abort := rfl
@[simp] theorem setPin_px (i : Nat) (x : Pin) : (s.setPin i x).px = s.px := rfl
@[simp] theorem setPin_pc (i : Nat) (x : Pin) : (s.setPin i x).pc = s.pc := rfl
@[simp] theorem setPin_br (i : Nat) (x : Pin) : (s.setPin i x).br = s.br := rfl
@[simp] theorem setPin_orch (i : Nat) (x : Pin) : (s.setPin i x).orch = s.orch := rfl
@[simp] theorem setPin_lode (i : Nat) (x : Pin) : (s.setPin i x).lode = s.lode := rfl
@[simp] theorem setPin_chron (i : Nat) (x : Pin) : (s.setPin i x).chron = s.chron := rfl
@[simp] theorem setPin_tm (i : Nat) (x : Pin) : (s.setPin i x).tm = s.tm := rfl
@[simp] theorem setPin_alm (i : Nat) (x : Pin) : (s.setPin i x).alm = s.alm := rfl
@[simp] theorem setPin_trc (i : Nat) (x : Pin) : (s.setPin i x).trc = s.trc := rfl
@[simp] theorem setPin_uda (i : Nat) (x : Pin) : (s.setPin i x).uda = s.uda := rfl
@[simp] theorem setPin_disp (i : Nat) (x : Pin) : (s.setPin i x).disp = s.disp := rfl
@[simp] theorem setPin_oru (i : Nat) (x : Pin) : (s.setPin i x).oru = s.oru := rfl
@[simp] theorem setPin_cores (i : Nat) (x : Pin) : (s.setPin i x).cores = s.cores := rfl
@[simp] theorem setPin_rdv (i : Nat) (x : Pin) : (s.setPin i x).rdv = s.rdv := rfl
@[simp] theorem setPin_dram (i : Nat) (x : Pin) : (s.setPin i x).dram = s.dram := rfl
@[simp] theorem setPin_dma (i : Nat) (x : Pin) : (s.setPin i x).dma = s.dma := rfl
@[simp] theorem setPin_saf (i : Nat) (x : Pin) : (s.setPin i x).saf = s.saf := rfl
@[simp] theorem setPin_snd (i : Nat) (x : Pin) : (s.setPin i x).snd = s.snd := rfl
@[simp] theorem setPin_bin (i : Nat) (x : Pin) : (s.setPin i x).bin = s.bin := rfl
@[simp] theorem setPin_boot (i : Nat) (x : Pin) : (s.setPin i x).boot = s.boot := rfl
@[simp] theorem setPin_pending (i : Nat) (x : Pin) : (s.setPin i x).pending = s.pending := rfl
@[simp] theorem setPin_rd (i : Nat) (x : Pin) (k1 : Nat) : (s.setPin i x).rd k1 = s.rd k1 := rfl
@[simp] theorem setPin_thread (i : Nat) (x : Pin) (t1 : Nat) : (s.setPin i x).thread t1 = s.thread t1 := rfl
theorem pin_setPin (i : Nat) (x : Pin) (i1 : Nat) : (s.setPin i x).pin i1 = if i1 = i then x else s.pin i1 := tget_tset ..
@[simp] theorem pin_setPin_self (i : Nat) (x : Pin) : (s.setPin i x).pin i = x := tget_tset_self ..

/-! `State.setUnit`. -/

@[simp] theorem setUnit_variant (u : Nat) (a : Assist) : (s.setUnit u a).variant = s.variant := rfl
@[simp] theorem setUnit_now (u : Nat) (a : Assist) : (s.setUnit u a).now = s.now := rfl
@[simp] theorem setUnit_dict (u : Nat) (a : Assist) : (s.setUnit u a).dict = s.dict := rfl
@[simp] theorem setUnit_staged (u : Nat) (a : Assist) : (s.setUnit u a).staged = s.staged := rfl
@[simp] theorem setUnit_octets (u : Nat) (a : Assist) : (s.setUnit u a).octets = s.octets := rfl
@[simp] theorem setUnit_mem (u : Nat) (a : Assist) : (s.setUnit u a).mem = s.mem := rfl
@[simp] theorem setUnit_firsts (u : Nat) (a : Assist) : (s.setUnit u a).firsts = s.firsts := rfl
@[simp] theorem setUnit_freeCtr (u : Nat) (a : Assist) : (s.setUnit u a).freeCtr = s.freeCtr := rfl
@[simp] theorem setUnit_opStatus (u : Nat) (a : Assist) : (s.setUnit u a).opStatus = s.opStatus := rfl
@[simp] theorem setUnit_reply (u : Nat) (a : Assist) : (s.setUnit u a).reply = s.reply := rfl
@[simp] theorem setUnit_abort (u : Nat) (a : Assist) : (s.setUnit u a).abort = s.abort := rfl
@[simp] theorem setUnit_px (u : Nat) (a : Assist) : (s.setUnit u a).px = s.px := rfl
@[simp] theorem setUnit_pc (u : Nat) (a : Assist) : (s.setUnit u a).pc = s.pc := rfl
@[simp] theorem setUnit_br (u : Nat) (a : Assist) : (s.setUnit u a).br = s.br := rfl
@[simp] theorem setUnit_orch (u : Nat) (a : Assist) : (s.setUnit u a).orch = s.orch := rfl
@[simp] theorem setUnit_lode (u : Nat) (a : Assist) : (s.setUnit u a).lode = s.lode := rfl
@[simp] theorem setUnit_chron (u : Nat) (a : Assist) : (s.setUnit u a).chron = s.chron := rfl
@[simp] theorem setUnit_tm (u : Nat) (a : Assist) : (s.setUnit u a).tm = s.tm := rfl
@[simp] theorem setUnit_alm (u : Nat) (a : Assist) : (s.setUnit u a).alm = s.alm := rfl
@[simp] theorem setUnit_trc (u : Nat) (a : Assist) : (s.setUnit u a).trc = s.trc := rfl
@[simp] theorem setUnit_uda (u : Nat) (a : Assist) : (s.setUnit u a).uda = s.uda := rfl
@[simp] theorem setUnit_disp (u : Nat) (a : Assist) : (s.setUnit u a).disp = s.disp := rfl
@[simp] theorem setUnit_oru (u : Nat) (a : Assist) : (s.setUnit u a).oru = s.oru := rfl
@[simp] theorem setUnit_cores (u : Nat) (a : Assist) : (s.setUnit u a).cores = s.cores := rfl
@[simp] theorem setUnit_rdv (u : Nat) (a : Assist) : (s.setUnit u a).rdv = s.rdv := rfl
@[simp] theorem setUnit_dram (u : Nat) (a : Assist) : (s.setUnit u a).dram = s.dram := rfl
@[simp] theorem setUnit_dma (u : Nat) (a : Assist) : (s.setUnit u a).dma = s.dma := rfl
@[simp] theorem setUnit_saf (u : Nat) (a : Assist) : (s.setUnit u a).saf = s.saf := rfl
@[simp] theorem setUnit_snd (u : Nat) (a : Assist) : (s.setUnit u a).snd = s.snd := rfl
@[simp] theorem setUnit_bin (u : Nat) (a : Assist) : (s.setUnit u a).bin = s.bin := rfl
@[simp] theorem setUnit_boot (u : Nat) (a : Assist) : (s.setUnit u a).boot = s.boot := rfl
@[simp] theorem setUnit_pending (u : Nat) (a : Assist) : (s.setUnit u a).pending = s.pending := rfl
@[simp] theorem setUnit_rd (u : Nat) (a : Assist) (k1 : Nat) : (s.setUnit u a).rd k1 = s.rd k1 := rfl
@[simp] theorem setUnit_thread (u : Nat) (a : Assist) (t1 : Nat) : (s.setUnit u a).thread t1 = s.thread t1 := rfl
theorem unit__setUnit (u : Nat) (a : Assist) (u1 : Nat) : (s.setUnit u a).unit_ u1 = if u1 = u then a else s.unit_ u1 := tget_tset ..
@[simp] theorem unit__setUnit_self (u : Nat) (a : Assist) : (s.setUnit u a).unit_ u = a := tget_tset_self ..

/-! `State.setUpStream`. -/

@[simp] theorem setUpStream_variant (k : Nat) (x : UpStream) : (s.setUpStream k x).variant = s.variant := rfl
@[simp] theorem setUpStream_now (k : Nat) (x : UpStream) : (s.setUpStream k x).now = s.now := rfl
@[simp] theorem setUpStream_dict (k : Nat) (x : UpStream) : (s.setUpStream k x).dict = s.dict := rfl
@[simp] theorem setUpStream_staged (k : Nat) (x : UpStream) : (s.setUpStream k x).staged = s.staged := rfl
@[simp] theorem setUpStream_octets (k : Nat) (x : UpStream) : (s.setUpStream k x).octets = s.octets := rfl
@[simp] theorem setUpStream_mem (k : Nat) (x : UpStream) : (s.setUpStream k x).mem = s.mem := rfl
@[simp] theorem setUpStream_firsts (k : Nat) (x : UpStream) : (s.setUpStream k x).firsts = s.firsts := rfl
@[simp] theorem setUpStream_freeCtr (k : Nat) (x : UpStream) : (s.setUpStream k x).freeCtr = s.freeCtr := rfl
@[simp] theorem setUpStream_opStatus (k : Nat) (x : UpStream) : (s.setUpStream k x).opStatus = s.opStatus := rfl
@[simp] theorem setUpStream_reply (k : Nat) (x : UpStream) : (s.setUpStream k x).reply = s.reply := rfl
@[simp] theorem setUpStream_abort (k : Nat) (x : UpStream) : (s.setUpStream k x).abort = s.abort := rfl
@[simp] theorem setUpStream_px (k : Nat) (x : UpStream) : (s.setUpStream k x).px = s.px := rfl
@[simp] theorem setUpStream_pc (k : Nat) (x : UpStream) : (s.setUpStream k x).pc = s.pc := rfl
@[simp] theorem setUpStream_br (k : Nat) (x : UpStream) : (s.setUpStream k x).br = s.br := rfl
@[simp] theorem setUpStream_orch (k : Nat) (x : UpStream) : (s.setUpStream k x).orch = s.orch := rfl
@[simp] theorem setUpStream_lode (k : Nat) (x : UpStream) : (s.setUpStream k x).lode = s.lode := rfl
@[simp] theorem setUpStream_chron (k : Nat) (x : UpStream) : (s.setUpStream k x).chron = s.chron := rfl
@[simp] theorem setUpStream_tm (k : Nat) (x : UpStream) : (s.setUpStream k x).tm = s.tm := rfl
@[simp] theorem setUpStream_alm (k : Nat) (x : UpStream) : (s.setUpStream k x).alm = s.alm := rfl
@[simp] theorem setUpStream_trc (k : Nat) (x : UpStream) : (s.setUpStream k x).trc = s.trc := rfl
@[simp] theorem setUpStream_uda (k : Nat) (x : UpStream) : (s.setUpStream k x).uda = s.uda := rfl
@[simp] theorem setUpStream_disp (k : Nat) (x : UpStream) : (s.setUpStream k x).disp = s.disp := rfl
@[simp] theorem setUpStream_oru (k : Nat) (x : UpStream) : (s.setUpStream k x).oru = s.oru := rfl
@[simp] theorem setUpStream_cores (k : Nat) (x : UpStream) : (s.setUpStream k x).cores = s.cores := rfl
@[simp] theorem setUpStream_rdv (k : Nat) (x : UpStream) : (s.setUpStream k x).rdv = s.rdv := rfl
@[simp] theorem setUpStream_dram (k : Nat) (x : UpStream) : (s.setUpStream k x).dram = s.dram := rfl
@[simp] theorem setUpStream_dma (k : Nat) (x : UpStream) : (s.setUpStream k x).dma = s.dma := rfl
@[simp] theorem setUpStream_saf (k : Nat) (x : UpStream) : (s.setUpStream k x).saf = s.saf := rfl
@[simp] theorem setUpStream_snd (k : Nat) (x : UpStream) : (s.setUpStream k x).snd = s.snd := rfl
@[simp] theorem setUpStream_bin (k : Nat) (x : UpStream) : (s.setUpStream k x).bin = s.bin := rfl
@[simp] theorem setUpStream_boot (k : Nat) (x : UpStream) : (s.setUpStream k x).boot = s.boot := rfl
@[simp] theorem setUpStream_pending (k : Nat) (x : UpStream) : (s.setUpStream k x).pending = s.pending := rfl
@[simp] theorem setUpStream_rd (k : Nat) (x : UpStream) (k1 : Nat) : (s.setUpStream k x).rd k1 = s.rd k1 := rfl
@[simp] theorem setUpStream_thread (k : Nat) (x : UpStream) (t1 : Nat) : (s.setUpStream k x).thread t1 = s.thread t1 := rfl
theorem upStream_setUpStream (k : Nat) (x : UpStream) (k1 : Nat) : (s.setUpStream k x).upStream k1 = if k1 = k then x else s.upStream k1 := tget_tset ..
@[simp] theorem upStream_setUpStream_self (k : Nat) (x : UpStream) : (s.setUpStream k x).upStream k = x := tget_tset_self ..

/-! `State.setDomain`. -/

@[simp] theorem setDomain_variant (d : Nat) (x : TimeDomain) : (s.setDomain d x).variant = s.variant := rfl
@[simp] theorem setDomain_now (d : Nat) (x : TimeDomain) : (s.setDomain d x).now = s.now := rfl
@[simp] theorem setDomain_dict (d : Nat) (x : TimeDomain) : (s.setDomain d x).dict = s.dict := rfl
@[simp] theorem setDomain_staged (d : Nat) (x : TimeDomain) : (s.setDomain d x).staged = s.staged := rfl
@[simp] theorem setDomain_octets (d : Nat) (x : TimeDomain) : (s.setDomain d x).octets = s.octets := rfl
@[simp] theorem setDomain_mem (d : Nat) (x : TimeDomain) : (s.setDomain d x).mem = s.mem := rfl
@[simp] theorem setDomain_firsts (d : Nat) (x : TimeDomain) : (s.setDomain d x).firsts = s.firsts := rfl
@[simp] theorem setDomain_freeCtr (d : Nat) (x : TimeDomain) : (s.setDomain d x).freeCtr = s.freeCtr := rfl
@[simp] theorem setDomain_opStatus (d : Nat) (x : TimeDomain) : (s.setDomain d x).opStatus = s.opStatus := rfl
@[simp] theorem setDomain_reply (d : Nat) (x : TimeDomain) : (s.setDomain d x).reply = s.reply := rfl
@[simp] theorem setDomain_abort (d : Nat) (x : TimeDomain) : (s.setDomain d x).abort = s.abort := rfl
@[simp] theorem setDomain_px (d : Nat) (x : TimeDomain) : (s.setDomain d x).px = s.px := rfl
@[simp] theorem setDomain_pc (d : Nat) (x : TimeDomain) : (s.setDomain d x).pc = s.pc := rfl
@[simp] theorem setDomain_br (d : Nat) (x : TimeDomain) : (s.setDomain d x).br = s.br := rfl
@[simp] theorem setDomain_orch (d : Nat) (x : TimeDomain) : (s.setDomain d x).orch = s.orch := rfl
@[simp] theorem setDomain_lode (d : Nat) (x : TimeDomain) : (s.setDomain d x).lode = s.lode := rfl
@[simp] theorem setDomain_tm (d : Nat) (x : TimeDomain) : (s.setDomain d x).tm = s.tm := rfl
@[simp] theorem setDomain_alm (d : Nat) (x : TimeDomain) : (s.setDomain d x).alm = s.alm := rfl
@[simp] theorem setDomain_trc (d : Nat) (x : TimeDomain) : (s.setDomain d x).trc = s.trc := rfl
@[simp] theorem setDomain_uda (d : Nat) (x : TimeDomain) : (s.setDomain d x).uda = s.uda := rfl
@[simp] theorem setDomain_disp (d : Nat) (x : TimeDomain) : (s.setDomain d x).disp = s.disp := rfl
@[simp] theorem setDomain_oru (d : Nat) (x : TimeDomain) : (s.setDomain d x).oru = s.oru := rfl
@[simp] theorem setDomain_cores (d : Nat) (x : TimeDomain) : (s.setDomain d x).cores = s.cores := rfl
@[simp] theorem setDomain_rdv (d : Nat) (x : TimeDomain) : (s.setDomain d x).rdv = s.rdv := rfl
@[simp] theorem setDomain_bio (d : Nat) (x : TimeDomain) : (s.setDomain d x).bio = s.bio := rfl
@[simp] theorem setDomain_dram (d : Nat) (x : TimeDomain) : (s.setDomain d x).dram = s.dram := rfl
@[simp] theorem setDomain_dma (d : Nat) (x : TimeDomain) : (s.setDomain d x).dma = s.dma := rfl
@[simp] theorem setDomain_saf (d : Nat) (x : TimeDomain) : (s.setDomain d x).saf = s.saf := rfl
@[simp] theorem setDomain_snd (d : Nat) (x : TimeDomain) : (s.setDomain d x).snd = s.snd := rfl
@[simp] theorem setDomain_bin (d : Nat) (x : TimeDomain) : (s.setDomain d x).bin = s.bin := rfl
@[simp] theorem setDomain_boot (d : Nat) (x : TimeDomain) : (s.setDomain d x).boot = s.boot := rfl
@[simp] theorem setDomain_pending (d : Nat) (x : TimeDomain) : (s.setDomain d x).pending = s.pending := rfl
@[simp] theorem setDomain_rd (d : Nat) (x : TimeDomain) (k1 : Nat) : (s.setDomain d x).rd k1 = s.rd k1 := rfl
theorem domain_setDomain (d : Nat) (x : TimeDomain) (d1 : Nat) : (s.setDomain d x).domain d1 = if d1 = d then x else s.domain d1 := tget_tset ..
@[simp] theorem domain_setDomain_self (d : Nat) (x : TimeDomain) : (s.setDomain d x).domain d = x := tget_tset_self ..
@[simp] theorem setDomain_thread (d : Nat) (x : TimeDomain) (t1 : Nat) : (s.setDomain d x).thread t1 = s.thread t1 := rfl

/-! `State.setSession`. -/

@[simp] theorem setSession_variant (j : Nat) (x : Session) : (s.setSession j x).variant = s.variant := rfl
@[simp] theorem setSession_now (j : Nat) (x : Session) : (s.setSession j x).now = s.now := rfl
@[simp] theorem setSession_dict (j : Nat) (x : Session) : (s.setSession j x).dict = s.dict := rfl
@[simp] theorem setSession_staged (j : Nat) (x : Session) : (s.setSession j x).staged = s.staged := rfl
@[simp] theorem setSession_octets (j : Nat) (x : Session) : (s.setSession j x).octets = s.octets := rfl
@[simp] theorem setSession_mem (j : Nat) (x : Session) : (s.setSession j x).mem = s.mem := rfl
@[simp] theorem setSession_firsts (j : Nat) (x : Session) : (s.setSession j x).firsts = s.firsts := rfl
@[simp] theorem setSession_freeCtr (j : Nat) (x : Session) : (s.setSession j x).freeCtr = s.freeCtr := rfl
@[simp] theorem setSession_opStatus (j : Nat) (x : Session) : (s.setSession j x).opStatus = s.opStatus := rfl
@[simp] theorem setSession_reply (j : Nat) (x : Session) : (s.setSession j x).reply = s.reply := rfl
@[simp] theorem setSession_abort (j : Nat) (x : Session) : (s.setSession j x).abort = s.abort := rfl
@[simp] theorem setSession_px (j : Nat) (x : Session) : (s.setSession j x).px = s.px := rfl
@[simp] theorem setSession_pc (j : Nat) (x : Session) : (s.setSession j x).pc = s.pc := rfl
@[simp] theorem setSession_br (j : Nat) (x : Session) : (s.setSession j x).br = s.br := rfl
@[simp] theorem setSession_orch (j : Nat) (x : Session) : (s.setSession j x).orch = s.orch := rfl
@[simp] theorem setSession_lode (j : Nat) (x : Session) : (s.setSession j x).lode = s.lode := rfl
@[simp] theorem setSession_chron (j : Nat) (x : Session) : (s.setSession j x).chron = s.chron := rfl
@[simp] theorem setSession_tm (j : Nat) (x : Session) : (s.setSession j x).tm = s.tm := rfl
@[simp] theorem setSession_alm (j : Nat) (x : Session) : (s.setSession j x).alm = s.alm := rfl
@[simp] theorem setSession_trc (j : Nat) (x : Session) : (s.setSession j x).trc = s.trc := rfl
@[simp] theorem setSession_disp (j : Nat) (x : Session) : (s.setSession j x).disp = s.disp := rfl
@[simp] theorem setSession_oru (j : Nat) (x : Session) : (s.setSession j x).oru = s.oru := rfl
@[simp] theorem setSession_cores (j : Nat) (x : Session) : (s.setSession j x).cores = s.cores := rfl
@[simp] theorem setSession_rdv (j : Nat) (x : Session) : (s.setSession j x).rdv = s.rdv := rfl
@[simp] theorem setSession_bio (j : Nat) (x : Session) : (s.setSession j x).bio = s.bio := rfl
@[simp] theorem setSession_dram (j : Nat) (x : Session) : (s.setSession j x).dram = s.dram := rfl
@[simp] theorem setSession_dma (j : Nat) (x : Session) : (s.setSession j x).dma = s.dma := rfl
@[simp] theorem setSession_saf (j : Nat) (x : Session) : (s.setSession j x).saf = s.saf := rfl
@[simp] theorem setSession_snd (j : Nat) (x : Session) : (s.setSession j x).snd = s.snd := rfl
@[simp] theorem setSession_bin (j : Nat) (x : Session) : (s.setSession j x).bin = s.bin := rfl
@[simp] theorem setSession_boot (j : Nat) (x : Session) : (s.setSession j x).boot = s.boot := rfl
@[simp] theorem setSession_pending (j : Nat) (x : Session) : (s.setSession j x).pending = s.pending := rfl
@[simp] theorem setSession_rd (j : Nat) (x : Session) (k1 : Nat) : (s.setSession j x).rd k1 = s.rd k1 := rfl
@[simp] theorem setSession_thread (j : Nat) (x : Session) (t1 : Nat) : (s.setSession j x).thread t1 = s.thread t1 := rfl
theorem session_setSession (j : Nat) (x : Session) (j1 : Nat) : (s.setSession j x).session j1 = if j1 = j then x else s.session j1 := tget_tset ..
@[simp] theorem session_setSession_self (j : Nat) (x : Session) : (s.setSession j x).session j = x := tget_tset_self ..

/-! `State.setPll`. -/

@[simp] theorem setPll_variant (i : Nat) (x : Nat × Nat) : (s.setPll i x).variant = s.variant := rfl
@[simp] theorem setPll_now (i : Nat) (x : Nat × Nat) : (s.setPll i x).now = s.now := rfl
@[simp] theorem setPll_dict (i : Nat) (x : Nat × Nat) : (s.setPll i x).dict = s.dict := rfl
@[simp] theorem setPll_staged (i : Nat) (x : Nat × Nat) : (s.setPll i x).staged = s.staged := rfl
@[simp] theorem setPll_octets (i : Nat) (x : Nat × Nat) : (s.setPll i x).octets = s.octets := rfl
@[simp] theorem setPll_mem (i : Nat) (x : Nat × Nat) : (s.setPll i x).mem = s.mem := rfl
@[simp] theorem setPll_firsts (i : Nat) (x : Nat × Nat) : (s.setPll i x).firsts = s.firsts := rfl
@[simp] theorem setPll_freeCtr (i : Nat) (x : Nat × Nat) : (s.setPll i x).freeCtr = s.freeCtr := rfl
@[simp] theorem setPll_opStatus (i : Nat) (x : Nat × Nat) : (s.setPll i x).opStatus = s.opStatus := rfl
@[simp] theorem setPll_reply (i : Nat) (x : Nat × Nat) : (s.setPll i x).reply = s.reply := rfl
@[simp] theorem setPll_abort (i : Nat) (x : Nat × Nat) : (s.setPll i x).abort = s.abort := rfl
@[simp] theorem setPll_px (i : Nat) (x : Nat × Nat) : (s.setPll i x).px = s.px := rfl
@[simp] theorem setPll_pc (i : Nat) (x : Nat × Nat) : (s.setPll i x).pc = s.pc := rfl
@[simp] theorem setPll_br (i : Nat) (x : Nat × Nat) : (s.setPll i x).br = s.br := rfl
@[simp] theorem setPll_orch (i : Nat) (x : Nat × Nat) : (s.setPll i x).orch = s.orch := rfl
@[simp] theorem setPll_lode (i : Nat) (x : Nat × Nat) : (s.setPll i x).lode = s.lode := rfl
@[simp] theorem setPll_chron (i : Nat) (x : Nat × Nat) : (s.setPll i x).chron = s.chron := rfl
@[simp] theorem setPll_tm (i : Nat) (x : Nat × Nat) : (s.setPll i x).tm = s.tm := rfl
@[simp] theorem setPll_alm (i : Nat) (x : Nat × Nat) : (s.setPll i x).alm = s.alm := rfl
@[simp] theorem setPll_trc (i : Nat) (x : Nat × Nat) : (s.setPll i x).trc = s.trc := rfl
@[simp] theorem setPll_uda (i : Nat) (x : Nat × Nat) : (s.setPll i x).uda = s.uda := rfl
@[simp] theorem setPll_disp (i : Nat) (x : Nat × Nat) : (s.setPll i x).disp = s.disp := rfl
@[simp] theorem setPll_oru (i : Nat) (x : Nat × Nat) : (s.setPll i x).oru = s.oru := rfl
@[simp] theorem setPll_cores (i : Nat) (x : Nat × Nat) : (s.setPll i x).cores = s.cores := rfl
@[simp] theorem setPll_rdv (i : Nat) (x : Nat × Nat) : (s.setPll i x).rdv = s.rdv := rfl
@[simp] theorem setPll_bio (i : Nat) (x : Nat × Nat) : (s.setPll i x).bio = s.bio := rfl
@[simp] theorem setPll_dram (i : Nat) (x : Nat × Nat) : (s.setPll i x).dram = s.dram := rfl
@[simp] theorem setPll_dma (i : Nat) (x : Nat × Nat) : (s.setPll i x).dma = s.dma := rfl
@[simp] theorem setPll_saf (i : Nat) (x : Nat × Nat) : (s.setPll i x).saf = s.saf := rfl
@[simp] theorem setPll_snd (i : Nat) (x : Nat × Nat) : (s.setPll i x).snd = s.snd := rfl
@[simp] theorem setPll_bin (i : Nat) (x : Nat × Nat) : (s.setPll i x).bin = s.bin := rfl
@[simp] theorem setPll_pending (i : Nat) (x : Nat × Nat) : (s.setPll i x).pending = s.pending := rfl
@[simp] theorem setPll_rd (i : Nat) (x : Nat × Nat) (k1 : Nat) : (s.setPll i x).rd k1 = s.rd k1 := rfl
@[simp] theorem setPll_thread (i : Nat) (x : Nat × Nat) (t1 : Nat) : (s.setPll i x).thread t1 = s.thread t1 := rfl
theorem pll_setPll (i : Nat) (x : Nat × Nat) (i1 : Nat) : (s.setPll i x).pll i1 = if i1 = i then x else s.pll i1 := tget_tset ..
@[simp] theorem pll_setPll_self (i : Nat) (x : Nat × Nat) : (s.setPll i x).pll i = x := tget_tset_self ..

/-! `State.setWait`. -/

@[simp] theorem setWait_variant (t n v : Nat) : (s.setWait t n v).variant = s.variant := rfl
@[simp] theorem setWait_now (t n v : Nat) : (s.setWait t n v).now = s.now := rfl
@[simp] theorem setWait_dict (t n v : Nat) : (s.setWait t n v).dict = s.dict := rfl
@[simp] theorem setWait_staged (t n v : Nat) : (s.setWait t n v).staged = s.staged := rfl
@[simp] theorem setWait_octets (t n v : Nat) : (s.setWait t n v).octets = s.octets := rfl
@[simp] theorem setWait_mem (t n v : Nat) : (s.setWait t n v).mem = s.mem := rfl
@[simp] theorem setWait_firsts (t n v : Nat) : (s.setWait t n v).firsts = s.firsts := rfl
@[simp] theorem setWait_freeCtr (t n v : Nat) : (s.setWait t n v).freeCtr = s.freeCtr := rfl
@[simp] theorem setWait_opStatus (t n v : Nat) : (s.setWait t n v).opStatus = s.opStatus := rfl
@[simp] theorem setWait_reply (t n v : Nat) : (s.setWait t n v).reply = s.reply := rfl
@[simp] theorem setWait_abort (t n v : Nat) : (s.setWait t n v).abort = s.abort := rfl
@[simp] theorem setWait_px (t n v : Nat) : (s.setWait t n v).px = s.px := rfl
@[simp] theorem setWait_pc (t n v : Nat) : (s.setWait t n v).pc = s.pc := rfl
@[simp] theorem setWait_br (t n v : Nat) : (s.setWait t n v).br = s.br := rfl
@[simp] theorem setWait_orch (t n v : Nat) : (s.setWait t n v).orch = s.orch := rfl
@[simp] theorem setWait_lode (t n v : Nat) : (s.setWait t n v).lode = s.lode := rfl
@[simp] theorem setWait_chron (t n v : Nat) : (s.setWait t n v).chron = s.chron := rfl
@[simp] theorem setWait_tm (t n v : Nat) : (s.setWait t n v).tm = s.tm := rfl
@[simp] theorem setWait_alm (t n v : Nat) : (s.setWait t n v).alm = s.alm := rfl
@[simp] theorem setWait_trc (t n v : Nat) : (s.setWait t n v).trc = s.trc := rfl
@[simp] theorem setWait_uda (t n v : Nat) : (s.setWait t n v).uda = s.uda := rfl
@[simp] theorem setWait_disp (t n v : Nat) : (s.setWait t n v).disp = s.disp := rfl
@[simp] theorem setWait_oru (t n v : Nat) : (s.setWait t n v).oru = s.oru := rfl
@[simp] theorem setWait_cores (t n v : Nat) : (s.setWait t n v).cores = s.cores := rfl
@[simp] theorem setWait_rdv (t n v : Nat) : (s.setWait t n v).rdv = s.rdv := rfl
@[simp] theorem setWait_dram (t n v : Nat) : (s.setWait t n v).dram = s.dram := rfl
@[simp] theorem setWait_dma (t n v : Nat) : (s.setWait t n v).dma = s.dma := rfl
@[simp] theorem setWait_saf (t n v : Nat) : (s.setWait t n v).saf = s.saf := rfl
@[simp] theorem setWait_snd (t n v : Nat) : (s.setWait t n v).snd = s.snd := rfl
@[simp] theorem setWait_bin (t n v : Nat) : (s.setWait t n v).bin = s.bin := rfl
@[simp] theorem setWait_boot (t n v : Nat) : (s.setWait t n v).boot = s.boot := rfl
@[simp] theorem setWait_pending (t n v : Nat) : (s.setWait t n v).pending = s.pending := rfl
@[simp] theorem setWait_rd (t n v : Nat) (k1 : Nat) : (s.setWait t n v).rd k1 = s.rd k1 := rfl
@[simp] theorem setWait_thread (t n v : Nat) (t1 : Nat) : (s.setWait t n v).thread t1 = s.thread t1 := rfl

/-! `State.endSlice`. -/

@[simp] theorem endSlice_variant : (s.endSlice).variant = s.variant := rfl
@[simp] theorem endSlice_now : (s.endSlice).now = s.now := rfl
@[simp] theorem endSlice_dict : (s.endSlice).dict = s.dict := rfl
@[simp] theorem endSlice_staged : (s.endSlice).staged = s.staged := rfl
@[simp] theorem endSlice_octets : (s.endSlice).octets = s.octets := rfl
@[simp] theorem endSlice_mem : (s.endSlice).mem = s.mem := rfl
@[simp] theorem endSlice_firsts : (s.endSlice).firsts = s.firsts := rfl
@[simp] theorem endSlice_freeCtr : (s.endSlice).freeCtr = s.freeCtr := rfl
@[simp] theorem endSlice_opStatus : (s.endSlice).opStatus = s.opStatus := rfl
@[simp] theorem endSlice_reply : (s.endSlice).reply = s.reply := rfl
@[simp] theorem endSlice_abort : (s.endSlice).abort = s.abort := rfl
@[simp] theorem endSlice_px : (s.endSlice).px = s.px := rfl
@[simp] theorem endSlice_pc : (s.endSlice).pc = s.pc := rfl
@[simp] theorem endSlice_br : (s.endSlice).br = s.br := rfl
@[simp] theorem endSlice_orch : (s.endSlice).orch = s.orch := rfl
@[simp] theorem endSlice_lode : (s.endSlice).lode = s.lode := rfl
@[simp] theorem endSlice_chron : (s.endSlice).chron = s.chron := rfl
@[simp] theorem endSlice_tm : (s.endSlice).tm = s.tm := rfl
@[simp] theorem endSlice_alm : (s.endSlice).alm = s.alm := rfl
@[simp] theorem endSlice_trc : (s.endSlice).trc = s.trc := rfl
@[simp] theorem endSlice_uda : (s.endSlice).uda = s.uda := rfl
@[simp] theorem endSlice_disp : (s.endSlice).disp = s.disp := rfl
@[simp] theorem endSlice_oru : (s.endSlice).oru = s.oru := rfl
@[simp] theorem endSlice_cores : (s.endSlice).cores = s.cores := rfl
@[simp] theorem endSlice_rdv : (s.endSlice).rdv = s.rdv := rfl
@[simp] theorem endSlice_bio : (s.endSlice).bio = s.bio := rfl
@[simp] theorem endSlice_dram : (s.endSlice).dram = s.dram := rfl
@[simp] theorem endSlice_dma : (s.endSlice).dma = s.dma := rfl
@[simp] theorem endSlice_saf : (s.endSlice).saf = s.saf := rfl
@[simp] theorem endSlice_bin : (s.endSlice).bin = s.bin := rfl
@[simp] theorem endSlice_boot : (s.endSlice).boot = s.boot := rfl
@[simp] theorem endSlice_pending : (s.endSlice).pending = s.pending := rfl
@[simp] theorem endSlice_rd (k1 : Nat) : (s.endSlice).rd k1 = s.rd k1 := rfl
@[simp] theorem endSlice_thread (t1 : Nat) : (s.endSlice).thread t1 = s.thread t1 := rfl

end Sys2Proof.Laws
end

