-- ==== Sys2Proof/Laws/Threads.lean ====
section
/-! SUPPORT. What the shared operations of an instruction do to the threads and the memory: issue, retirement, the write of a register,
the records and trace messages beside them. -/

namespace Sys2Proof.Laws

open Sys2Proof.Machine

/-! ### Records and trace messages leave the threads and the memory -/

/-- The cores and the memory are the same. -/
structure Beside (s u : State) : Prop where
  cores : u.cores = s.cores
  mem : u.mem = s.mem

theorem Beside.refl (s : State) : Beside s s := ⟨rfl, rfl⟩

theorem Beside.trans {s u v : State} (a : Beside s u) (b : Beside u v) : Beside s v := ⟨b.cores.trans a.cores, b.mem.trans a.mem⟩

theorem Beside.thread {s u : State} (h : Beside s u) (t : Nat) : u.thread t = s.thread t := by
  unfold State.thread
  rw [h.cores]

theorem bump_beside (s : State) (k n : Nat) : Beside s (s.bump k n) := ⟨rfl, rfl⟩

theorem bumpCore_beside (s : State) (t : Nat) (k : Nat → Nat) : Beside s (s.bumpCore t k) := by
  unfold State.bumpCore
  split
  · exact bump_beside ..
  · exact .refl s

theorem almanac_beside (s : State) (origin code severity : Nat) (detail : List (Nat × Nat)) :
    Beside s (s.almanac origin code severity detail) := by
  simp only [State.almanac]
  repeat' split
  all_goals exact ⟨rfl, rfl⟩

theorem almanacFirst_beside (s : State) (origin code severity sub : Nat) (detail : List (Nat × Nat)) :
    Beside s (s.almanacFirst origin code severity sub detail) := by
  unfold State.almanacFirst
  split
  · refine .trans ?_ (almanac_beside ..)
    exact ⟨rfl, rfl⟩
  · exact .refl s

theorem traceMsg_beside (s : State) (src kind source : Nat) (body : List Byte) : Beside s (s.traceMsg src kind source body) := by
  simp only [State.traceMsg]
  split
  · exact .refl s
  · split
    · exact ⟨rfl, rfl⟩
    · refine .trans ?_ (almanacFirst_beside ..)
      exact ⟨rfl, rfl⟩

/-! ### Only one thread is touched -/

/-- All threads but t and all memory are the same, and of thread t all but its trace count of retired instructions. -/
structure Counted (t : Nat) (s u : State) : Prop where
  others : ∀ v, v ≠ t → u.thread v = s.thread v
  own : ∃ n, u.thread t = { s.thread t with retired := n }
  mem : u.mem = s.mem

theorem Counted.refl (t : Nat) (s : State) : Counted t s s := ⟨fun _ _ => rfl, ⟨_, rfl⟩, rfl⟩

theorem Counted.trans {t : Nat} {s u v : State} (a : Counted t s u) (b : Counted t u v) : Counted t s v := by
  obtain ⟨n, hn⟩ := a.own
  obtain ⟨m, hm⟩ := b.own
  exact ⟨fun w h => (b.others w h).trans (a.others w h), ⟨m, by rw [hm, hn]⟩, b.mem.trans a.mem⟩

theorem Beside.counted {s u : State} (h : Beside s u) (t : Nat) : Counted t s u :=
  ⟨fun v _ => h.thread v, ⟨(s.thread t).retired, h.thread t⟩, h.mem⟩

theorem setRetired_counted (t : Nat) (s : State) (n : Nat) : Counted t s (s.setThread t { s.thread t with retired := n }) := by
  refine ⟨fun v h => ?_, ⟨n, ?_⟩, rfl⟩
  · rw [thread_setThread, if_neg h]
  · rw [thread_setThread, if_pos rfl]

theorem traceInstr_counted (s : State) (t kind : Nat) (body : Nat → List Byte) : Counted t s (s.traceInstr t kind body) := by
  unfold State.traceInstr
  split
  · exact (setRetired_counted t s 0).trans ((traceMsg_beside ..).counted t)
  · exact .refl t s

theorem traceFlow_counted (s : State) (t a b cause : Nat) : Counted t s (s.traceFlow t a b cause) := traceInstr_counted ..

theorem traceRetire_counted (s : State) (t : Nat) : Counted t s (s.traceRetire t) := by
  unfold State.traceRetire
  split
  · exact setRetired_counted t s _
  · exact .refl t s

/-- A retirement: the thread is READY at its next PC, with its loop contexts moved on; nothing else but the trace count changes. -/
theorem retire_thread (s : State) (t next : Nat) :
    Counted t (s.setThread t { ((s.thread t).retire next).1 with st := .ready }) (s.retire t next) := by
  simp only [State.retire]
  refine (traceRetire_counted _ t).trans ?_
  generalize ((s.setThread t { ((s.thread t).retire next).1 with st := .ready }).traceRetire t) = v
  have h : Counted t v (if ((s.thread t).retire next).2 = true then v.bumpCore t K.ctrCoreLoopUncapturedEdges else v) := by
    split
    · exact (bumpCore_beside ..).counted t
    · exact .refl t v
  split
  · exact h.trans (traceFlow_counted ..)
  · exact h

/-- Where a retirement leaves the PC. R244. -/
theorem retire_pc (x : Thread) (next : Nat) : (x.retire next).1.pc = x.pcAfter next := by
  unfold Thread.retire Thread.pcAfter
  by_cases h : x.exl = true
  · cases x.loops <;> simp [h]
  · cases x.loops with
    | nil => simp [h]
    | cons c r =>
      by_cases e : x.pc = c.last <;> by_cases m : 1 < c.remaining <;> simp [h, e, m]

theorem retire_rest (x : Thread) (next : Nat) :
    ∃ pc loops, (x.retire next).1 = { x with pc := pc, loops := loops } := by
  unfold Thread.retire
  split
  · exact ⟨_, _, rfl⟩
  · split
    · exact ⟨_, _, rfl⟩
    · split
      · split <;> exact ⟨_, _, rfl⟩
      · exact ⟨_, _, rfl⟩

theorem reg_setReg (x : Thread) (rd r : Nat) (v : Word) : (x.setReg rd v).reg r = if r = rd ∧ r ≠ 0 then v else x.reg r := by
  unfold Thread.setReg Thread.reg
  by_cases h : rd = 0
  · subst h
    by_cases e : r = 0 <;> simp [e]
  · by_cases e : r = 0
    · simp [e]
    · simp only [if_neg h, if_neg e, tget_tset]
      by_cases k : r = rd <;> simp [k, h, e]

/-! ### Issue -/

/-- A state before and after something that leaves every thread and the memory as they are. -/
structure Aside (s u : State) : Prop where
  thread : ∀ v, u.thread v = s.thread v
  mem : u.mem = s.mem

theorem Aside.refl (s : State) : Aside s s := ⟨fun _ => rfl, rfl⟩

theorem Aside.trans {s u v : State} (a : Aside s u) (b : Aside u v) : Aside s v :=
  ⟨fun t => (b.thread t).trans (a.thread t), b.mem.trans a.mem⟩

theorem Aside.of {s u : State} (a : u.cores.threads = s.cores.threads) (b : u.mem = s.mem) : Aside s u :=
  ⟨fun v => by unfold State.thread; rw [a], b⟩

theorem Beside.aside {s u : State} (h : Beside s u) : Aside s u := ⟨h.thread, h.mem⟩

theorem countIssue_aside (s : State) (t : Nat) : Aside s (s.countIssue t) := by
  refine .of ?_ ?_ <;>
  · simp only [State.countIssue, State.when, State.tick]
    repeat' split
    all_goals rfl

theorem countFixed_aside (s : State) (t memory : Nat) (l : List Nat) : Aside s (s.countFixed t memory l) := by
  cases l with
  | nil => exact .refl s
  | cons w l =>
    simp only [State.countFixed]
    split
    · refine .trans ?_ (almanacFirst_beside ..).aside
      exact .of rfl rfl
    · split
      · exact .of rfl rfl
      · exact .refl s

theorem correct_aside (s : State) (t memory key n : Nat) (at_ : Nat → Nat) : Aside s (s.correct t memory key n at_) := by
  refine .trans ?_ (countFixed_aside ..)
  exact .of rfl rfl

/-- A thread that can issue an instruction runs what the instruction does, on a state with the same threads and memory.
R181, R219. -/
theorem issue_run (s : State) (t w : Nat) (i : Instr) (body : State → State) (h : s.CanIssue t i) (hw : wordOf i = some w) :
    ∃ v, Aside s v ∧ s.issue t w body = .next (body v) := by
  obtain ⟨a, b, c, d, w', hw', e, f⟩ := h
  cases hw.symm.trans hw'
  simp only [State.issue, State.issueOr]
  rw [if_neg (by simp [a, b]), if_neg (by omega), e, f]
  simp only [ne_eq, not_true_eq_false, if_false, d]
  cases s.codeKey t with
  | none => exact ⟨_, countIssue_aside s t, rfl⟩
  | some k => exact ⟨_, (countIssue_aside s t).trans (correct_aside ..), rfl⟩

/-- A state that keeps the threads and the memory but for a retirement is framed. -/
theorem Counted.frame {t : Nat} {s u : State} (h : Counted t s u) : s.Frame u t := by
  obtain ⟨n, hn⟩ := h.own
  constructor
  · exact h.others
  · exact h.mem
  all_goals rw [hn]

/-! ### The write of a register -/

/-- A register written by the instruction of a thread at its PC, which retires. R203, R244. -/
theorem writeReg_wrote (s : State) (t rd : Nat) (v : Word) : s.Wrote (s.writeReg t rd v) t rd v (s.thread t).tsw := by
  have hx : (s.setThread t ((s.thread t).setReg rd v)).thread t = (s.thread t).setReg rd v := by
    rw [thread_setThread, if_pos rfl]
  have hs : ∃ g, (s.thread t).setReg rd v = { s.thread t with regs := g } := by
    unfold Thread.setReg
    split
    · exact ⟨(s.thread t).regs, rfl⟩
    · exact ⟨_, rfl⟩
  have h := retire_thread (s.setThread t ((s.thread t).setReg rd v)) t
    (((s.setThread t ((s.thread t).setReg rd v)).thread t).pc + 4)
  obtain ⟨ho, ⟨n, hn⟩, hm⟩ := h
  simp only [thread_setThread_self] at hn
  have hr := retire_rest ((s.thread t).setReg rd v) ((s.thread t).pc + 4)
  have hp := retire_pc ((s.thread t).setReg rd v) ((s.thread t).pc + 4)
  obtain ⟨g, hg⟩ := hs
  obtain ⟨pc, loops, hl⟩ := hr
  have hpc : ((s.thread t).setReg rd v).pc = (s.thread t).pc := by rw [hg]
  have hu : (s.writeReg t rd v).thread t = { (s.thread t).setReg rd v with pc := pc, loops := loops, st := .ready, retired := n } := by
    rw [hpc, hl] at hn
    unfold State.writeReg State.done
    rw [hx, hpc]
    exact hn
  have hpa : ((s.thread t).setReg rd v).pcAfter ((s.thread t).pc + 4) = (s.thread t).pcAfter ((s.thread t).pc + 4) := by
    rw [hg]
    rfl
  refine ⟨fun r => ?_, ?_, ?_, ?_, ⟨fun w hw => ?_, ?_, ?_, ?_, ?_, ?_, ?_, ?_, ?_⟩⟩
  · rw [hu, ← reg_setReg]
    rfl
  · rw [hu, hg]
  · rw [hu, ← hpa, ← hp, hl]
  · rw [hu]
  · refine (ho w hw).trans ?_
    simp only [thread_setThread, if_neg hw]
  · exact hm
  all_goals rw [hu, hg]

/-- What holds of an instruction's run on a state with the same threads and memory holds of its run on s. -/
theorem Wrote.of {s v u : State} {t rd : Nat} {x : Word} {w : BitVec 32} (k : Aside s v) (h : v.Wrote u t rd x w) :
    s.Wrote u t rd x w := by
  have e := k.thread
  obtain ⟨a, b, c, d, f⟩ := h
  simp only [e] at a b c
  refine ⟨a, b, c, d, ⟨fun y hy => ?_, f.mem.trans k.mem, ?_, ?_, ?_, ?_, ?_, ?_, ?_⟩⟩
  · rw [f.others y hy, e]
  · rw [f.set0, e]
  · rw [f.set1, e]
  · rw [f.item, e]
  · rw [f.window, e]
  · rw [f.desc, e]
  · rw [f.ev, e]
  · rw [f.hregs, e]

/-- The next PC after a retirement reads of the status word only EXL. -/
theorem pcAfter_tsw (x : Thread) (w : BitVec 32) (n : Nat) (h : w.getLsbD 23 = x.tsw.getLsbD 23) :
    ({ x with tsw := w } : Thread).pcAfter n = x.pcAfter n := by
  unfold Thread.pcAfter Thread.exl
  simp only [h]

/-- A three-register instruction of a thread that can issue it, whose flags leave EXL as it is. R235. -/
theorem alu_wrote (s : State) (t w : Nat) (i : Instr) (rd ra rb : Fin 32) (flags : Bool)
    (f : BitVec 32 → Word → Word → Word × BitVec 32) (h : s.CanIssue t i) (hw : wordOf i = some w)
    (hf : ∀ w a b, (f w a b).2.getLsbD 23 = w.getLsbD 23) :
    Leads (s.alu t w rd ra rb flags f) fun u =>
      s.Wrote u t rd.val (f (s.thread t).tsw (s.reg t ra.val) (s.reg t rb.val)).1
        (if flags then (f (s.thread t).tsw (s.reg t ra.val) (s.reg t rb.val)).2 else (s.thread t).tsw) := by
  obtain ⟨v, hv, he⟩ := issue_run s t w i _ h hw
  refine ⟨_, he, Wrote.of hv ?_⟩
  simp only [State.reg, ← hv.thread t]
  have hr := hf (v.thread t).tsw ((v.thread t).reg ra.val) ((v.thread t).reg rb.val)
  generalize f (v.thread t).tsw ((v.thread t).reg ra.val) ((v.thread t).reg rb.val) = r at hr ⊢
  have hk : (if flags then r.2 else (v.thread t).tsw).getLsbD 23 = (v.thread t).tsw.getLsbD 23 := by
    split
    · exact hr
    · rfl
  generalize (if flags then r.2 else (v.thread t).tsw) = w at hk ⊢
  have k := writeReg_wrote (v.setThread t { v.thread t with tsw := w }) t rd.val r.1
  have e : ∀ x, (v.setThread t { v.thread t with tsw := w }).thread x = if x = t then { v.thread t with tsw := w } else v.thread x :=
    fun x => thread_setThread ..
  obtain ⟨a, b, c, d, g⟩ := k
  rw [e, if_pos rfl] at a b c
  refine ⟨a, b, c.trans (pcAfter_tsw _ _ _ hk), d, ⟨fun x hx => ?_, g.mem, ?_, ?_, ?_, ?_, ?_, ?_, ?_⟩⟩
  · rw [g.others x hx, e, if_neg hx]
  · rw [g.set0, e, if_pos rfl]
  · rw [g.set1, e, if_pos rfl]
  · rw [g.item, e, if_pos rfl]
  · rw [g.window, e, if_pos rfl]
  · rw [g.desc, e, if_pos rfl]
  · rw [g.ev, e, if_pos rfl]
  · rw [g.hregs, e, if_pos rfl]

end Sys2Proof.Laws
end

