-- ==== Sys2Proof/WellFormed.lean ====
section
/-! DEFINITION. Which commands are well formed. -/

namespace Sys2Proof

/-- Operands whose type admits more than the manual does. -/
def Instr.wellFormed : Instr → Bool
  | .brambleProfileWrite _ r => decide (r.length ≤ 4)
  | .pilotRegionWrite _ b => decide (b.length = 256)
  | _ => true

end Sys2Proof
end

