-- ==== Sys2Proof/Tests/Slice0.lean ====
section
/-! SUPPORT. The model's own tests: what the spec's tables and examples and the standards it names give, and for every statement states
and operands that meet its hypotheses. -/

namespace Sys2Proof.Tests

open Sys2Proof Sys2Proof.Machine

set_option maxRecDepth 100000
set_option Elab.async false

/-! ### The helpers of these tests -/

/-- Register r and the flags of thread t after a command. -/
def result (o : Host.Outcome State Fault Refusal) (t r : Nat) : Option (Word × Nat) :=
  match o with
  | .next u => some ((u.thread t).reg r, (u.thread t).tsw.toNat % 32)
  | _ => none

/-- The machine after a command. -/
def after (o : Host.Outcome State Fault Refusal) : State :=
  match o with
  | .next u => u
  | _ => State.reset

/-- Pilot thread 576, ready, with w1 and w2 and flags of the test. -/
def on576 (a b : Word) (tsw : BitVec 32) : State :=
  State.reset.setThread 576 { Thread.zero with st := .ready, regs := [(1, a), (2, b)], tsw := tsw }

def bytesOf (n : Nat) (x : Nat) : List Byte := toBE n x

/-! ### Well-formed commands -/

theorem test_wellFormed : (Instr.brambleProfileWrite 3 (List.replicate 4 (0, 8))).wellFormed = true ∧
    (Instr.pilotRegionWrite 0#24 (List.replicate 256 0#8)).wellFormed = true ∧ Instr.tmHandover.wellFormed = true := by decide

theorem test_illFormed_profile : (Instr.brambleProfileWrite 3 (List.replicate 5 (0, 8))).wellFormed = false := by decide

theorem test_illFormed_region : (Instr.pilotRegionWrite 0#24 (List.replicate 255 0#8)).wellFormed = false := by decide

/-! ### The step and the state after reset -/

theorem test_reset_idles : step State.reset = .next State.reset := rfl

theorem test_reset_memory : Memory.wf State.reset.mem = true := by decide

theorem test_step_takes_front : step { State.reset with pending := [.timedSetApply] } = exec .timedSetApply State.reset := rfl

/-! ### Encodings: the worked example of 10_wenkin_encoding.md (its table "Example: a port filter on the DoIP frame") -/

theorem test_word_bext : wordOf (.bext 420 5 15 0x0220#16) = some 0x80AF0220 := by decide
theorem test_word_cmpi : wordOf (.cmpi 420 5 0x3458#16) = some 0x34053458 := by decide
theorem test_word_bcc : wordOf (.bcc 420 1 2#16) = some 0xB8400002 := by decide
theorem test_word_pktfwd : wordOf (.pktfwd 420 0 0x9830#16) = some 0xE0009830 := by decide
theorem test_word_pktdrop : wordOf (.pktdrop 420 0 0x11#16) = some 0xE4000011 := by decide
/-- The first word's bytes in code RAM, as that section gives them. -/
theorem test_word_bytes : toLE 4 0x80AF0220 = [0x20#8, 0x02#8, 0xAF#8, 0x80#8] := by decide
/-- A word of an unassigned major opcode has cause 0, one with a nonzero field that must be 0 cause 2. R231, R232. -/
theorem test_reserved : reservedCause 576 0 = some 0 ∧ reservedCause 576 0x34000001 = none ∧ reservedCause 576 0x34200001 = some 2 := by decide

/-! ### Arithmetic: the edge results of R224 (Z 1, N 2, C 4, OV 8, DZ 16) -/

theorem test_add_edge : result (exec (.add 576 3 1 2 true) (on576 0x7FFFFFFF#32 1#32 0#32)) 576 3 = some (0x80000000#32, 2 + 8) := by
  decide +kernel
theorem test_neg_edge : result (exec (.neg 576 3 1 true) (on576 0x80000000#32 0#32 0#32)) 576 3 = some (0x80000000#32, 2 + 4 + 8) := by
  decide +kernel
theorem test_div_edge : divRes true 0#32 0x80000000#32 0xFFFFFFFF#32 = ⟨0x80000000#32, 0#32, 2#32 + 8#32⟩ := by decide +kernel
theorem test_divu_zero : divRes false 0#32 7#32 0#32 = ⟨0xFFFFFFFF#32, 7#32, 2#32 + 16#32⟩ := by decide +kernel
theorem test_shr_32 : result (exec (.shr 576 3 1 2 true) (on576 0x80000001#32 32#32 0#32)) 576 3 = some (0#32, 1 + 4) := by decide +kernel
theorem test_shr_33 : result (exec (.shr 576 3 1 2 true) (on576 0x80000001#32 33#32 4#32)) 576 3 = some (0#32, 1) := by decide +kernel
theorem test_asr_40 : result (exec (.asr 576 3 1 2 true) (on576 0x80000000#32 40#32 0#32)) 576 3 = some (0xFFFFFFFF#32, 2 + 4) := by
  decide +kernel
theorem test_ror_33 : result (exec (.ror 576 3 1 2 true) (on576 1#32 33#32 0#32)) 576 3 = some (0x80000000#32, 2) := by decide +kernel
/-- Packed decimal, from the table of R225. -/
theorem test_dadd_carry : result (exec (.dadd 576 3 1 2) (on576 0x99999999#32 1#32 0#32)) 576 3 = some (0#32, 1 + 4) := by decide +kernel
theorem test_dsub_borrow : result (exec (.dsub 576 3 1 2) (on576 0#32 1#32 0#32)) 576 3 = some (0x99999999#32, 4) := by decide +kernel
theorem test_dadd_invalid : result (exec (.dadd 576 3 1 2) (on576 0xA#32 1#32 0#32)) 576 3 = some (0#32, 1 + 8) := by decide +kernel
theorem test_bin2bcd : result (exec (.bin2bcd 576 3 1) (on576 12345678#32 0#32 0#32)) 576 3 = some (0x12345678#32, 0) := by decide +kernel
theorem test_digasc : result (exec (.digasc 576 3 1) (on576 0x1234#32 0#32 0#32)) 576 3 = some (0x34333231#32, 0) := by decide +kernel
/-- w0 reads as 0 and discards writes (R203). -/
theorem test_w0 : result (exec (.add 576 0 1 2 true) (on576 5#32 6#32 0#32)) 576 0 = some (0#32, 0) := by decide +kernel

/-! ### Known answers of the standards the chapters name -/

/-- The check values of CRC-32 and CRC-32C over the digits 1 to 9. -/
theorem test_crc : fcs (ascii "123456789") = 0xCBF43926 ∧
    crc 32 0x1EDC6F41 0xFFFFFFFF true true 0xFFFFFFFF (ascii "123456789") = 0xE3069283 := by decide +kernel
/-- FIPS 197, C.1. -/
theorem test_aes : aesBlock (aesKeys ((List.range 16).map (BitVec.ofNat 8))) ((List.range 16).map (· * 17)) =
    (toBE 16 0x69c4e0d86a7b0430d8cdb78070b4c55a).map BitVec.toNat := by decide +kernel
/-- Test case 2 of the GCM specification. -/
theorem test_gcm : gcmSeal (List.replicate 16 0#8) (List.replicate 12 0#8) [] (List.replicate 16 0#8) =
    (toBE 16 0x0388dace60b6a392f328c2b971b2fe78, toBE 16 0xab6e47d42cec13bdf53a67b21257bddf) := by decide +kernel
/-- FIPS 202: SHA3-256 of the empty message. -/
theorem test_sha3 : sha3_256 [] = toBE 32 0xa7ffc6f8bf1ed76651c14756a061d662f580ff4de43b49fa82d80a4b80f8434a := by decide +kernel

/-! ### Small states -/

def fr (n : Nat) (et : Nat) : List Byte := let b := ((List.range (n - 4)).map fun i => BitVec.ofNat 8 (3 * i)).take 12 ++ toBE 2 et ++ ((List.range (n - 4)).map fun i => BitVec.ofNat 8 (3 * i)).drop 14; b ++ toLE 4 (fcs b)
def thr (t : Nat) (f : Thread → Thread) : State := State.reset.setThread t (f { Thread.zero with st := .ready })
def s_alu (t : Nat) : State := thr t fun x => { x with regs := [(1, 5#32), (2, 7#32), (3, 0x80000000#32), (4, 0x12345678#32), (5, 0x31323334#32), (6, 40#32)], tsw := 4#32 }
def s_div (signed : Bool) (b : Word) (tsw : BitVec 32) : State :=
  (thr 3 fun x => { x with st := .held .dividing, regs := [(1, 5#32), (2, 7#32), (3, 1#32)], tsw := tsw, set0 := { x.set0 with tvec := 0x100#32 } }).setCore 0 { Core.zero with div := some ⟨3, 2, 0x80000005#32, b, signed⟩ }
def d0 : Desc := { Desc.zero with windowSize := 1#2, frameLength := 200#14, firstCell := 4#24, cellCount := 1#6, ingressTs := 0x1122334455667788#64 }
def iPkt : Item := ⟨.packet, 3, 0, 7, 9, 0, 0⟩
def iTim : Item := ⟨.timed, 7, 0, 7, 0, 1, 0⟩
def memRegs : Tbl Word := [(1, 0x100#32), (2, 0x10000#32), (3, 0x10100#32), (4, 0x20010#32), (5, 0x20000008#32), (6, 0x40000108#32),
  (7, 0x11223344#32), (8, 0xF0F1F2F3#32), (9, 0x08000000#32), (10, 0x101#32), (11, 0xF7FC#32), (12, 0xF800#32)]
def s_mem (t : Nat) : State := (((thr t fun x => { x with
    regs := memRegs, window := (List.range 96).map (BitVec.ofNat 8), desc := some d0, item := some iPkt,
    set0 := { x.set0 with tvec := 0x100#32 } }).storeBytes (ramBase t).1 ((ramBase t).2 + 0xF8) ((List.range 40).map fun i => BitVec.ofNat 8 (200 + i))).storeBytes .shared 8
      ((List.range 40).map fun i => BitVec.ofNat 8 (130 + i))).storeBytes .atomic 0 ((List.range 40).map fun i => BitVec.ofNat 8 (90 + i))
def s_sb : State := (s_mem 3).setCore 0 { Core.zero with sb := [⟨0x104, [1#8, 2#8, 3#8, 4#8], 3, 0⟩, ⟨0x110, [1#8], 3, 0⟩] }
def s_loop (t n : Nat) : State := thr t fun x => { x with
    pc := 0x40, regs := [(1, 3#32)], loops := (List.range n).map fun i => ⟨0x40 - 8*i, 0x40 + 8*i, 2 - i, true⟩,
    set0 := { x.set0 with tvec := 0x100#32 } }
def s_ask (t : Nat) : State := thr t fun x => { x with
    regs := [(1, 5#32), (2, 1#32), (3, 7#32), (4, 0x20000008#32), (5, 0x100#32), (6, 0x10009#32), (7, 900#32)],
    set0 := { x.set0 with tvec := 0x100#32 } }
def w9 : Waiter := ⟨9, false, 1, 3, [1#32, 2#32], 0x40⟩
def s_lock (t : Nat) (l : Lock) : State := ((s_ask t).setLock 5 l).setLock 7 l
def s_sem (t : Nat) (l : Sem) : State := (((s_ask t).setSem 5 l).setSem 7 l).storeBytes .atomic 8 [7#8, 0#8, 0#8, 0#8, 5#8]
def s_chan (t : Nat) (l : Chan) : State := let s := (((s_ask t).setRdvChan 5 l).setRdvChan 7 l); { s with rdv := { s.rdv with live := { s.rdv.live with chans := [(5, 0x84#32), (7, 2#32)], groups := [(0, 0x208#576)] } } }
def s_ev (t : Nat) (l : EvBit) (subs : List Nat) : State := let s := (((s_ask t).setEvbit 5 l).setEvbit 7 l).setSubs t false subs; { s with rdv := { s.rdv with live := { s.rdv.live with events := [(5, 6#32), (7, 0#32)], groups := [(0, 0x208#576)] } } }
def s_sys (t : Nat) (tsw : BitVec 32) : State := thr t fun x => { x with
    pc := 0x40, tsw := tsw, regs := [(1, 5#32), (2, 0xE0001F#32), (3, 0x800000#32), (4, 0x1000#32), (7, 0x11223344#32)],
    ev := 0x51#7, set0 := { x.set0 with tvec := 0x100#32, epc := 0x48#32, ecode := 8#32, eaddr := 9#32, rp1 := .full ⟨0x10000001#32, 0x77#32⟩, rp2 := .full ⟨0x10000001#32, 0x78#32⟩ } }
def up (p : Nat) (s : State) : State := s.wr (K.portLinkState p) 1
def s_port (p : Nat) (x : Port) : State := up p (((State.reset.setPort p x).wr (K.portPreemptEnable p) 1).wr (K.portFlowControl p) 1)
def txf : TxFrame := ⟨none, none, 64, false, 0, [], 2, 0, 0, none, none, false, [], 0, none⟩
def s_press : State := ((s_port 5 Port.zero).wr (K.poolBackPressure 2) 1).wr (K.pmapPoolMap 43) 2
def s_mac (p : Nat) (x : Port) : State := ((s_port p x).wr (K.portVerifyStatus p) 2).setTmPort p { TmPort.zero with ptp := [⟨7, 1, 2, 3, 4⟩, ⟨9, 1, 2, 3, 4⟩] }
def pq : Parsed := ⟨5, 0, 0xFF, 0, 60, 0, 1, 0, [], 0, 0, 0, 14, 0x800, 0, false, 0, 70000, 1⟩
def actA : BitVec 32 := 0x0D0000C0#32
def s_pc (st : Nat) : State := let s := s_port 3 { Port.zero with rxQ := [⟨fr 64 0x800, 9, 1, 0xFF, 0, false⟩, ⟨[1,2], 9, 1, 0xFF, 0, true⟩] }
  { (s.setParsedQ 3 [{ pq with status := st }, pq]).wr K.prsParseFailAction (if st = 3 then 0 else 0xFFFF) with pc := { (s.setParsedQ 3 [{ pq with status := st }, pq]).pc with
      rules := [(5, { Rule.zero with valid := true, action := actA })] } }
def cellB (o : BitVec 16) (q : Bool) : Cell := ⟨true, true, q, 2, o, 1, 0xFFFFFF⟩
def s_cell (c : Cell) : State := let s := (State.reset.setCell 70000 c).setCell 100000 c
  { s with orch := { s.orch with claims := [(196000, 10), (196100, 5)], quarantineList := if c.quarantined then [70000, 100000] else [], spillReads := [(70000, 1)] } }
def s_chain : State := (((((((State.reset.setCell 70000 { cellB 1 false with next := 70001, count := 3 }).setCell 70001 ⟨true, false, false, 2, 0, 0, 70002⟩).setCell 70002 ⟨true, false, false, 2, 0, 0, 0xFFFFFF⟩).wr K.dramDramState 2).wr (K.poolSpillEnable 2) 1).wr (K.poolSpillLimit 2) 10).wr K.orchSpillCells 10).wr (K.poolSpillThreshold 2) 0
def brE (hit : Bool) (age : Nat) : BrEntry := { BrEntry.zero with valid := true, etype := 1, hit := hit, age := age, data := 7, key := 77 }
def brB : Nat := (bucketsOf (State.reset.brSeeds false) 0 77 false).1
def s_br (e : BrEntry) : State := let r : Replica := { Replica.zero with slots := [(4 * brB, e)], learnQ := [(77, 3), (78, 4)], changeLog := [(0, e)] }
  { State.reset with br := ⟨r, { r with slots := [] }, []⟩ }
def s_re (st : Nat) : State := ((s_br (brE true 3)).wr (K.brRehashState 0) st).wr (K.brRehashState 1) st
def lword : BitVec 128 := BitVec.ofNat 128 (2^127 + 1 * 2^93 + 0xFF * 2^78 + 5 * 2^75 + 1522 * 2^61 + 0x112233445566)
def lwin : List Byte := toBE 6 0x112233445566 ++ toBE 6 0x0A0B0C0D0E0F ++ toBE 2 0x800 ++ List.replicate 50 9#8
def fl (form : Nat) (v : Option Nat) (passed : Bool) : Flight := ⟨4, 2, 0, 1, 0xFF, 5, 0, 1522, form, some 70, v, 0, passed, some 9#64, lwin⟩
def s_lode (fs : List Flight) (line : Option TxFrame) : State := let s := up 0 (up 1 ((State.reset.setPort 1 { Port.zero with line := line }).setLstream 2 ⟨lword, 8, 0⟩))
  { s with lode := { s.lode with flights := fs, nextId := 9 }, boot := { s.boot with rstout := true } }
def iPost (l : Nat) : Item := ⟨.posted, l, 0xFFFF#16, 7, 0, 0, 0⟩
def de (due : Nat) : DelayEntry := ⟨due, 0xFFFF, 7, false, 5, 3, 2, true, false⟩
def wordD : BitVec 128 := BitVec.ofNat 128 (9000 * 2^64 + 0xFFFF * 2^48 + 7 * 2^45 + 33)
def s_disp : State := let s := State.reset.setLevel 7 [iPost 7, iPost 7]
  { s with boot := { s.boot with codeOk := (List.range 32).map fun i => (i, true) }, disp := { s.disp with lists := [(1, ⟨[de 100, { de 200 with slot := 4 }], []⟩)], tickNs := [(0, 150), (1, 150)] } }
def s_work (t : Nat) : State := let s := State.reset.setThread t { Thread.zero with work := some ⟨iPost 7, 5, 6, 7⟩ }
  { s with boot := { s.boot with codeOk := (List.range 32).map fun i => (i, true) } }
def s_pre (t : Nat) : State := State.reset.setThread t { Thread.zero with st := .ready, item := some (iPost 2), preempt := some ⟨iPost 7, 5, 6, 7⟩, regs := [(3, 4#32)] }
def s_wait (t : Nat) : State := { State.reset.setThread t { Thread.zero with st := .waiting 3 5 2, item := some (iPost 2), set0 := { RegSet.zero with rp0 := .out (.event 5) 5 2, rp1 := .out (.lock 5) 3 2 } } with now := 100000 }
def s_q : State := let s := (s_wait 3).setThread 3 { Thread.zero with st := .blocked (.reply 0), item := some (iPost 2), set0 := { RegSet.zero with rp0 := .out (.recv 5) 0 0 } }
  { (s.wr K.rdvQuiescenceEnable 1).wr K.coreLockstepMask 0 with rdv := { s.rdv with chans := [(5, ⟨[], [⟨3, false, 0, 2, [], 0⟩], []⟩)], live := { s.rdv.live with groups := [(0, 8#576)], chans := [(5, 4#32)] } } }
def dq : Desc := { d0 with orderDomain := 3, level := 2, ingressPort := 3, flowClass := 4 }
def jrun : JEntry := { JEntry.zero with st := .running, desc := dq, thread := 3, windowCell := 6 }
def s_pkt (x : Thread → Thread) (e : JEntry → JEntry) : State :=
  let s := State.reset.setThread 3 (x { Thread.zero with st := .ready, item := some { iPkt with journal := 9 }, set0 := { RegSet.zero with rp1 := .out .post 0 0 }, wdLimit := 0 })
  { s with oru := { s.oru with journal := [(9, e jrun)], next := [(3, 6)], head := [(3, 5)], ready := [9] } }
def s_ending : State := let s := s_pkt (fun x => { x with st := .ending, window := [1,2,3] }) (fun e => { e with copying := true, desc := { dq with firstCell := 70000, cellCount := 1 } }); { s with orch := { s.orch with cells := [(70000, ⟨true, true, false, 2, 1, 1, 0xFFFFFF⟩)] } }
def s_starting : State := let s := s_pkt (fun x => { x with st := .starting }) id; { s with orch := { s.orch with cells := [(4, ⟨true, true, false, 2, 1, 1, 0xFFFFFF⟩)] } }
def s_jr (f : JEntry → JEntry) : State := let s := s_pkt id f; { s with orch := { s.orch with cells := [(4, ⟨true, true, false, 2, 1, 1, 0xFFFFFF⟩)] } }
def s_wd : State := { (s_pkt (fun x => { x with wdFrom := 1, wdLimit := 2 }) id) with now := 10000000 }
def s_clu : State := let s := State.reset; { s with boot := { s.boot with codeOk := (List.range 32).map fun i => (i, true) } }
def s_sw : State := s_clu.wr (K.bankSwitchState 2) 1
def s_hop (t : Nat) : State := let s := thr t fun x => { x with regs := [(1, 77#32), (2, 0x100#32)], hregs := [(2, 10#32), (0, 0x100#32), (5, 3#32), (64, 0x100#32), (66, 20#32), (128, 0x100#32)], window := (List.range 96).map (BitVec.ofNat 8) }
  { s with cores := { s.cores with keys := [(3, ⟨true, List.replicate 16 9#8⟩)] } }
def hop (h fn : Nat) (st : Bool) (regs : Tbl Word) : HOp := ⟨3, 0, h, fn, regs, st, if h = 0 ∧ st ∧ fn ≤ 3 then List.replicate 16 9#8 else [], false, none, none, if h = 2 then [(0x20, 5#32), (0x21, 6#32), (0x3F, 0#32)] else []⟩
def s_ops (l : List HOp) : State := let s := s_hop 3; { s with cores := { s.cores with ops := [(0, l)] } }
def s_ref : State := let s := thr 3 fun x => { x with st := .held .refusal }; s
def opcrc (fn : Nat) : HOp := hop 1 fn true [(0, 0x100#32), (2, 20#32)]
def s_time (n : Nat) (f : Chrono → Chrono) : State := { State.reset with now := n, chron := f { domains := [(0, { TimeDomain.zero with units := 1000, frac := 5 }), (2, { TimeDomain.zero with units := 2^63, missed := 1 })], lastEdge := none, awaited := none, ppsOut := false, ppsOutAt := none, ppsDueAt := none } }
def s_missed : State := (s_time 2000100001 fun c => { c with lastEdge := some (10^9) }).wr (K.domState 2) 2
def s_early : State := (s_time 1500000000 fun c => { c with lastEdge := some (10^9) })
def s_out : State := ((s_time 5000 fun c => { c with ppsOut := true, ppsOutAt := some 4000 }).wr K.chrPpsOutEnable 1).wr K.chrPpsOutWidth 1
def s_out0 : State := (s_time 5000 fun c => { c with domains := (List.range 4).map fun i => (i, { TimeDomain.zero with units := 4000000000 + 16 })}).wr K.chrPpsOutEnable 1
def mkCopy (hd : Nat) : TmCopy := ⟨hd, d0, none, 7, none, 1, none, false, 0, false, none, false, false, false, false⟩
def cell1 : Cell := ⟨true, true, false, 2, 1, 1, 0xFFFFFF⟩
def s_tm (p : Nat) (x : TmPort) : State := let s := State.reset.setTmPort p x; { s with orch := { s.orch with cells := [(4, cell1)] } }
def s_hand : State := let s := up 3 (s_tm 3 TmPort.zero); { s with tm := { s.tm with inbox := [⟨d0, 4, none, [(3, 1, 0)], none⟩] } }
def s_ldown : State := s_tm 3 { TmPort.zero with classQ := [(2, [mkCopy 4])] }
def s_ctl (p : Nat) : State := up p (State.reset.setPort p { Port.zero with ctrlQ := [.pause 5] })
def s_sel : State := up 7 (s_tm 7 { TmPort.zero with classQ := [(7, [mkCopy 4])] })
def gl : List GateEntry := [⟨0x0F#8, 0, 100⟩, ⟨0xF0#8, 0, 200⟩]
def s_gate : State := { ((s_tm 3 { TmPort.zero with gate := ⟨[(0, ⟨0x0F#8, 0, 100⟩)], gl, 1000, 0, 0, 0, some 5000⟩ }).wr (K.tmpAdminCycleTime 3) 1000).wr (K.tmpAdminListLength 3) 1 with now := 500 }
def hr (l : List (Nat × Nat)) : Tbl Word := l.map fun (a, b) => (a, BitVec.ofNat 32 b)
def b_thr (l : List (Nat × Nat)) : State := thr 512 fun x => { x with hregs := hr l, pc := 0x40 }
def withPins (ps : Tbl Pin) (live : Tbl (BitVec 32)) (s : State) : State := { s with bio := { s.bio with pins := ps, pinLive := live } }
def s_unit (l : List (Nat × Nat)) (a : Assist) : State := let s := b_thr l; { s with bio := { s.bio with units := [(0, a)] } }
def s_up : State := let s := ((b_thr [(128, 0), (129, 0x123), (130, 0), (131, 8), (132, 8)]).wr (K.bstrEnable 0) 1).wr (K.bchUnit 0) 0; s.wr (K.bstrBatchTimeout 0) 100
def s_batch : State := { (s_up) with now := 1000000, bio := { s_up.bio with streams := [(0, ⟨[⟨0, 0x123, 0, [1,2,3], 5⟩], 10, 3#8⟩)] } }
def s_acf (b : List Byte) : State := { State.reset with tm := { State.reset.tm with acfIn := [{ mkCopy 4 with raw := some b }] } }
def acfB : List Byte := List.replicate 12 1#8 ++ toBE 2 0x22F0 ++ [0x82#8, 0x80#8, 16#8] ++ List.replicate 9 0#8 ++ [2#8, 4#8] ++ List.replicate 40 0#8
def s_bwd : State := { (thr 512 fun x => { x with kickAt := 1 }).wr (K.biopWatchdogLimit 0 0) 3 with now := 10000 } 
def s_bar : State := { (s_bwd.wr (K.biopMode 0 0) 1) with boot := { State.reset.boot with barrelOk := [(0, true), (1, true)] } }
def s_dram (st : Nat) (x : DramChan) : State :=
  let s := ((((State.reset.wr K.dramDramState st).wr (K.dchChannelState 0) 1).wr K.dramChannels 1).wr K.dramRanks 1).wr (K.drgBase 0) 0
  let s := (s.wr (K.drgSize 0) 0x10000).wr (K.drgState 0) (if st = 2 then 1 else 0)
  { s with now := 100000, dram := { s.dram with chans := [(0, x)], fixEcc := [128] } }
def s_dreg : State := (s_dram 2 DramChan.zero).wr (K.drgState 0) 0
def rdq : DramReq := ⟨3, 64, false, [], 4, 8, 5, 0⟩
def wrq : DramReq := ⟨3, 64, true, offsets 0 (List.replicate 64 7#8), 0, 64, 5, 0⟩
def mkDesc (src dst len : Nat) : BitVec 256 := BitVec.ofNat 256 (src * 2^192 + dst * 2^128 + len * 2^104)
def pil (a : Nat) : Nat := 2^60 + a
def dx1 : DmaXfer := ⟨mkDesc (pil 0x100) (pil 0x200) 8, 2, 0#32, none, 0, false⟩
def s_dma (f : Dma → Dma) : State := let s := ((State.reset.wr K.dmaCqEnable 1).wr K.dmaCqEntries 16).wr K.dmaCqBase 0x1000
  { s with mem := [(memKey .pilot 0x101, 9#8)], dma := f { s.dma with chans := [(3, some dx1)] } }
def keyOf (u n : Nat) : KeyEntry := ⟨true, 1, u, 77, (List.range n).map (BitVec.ofNat 8)⟩
def s_bin (st : List (Nat × KeyEntry)) : State := { (State.reset.wr K.binLifeCycle 3) with bin := { State.reset.bin with store := st, drk := List.replicate 32 7#8 } }
def s_rst (f : Boot → Boot) : State := { State.reset with now := 10^8, boot := f State.reset.boot }
def s_avs (n : Nat) : State := ((State.reset.wr K.rstAvsState 1).wr K.rstCoreVoltage n)
def s_lc (l : Nat) : State := { (State.reset.wr K.binLifeCycle l) with now := 10^8 }
def arec (n sev : Nat) : AlmRec := ⟨n, 5, 0x1201, sev, false, 3, 7, false, 50⟩
def s_alm (f : Almanac → Almanac) (fs : Nat) : State := { ((State.reset.wr K.almFlashState fs).wr K.almFlashSectors 64) with now := 10^9, alm := f State.reset.alm }
def s_trc : State := let s := (State.reset.wr K.trcCounterInterval 5); { s with now := 10^9, trc := { s.trc with selection := [(3, 0x42000101)], blocks := [[1,2,3],[4]], blockAt := 5 } }
def kcT : List Byte := List.replicate 32 0x5A#8
def sessT : Session := { Session.zero with state := 2, id := 77, mode := 1, role := 2, kc := kcT, kd := kcT }
def req (ty seq : Nat) (body : List Byte) : UdaReq := ⟨true, 7, 14, List.replicate 42 0#8, udaMsg ty 77 seq body kcT⟩
def helloT : State := let s := s_lc 2; { s with uda := { s.uda with engineQ := [⟨true, 7, 14, List.replicate 42 0#8, udaMsg 1 0 5 ([1#8, 2#8, 0#8, 9#8] ++ List.replicate 32 3#8) []⟩], sessions := [(3, sessT)] } }
def chalT : Session := { Session.zero with state := 1, id := 77, mode := 1, role := 2, keyId := 9, clientNonce := List.replicate 32 3#8, deviceNonce := List.replicate 32 4#8 }
def pskT : List Byte := List.replicate 32 0x11#8
def s_open : State := let s := (((s_lc 2).wr (K.udaPskKeyId 0) 9).wr (K.udaPskRole 0) 2)
  let s := { s with bin := { s.bin with store := [(4, ⟨true, 0, 4, 9, pskT⟩)] }, uda := { s.uda with sessions := [(3, chalT)] } }
  let ks := kmac256 pskT (s.transcript chalT) 32 (ascii "CHATIA-UDA-PSK")
  { s with uda := { s.uda with engineQ := [⟨true, 7, 14, List.replicate 42 0#8, udaMsg 3 77 6 (kmac256 ks (ascii "OPEN") 32 (ascii "CHATIA-UDA")) []⟩] } }
def e_id (i sub : Nat) : List Byte := toBE 2 i ++ toBE 1 sub
def wrBody : List Byte := [1#8, 0#8, 0#8, 0#8] ++ e_id 0x2030 2 ++ [0#8, 0#8, 1#8, 1#8, 0#8]
def segR : List Byte := e_id 0x5000 0x18 ++ [0#8] ++ toBE 4 0 ++ toBE 2 64 ++ toBE 2 0
def segW : List Byte := e_id 0x1020 4 ++ [0#8] ++ toBE 4 0 ++ toBE 4 20 ++ [1#8, 2#8, 3#8]
def tblR (op : Byte) : List Byte := e_id 0x70C2 1 ++ [op] ++ toBE 2 6 ++ toBE 4 3 ++ toBE 2 1
def tblW : List Byte := e_id 0x70C2 1 ++ [2#8] ++ toBE 2 68 ++ toBE 4 3 ++ List.replicate 64 6#8
def s_seg : State := { State.reset with now := 10^12, uda := { State.reset.uda with sessions := [(3, { sessT with seg := some (5, 9, [1], 4) })] } }
def s_canq : State := let s := ((State.reset.wr K.udaUdaCanChannel 1).wr K.udaUdaCanReqChannel 5); { s with rdv := { s.rdv with chans := [(5, ⟨[[8#32, 4#32]], [], []⟩)], live := { s.rdv.live with chans := [(5, 0x84#32)] } } }
def img (ty seq targets : Nat) (body : List Byte) : List Byte :=
  toLE 4 0x4D494843 ++ toLE 2 1 ++ toLE 1 ty ++ toLE 1 0 ++ toLE 8 seq ++ [0xFF#8, 0#8] ++ toLE 2 0 ++ toLE 4 body.length ++ toLE 4 targets ++ toLE 4 0 ++
    shake256 body 64 ++ List.replicate 192 0#8 ++ body
def flashDir (l : List FlashEntry) : List Byte :=
  let b := l.flatMap fun e => toLE 4 e.offset ++ toLE 4 e.size ++ toLE 1 e.ty ++ toLE 1 e.copy ++ toLE 6 0
  let h := toLE 4 0x52444843 ++ toLE 2 1 ++ toLE 2 l.length ++ toLE 4 0
  h ++ toLE 4 (crc 32 0x1EDC6F41 0xFFFFFFFF true true 0xFFFFFFFF (h ++ b)) ++ b
def dirT : List FlashEntry := [⟨0x2000, 0x1000, 1, 0⟩, ⟨0x3000, 0x4000, 2, 0⟩, ⟨0x8000, 0x4000, 2, 1⟩, ⟨0x5000, 0x800, 3, 0⟩]
def withFlash (s : State) : State := (s.storeBytes .flash 0 (flashDir dirT)).storeBytes .flash 0x2000 (img 1 7 0 [1, 2, 3])
def s_pinS (n : Nat) (w0 w2 : Nat) : State := withPins [(5, { Pin.zero with sets := (List.range n).map fun i => (BitVec.ofNat 32 (50 + i), true, 512) })] ((List.range 16).map fun i => (i, (0x45#32))) (b_thr [(0, w0), (1, 1), (2, w2), (3, 0x20)])
def s_pinE (l : List (Bool × BitVec 32)) (waits : Tbl Nat) : State := let s := s_pinS 0 5 0; { s with bio := { s.bio with pins := [(5, { Pin.zero with edges := l })], waits := waits } }
def s_asst (x : List (Nat × Nat)) (f : Assist → Assist) : State := let s := (s_unit (([64, 65, 66, 67].map fun k => (k, (x.lookup k).getD (if k = 66 then 32 else 0)))) (f Assist.zero)); s.wr (K.unitMode 0) 1
def aw : Word × Nat × Bool := (7#32, 32, false)
def s_upq (l : List (Nat × Nat)) (n max tmo : Nat) : State :=
  let s := ((((((b_thr ([(128, 0), (129, 0x123), (130, 0), (131, 8), (132, 8)] ++ l)).wr (K.bstrEnable 0) 1).wr (K.bchUpStream 0) 0).wr (K.bchUnit 0) (if n = 99 then 1 else 0)).wr (K.bstrMaxFrameBytes 0) max).wr (K.bstrBatchTimeout 0) tmo).wr (K.unitOwnerThread 1) 3
  { s with bio := { s.bio with streams := [(0, ⟨List.replicate (if n = 99 then 0 else n) ⟨0, 0x123, 0, [1,2,3], 5⟩, 10, 3#8⟩)] } }
def s_snd (n : Nat) (f : Sounding → Sounding) : State := { State.reset.wr K.sndSoundingEnable 1 with now := n, snd := f State.reset.snd }
def sndCores (l : List Nat) (s : State) : State := (s.wr K.coreLockstepMask 0).wr K.sndOutOfServiceCores (if l = [] then 2 ^ 64 - 1 else (l.map fun i => 2 ^ i).foldl (· + ·) 0)
def busyT (t : Nat) (s : State) : State := s.setThread t { Thread.zero with st := .ready }
def s_dramX (x : DramChan → DramChan) (f : Dram → Dram) : State := let s := s_dram 2 (x DramChan.zero); { s with dram := f s.dram }
def s_dramK (k : Nat) (x : DramChan → DramChan) (f : Dram → Dram) : State := (s_dramX x fun d => { (f d) with keys := [(0, [1])] }).wr (K.drgKind 0) k
def part : DramReq := { wrq with bytes := offsets 4 [7, 8] }
def s_almR (n fs : Nat) (r : List AlmRec) (f : Almanac → Almanac) : State := { s_alm (fun a => f { a with raised := [], slots := r.map fun x => (x.seq, x) }) fs with now := n }
def s_saf (n : Nat) (f : Safety → Safety) : State := { State.reset with now := n, saf := f State.reset.saf }
def busyP (s : State) : State := s.setThread 576 { Thread.zero with st := .ready }
def s_boot (life n : Nat) (f : Boot → Boot) : State := let s := s_lc life; { s with boot := f { s.boot with asserted := false, step := n } }
def s_zer (s : State) : State := s.wr K.binBinnacleState 1
def s_otp (life : Nat) (f : Binnacle → Binnacle) : State := let s := s_lc life; { s with bin := f s.bin }
def s_rq (ty seq : Nat) (body : List Byte) (f : Session → Session) (g : State → State) : State :=
  let s := g (s_lc 2)
  { s with now := 10^10, uda := { s.uda with engineQ := [req ty seq body], sessions := [(3, f sessT)] } }
def heldC (s : State) : State := { s with uda := { s.uda with commit := some ⟨[1], 0, 0, req 0x1B 2 [3#8, 0#8, 0#8, 0#8], 3, 77, 2⟩ } }
def waits (n : Nat) (x : Session) : Session := { x with waiting := List.replicate n (req 7 4 []) }
def udaB (row : Nat) : Nat × List Byte := if row = 7 then (7, []) else if row = 17 then (17, e_id 0x1000 4 ++ [0#8]) else if row = 19 then (19, wrBody) else if row = 21 then (21, segR)
  else if row = 23 then (23, segW) else if row = 25 then (25, tblR 1) else if row = 26 then (25, tblW) else (0x1B, [BitVec.ofNat 8 (row - 32), 0#8, 0#8, 0#8])
def s_row (row : Nat) (f : Session → Session) (g : State → State) : State := s_rq (udaB row).1 5 (udaB row).2 f g
def full16 (s : State) : State := { s with uda := { s.uda with sessions := (List.range 16).map fun i => (i, { sessT with id := 100 + i }) } }
def noPsk (s : State) : State := { s with bin := { s.bin with store := [] } }
def fullStore (e : KeyEntry) (rng : Bool) : State := let s := s_bin ((List.range 256).map fun i => (i, if i = 3 then e else keyOf 1 32)); { s with bin := { s.bin with rngBad := !rng } }
def s_opsX (l : List HOp) (f : Cores → Cores) : State := let s := s_ops l; { s with cores := f s.cores }
def s_hpend : State := let s := s_hop 3; s.setThread 3 { s.thread 3 with hpend := (List.range 64).map (hkey 0 0) }
def gcmR (n : Nat) : Tbl Word := [(0, 0x100#32), (1, 0x300#32), (2, BitVec.ofNat 32 n), (3, 0x200#32), (4, 8#32), (5, 3#32)]
def s_lvl (l : List Item) : State := s_disp.setLevel 7 l
def s_vict : State := (List.range 8).foldl (fun s t => s.setThread t { Thread.zero with st := .ready, item := some (iPost 0) }) (sndCores ((List.range 63).map (· + 1)) (s_lvl [iTim]))
def s_due2 (f : DelayEntry → DelayEntry) : State := let s := s_disp; (({ s with disp := { s.disp with lists := [(1, ⟨[f (de 100), { de 200 with slot := 4 }], []⟩)] } } : State)).wr (K.dispLevelLimit 7) 2
def s_replay (n : Nat) : State := let s := s_pkt id (fun e => { e with st := .replay, fence := true }); if n = 0 then s else s.setLevel 2 [{ iPkt with kind := .replay, enq := 0 }]
def s_rel (f : JEntry → JEntry) : State := s_jr fun e => f { e with desc := { e.desc with firstCell := 4, cellCount := 1 }, st := .ended }
def s_nopool : State := s_ending.wr (K.poolOccupancy 5) (2 ^ 21)
def code (t : Nat) (i : Instr) (s : State) : State :=
  match s.codeKey t, wordOf i with
  | some k, some w => { s with mem := mwrite s.mem k (toLE 4 w) }
  | _, _ => s
def s_ram (t : Nat) (bs : List Byte) : State := ((s_ask t).storeBytes (ramBase t).1 ((ramBase t).2 + 0x100) bs).wr (K.rtRights 0) 2
def ageK (e : BrEntry) (r : Nat) (f : State → State) : State := f ((s_br e).wr (K.brRehashState 0) r)
def s_claim (st seq : Nat) : State := let s := ((s_re st).wr (K.brShadowBaseCell 0) 196000).wr (K.brShadowBaseCell 1) 196000
  { (s.wr (K.brSwapLogSeq 0) seq) with orch := { s.orch with claims := [(196000, 16392)] } }
def s_gatN (units idx : Nat) (c : Option Nat) : State := let s := s_tm 3 { TmPort.zero with gate := ⟨[(0, ⟨0x0F#8, 0, 100⟩)], gl, 1000, 0, idx, 0, c⟩ }
  { (s.wr (K.tmpAdminCycleTime 3) 1000).wr (K.tmpAdminListLength 3) 1 with chron := { s.chron with domains := [(0, { TimeDomain.zero with units := units })] } }
def s_rec : State := { State.reset with now := 10 ^ 9, tm := { State.reset.tm with recovery := [(5, { Recovery.zero with lastAt := some 3, timeout := 2 })] } }
def s_inj (turn : Bool) : State := let s := s_port 7 { Port.zero with rxQ := [⟨fr 64 0x800, 9, 1, 0xFF, 0, false⟩] }
  { s with bio := { s.bio with inject := [⟨fr 66 0x800, 9, 1, 0xFF, 0, false⟩], injectTurn := turn } }
def s_cls (f : Tbl Rule → Tbl Rule) : State := let s := s_pc 0; { s with pc := { s.pc with rules := f s.pc.rules } }
def s_dmaX (run : Bool) (d : BitVec 256) (a : Bool) : State := s_dma fun x => { x with chans := [(3, some { dx1 with desc := d, abort := a })], running := if run then some 3 else none }
def s_dmaH : State := { (s_dma fun x => { x with held := [⟨3, dx1, 0, 8, false⟩], heldAt := 0 }) with now := 10 ^ 7 }
def s_ppsLate : State := { s_missed with now := 3 * 10 ^ 9, chron := { s_missed.chron with awaited := some (10 ^ 9) } }
def s_flyE (p : Nat) (f : Flight) (x : Port → Port) : State := let s := s_lode [f] (some txf); s.setPort p (x (s.port p))
def s_bp (p fc : Nat) (b : BitVec 8) : State := (s_port p { Port.zero with bp := b }).wr (K.portFlowControl p) fc
def s_ver (st n : Nat) : State := (s_port 3 { Port.zero with verifyTries := n }).wr (K.portVerifyStatus 3) st
def s_adm (p : Nat) : State := let s := s_port p { Port.zero with anDone := true }; { s.wr (K.portAdminUp p) 1 with boot := { s.boot with rstout := true, plls := (List.range 27).map fun i => (i, (1, 0)) } }
def s_q2 (x : TmPort) (b : Bool) : State := (if b then up 3 else id) (s_tm 3 x)
def rawCopy (c : Nat) : TmCopy := { mkCopy 4 with raw := some (fr 64 0x800), cls := c }
def s_line (x : Port) : State := up 3 ((s_port 3 x).wr (K.portVerifyStatus 3) 3)

/-! ### From a check to a hypothesis -/

/-- Instruction i can issue where the conditions on its thread hold and the thread fetches its word. -/
theorem canIssue_of {s : State} {t : Nat} {i : Instr} (h : (decide ((s.thread t).st = .ready) && !s.issueStopped t &&
    decide ((s.thread t).pc ≤ codeTop t) && ((s.codeKey t).bind fun k => s.badIn k 4).isNone && (match wordOf i with
      | some w => decide (s.fetchWord t w = w) && decide (reservedCause t w = none)
      | none => false)) = true) : s.CanIssue t i := by
  cases hw : wordOf i with
  | none => simp [hw] at h
  | some w =>
    simp only [hw, Bool.and_eq_true, decide_eq_true_eq, Bool.not_eq_true', Option.isNone_iff_eq_none] at h
    exact ⟨h.1.1.1.1, h.1.1.1.2, h.1.1.2, h.1.2, w, hw, h.2.1, h.2.2⟩

/-- What holds of every entry of a table holds of every value it gives, where it holds of the default. -/
theorem tget_all {α : Type} {d : α} (p : Nat → α → Bool) (hd : ∀ k, p k d = true) :
    ∀ t : Tbl α, (t.all fun kx => p kx.1 kx.2) = true → ∀ k, p k (tget d t k) = true
  | [], _, k => hd k
  | (j, v) :: r, h, k => by
    simp only [List.all_cons, Bool.and_eq_true] at h
    unfold tget
    split
    · next e => exact e ▸ h.1
    · exact tget_all p hd r h.2 k

/-- No session but those the Pilot holds has a request waiting. -/
theorem noWaiting {s : State} (h : (s.uda.sessions.all fun kx => s.pilotHolds kx.1 || kx.2.waiting.isEmpty) = true) :
    ∀ k : Nat, s.pilotHolds k = true ∨ (s.session k).waiting = [] := by
  intro k
  have := tget_all (fun k x => s.pilotHolds k || x.waiting.isEmpty) (d := Session.zero) (by intro k; simp [Session.zero]) _ h k
  simpa [State.session] using this

/-- Nothing is at the head of a class where the port has no queues. -/
theorem noHeads {s : State} {p : Nat} (h : ((s.tmPort p).classQ.isEmpty && (s.tmPort p).streamQ.isEmpty) = true) (j : Nat) :
    s.headsOf p j = [] := by
  simp only [Bool.and_eq_true, List.isEmpty_iff] at h
  simp [State.headsOf, h, tget]

/-- No class is preemptable where preemption is not active. -/
theorem noPreempt {s : State} {p : Nat} (h : s.preemptActive p = false) (j : Nat) : s.preemptClass p j = false := by
  simp [State.preemptClass, h]

theorem optAll {α : Type} {P : α → Prop} [DecidablePred P] {x : Option α} (h : (x.all fun a => decide (P a)) = true) :
    ∀ a, x = some a → P a := by
  rintro a rfl
  simpa using h

theorem optAll' {α : Type} {P : α → Prop} [DecidablePred P] {x : Option α} (h : (x.all fun a => decide (P a)) = true) :
    ∀ a, some a = x → P a := by
  rintro a rfl
  simpa using h

theorem memAll {α : Type} {P : α → Prop} [DecidablePred P] {l : List α} (h : (l.all fun a => decide (P a)) = true) :
    ∀ a, a ∈ l → P a := by
  simpa using h

theorem sliceNone {s : State} {k : Nat} (h : s.snd.slice = none) : ∀ c : Nat, s.snd.slice ≠ some (c, k) := by
  simp [h]

/-! ### The hypotheses of every statement are met -/

/-- A command waits, and the step takes it. -/
theorem witness_StepTakesOneCommand : ∃ s t : State, s.pending = [.timedSetApply] ∧ step s = .next t :=
  ⟨{ State.reset with pending := [.timedSetApply] }, after (exec .timedSetApply State.reset), rfl, rfl⟩

/-- Memory that lists bytes is canonical, and the step answers. -/
theorem witness_MemoryStaysCanonical : ∃ s t : State, s.mem ≠ [] ∧ Memory.wf s.mem = true ∧ step s = .next t :=
  ⟨State.reset.storeBytes .pilot 5 [1#8, 2#8], State.reset.storeBytes .pilot 5 [1#8, 2#8], by decide +kernel, by decide +kernel, rfl⟩

/-- Bit 3 of OTP word 100 is 1, and the step answers. -/
theorem witness_OtpBitsNeverClear : ∃ (s t : State) (w i : Nat), s.otpBit w i = true ∧ step s = .next t :=
  ⟨{ State.reset with bin := { State.reset.bin with otp := [(100, 8)] } }, { State.reset with bin := { State.reset.bin with otp := [(100, 8)] } },
    100, 3, by decide +kernel, rfl⟩

/-- A frame has left PC, and the journal, which is empty, gives it an entry. -/
theorem witness_PacketsAreReleasedInOrder_issue : ∃ (s : State) (p : Fin 8) (d : Desc) (r : List Desc) (j : Nat),
    s.pc.toDx = d :: r ∧ d.ingressPort.toNat = p.val ∧ s.oru.journal.length < 4096 ∧
      s.findJournal (s.oru.journal.length + 1) (s.free 4096) = some j :=
  ⟨{ State.reset with pc := { State.reset.pc with toDx := [dq, d0] } }, 3, dq, [d0], State.reset.free 4096 % 4096, rfl, by decide +kernel,
    by decide +kernel, by simp [State.findJournal, State.jentry, State.reset, tget, State.free]⟩

/-- States and operands that meet the hypotheses of `Obligations.CellsAreOwnedAndReturned`, clause by clause. -/
theorem witness_CellsAreOwnedAndReturned :
(∃ (s : State) (o : Fin 12) (h : BitVec 24), (s.isBufferCell h.toNat = true ∧ (s.cell h.toNat).allocated = true ∧ (s.cell h.toNat).head =
      true ∧ (s.cell h.toNat).quarantined = false ∧ (s.cell h.toNat).owners.getLsbD o.val = true ∧ (s.cell h.toNat).owners &&& ~~~(1#16
      <<< o.val) ≠ 0#16)) ∧
(∃ (s : State) (o : Fin 12) (h : BitVec 24), (s.isBufferCell h.toNat = true ∧ (s.cell h.toNat).allocated = true ∧ (s.cell h.toNat).head =
      true ∧ (s.cell h.toNat).quarantined = false ∧ (s.cell h.toNat).owners.getLsbD o.val = true ∧ (s.cell h.toNat).owners = 1#16 <<<
      o.val ∧ s.badLinkOf h.toNat = none)) ∧
(∃ (s : State) (d : Bool) (h : BitVec 24), (s.isBufferCell h.toNat = true ∧ (s.cell h.toNat).allocated = true ∧ (s.cell h.toNat).head =
      true ∧ (s.cell h.toNat).quarantined = false ∧ ((s.cell h.toNat).owners.getLsbD (if d = true then 10 else 9) = true) ∧ ((s.cell
      h.toNat).owners &&& ~~~(1#16 <<< if d = true then 10 else 9) ≠ 0#16))) ∧
(∃ (s : State) (d : Bool) (h : BitVec 24), (s.isBufferCell h.toNat = true ∧ (s.cell h.toNat).allocated = true ∧ (s.cell h.toNat).head =
      true ∧ (s.cell h.toNat).quarantined = false ∧ ((s.cell h.toNat).owners.getLsbD (if d = true then 10 else 9) = true) ∧ ((s.cell
      h.toNat).owners = 1#16 <<< if d = true then 10 else 9) ∧ s.badLinkOf h.toNat = none)) ∧
(∃ (s : State) (h : BitVec 24), (s.isBufferCell h.toNat = true ∧ (s.cell h.toNat).allocated = true ∧ (s.cell h.toNat).head = true ∧
      (s.cell h.toNat).quarantined = true)) ∧
(∃ (s : State), (s.on K.orchRecoverState = false) ∧ (∀ (h : Nat), h ∈ s.quarantinedHeads → s.isBufferCell h = true ∧ (s.cell h).allocated
      = true ∧ (s.cell h).head = true ∧ (s.cell h).quarantined = true) ∧ (∀ (g : Nat), g ∈ s.quarantinedHeads → ∀ (h : Nat), h ∈
      s.quarantinedHeads → g ≠ h → ∀ (c : Nat), c ∈ s.chain g → ¬c ∈ s.chain h)) ∧
(∃ (s : State), (s.on K.orchRecoverState = true)) ∧
(∃ (s : State) (b : BitVec 24) (n : BitVec 32), (s.pilotBase ≤ b.toNat ∧ b.toNat + n.toNat ≤ 196608 ∧ ((s.orch.claims.all fun c => decide
      (b.toNat + n.toNat ≤ c.fst) || decide (c.fst + c.snd ≤ b.toNat)) = true))) ∧
(∃ (s : State) (b : BitVec 24) (n : BitVec 32), (s.pilotBase ≤ b.toNat ∧ b.toNat + n.toNat ≤ 196608 ∧ (b.toNat, n.toNat) ∈ s.orch.claims)) :=
  ⟨⟨s_cell (cellB 3 false), 0, 0x011170#24, by decide +kernel⟩,
    ⟨s_chain, 0, 0x011170#24, by decide +kernel⟩,
    ⟨s_cell (cellB 1536 false), true, 0x011170#24, by decide +kernel⟩,
    ⟨s_cell (cellB 1024 false), true, 0x011170#24, by decide +kernel⟩,
    ⟨s_cell (cellB 1 true), 0x011170#24, by decide +kernel⟩,
    ⟨s_alu 3, by decide +kernel, memAll (by decide +kernel), memAll (by decide +kernel)⟩,
    ⟨State.reset.wr K.orchRecoverState 1, by decide +kernel⟩,
    ⟨s_alu 3, 0x02fda0#24, 0x00000000#32, by decide +kernel⟩,
    ⟨s_cell (cellB 1 true), 0x02fda0#24, 0x0000000a#32, by decide +kernel⟩⟩

/-- States and operands that meet the hypotheses of `Obligations.ChannelsCarryMessages`, clause by clause. -/
theorem witness_ChannelsCarryMessages :
(∃ (s : State) (t : Fin 580) (ra : Fin 32) (rs : Fin 32) (rb : Fin 32) (n : Fin 8) (p : Fin 2), (BitVec.toNat ((s.thread t.val).reg
      ra.val) < 1024 ∧ (s.chanOpen (BitVec.toNat ((s.thread t.val).reg ra.val)) = true ∨ s.member (BitVec.toNat ((s.thread t.val).reg
      ra.val) / 64) t.val = true) ∧ rs.val + n.val ≤ 31 ∧ isBarrelThread t.val = false ∧ (s.rdvChan (BitVec.toNat ((s.thread t.val).reg
      ra.val))).receivers = [] ∧ (s.rdvChan (BitVec.toNat ((s.thread t.val).reg ra.val))).msgs.length < s.chanDepth (BitVec.toNat
      ((s.thread t.val).reg ra.val)) ∧ s.rp (t.val) (s.thread t.val).second p.val = Rp.empty ∧ s.toDx (crossOf t.val) = []) ∧ s.CanIssue
      (t.val) (Instr.chsend t ra rs rb n p)) ∧
(∃ (s : State) (t : Fin 580) (ra : Fin 32) (rs : Fin 32) (rb : Fin 32) (n : Fin 8) (p : Fin 2) (w : Waiter) (r : List Waiter),
      (BitVec.toNat ((s.thread t.val).reg ra.val) < 1024 ∧ (s.chanOpen (BitVec.toNat ((s.thread t.val).reg ra.val)) = true ∨ s.member
      (BitVec.toNat ((s.thread t.val).reg ra.val) / 64) t.val = true) ∧ rs.val + n.val ≤ 31 ∧ isBarrelThread t.val = false ∧ (s.rdvChan
      (BitVec.toNat ((s.thread t.val).reg ra.val))).receivers = w :: r ∧ w.tid ≠ t.val ∧ s.rp (t.val) (s.thread t.val).second p.val =
      Rp.empty ∧ s.toDx (crossOf t.val) = []) ∧ s.CanIssue (t.val) (Instr.chsend t ra rs rb n p)) ∧
(∃ (s : State) (t : Fin 580) (ra : Fin 32) (rs : Fin 32) (rb : Fin 32) (n : Fin 8) (p : Fin 2), (BitVec.toNat ((s.thread t.val).reg
      ra.val) < 1024 ∧ (s.chanOpen (BitVec.toNat ((s.thread t.val).reg ra.val)) = true ∨ s.member (BitVec.toNat ((s.thread t.val).reg
      ra.val) / 64) t.val = true) ∧ isBarrelThread t.val = true ∧ s.rp (t.val) (s.thread t.val).second p.val = Rp.empty ∧ s.toDx (crossOf
      t.val) = []) ∧ s.CanIssue (t.val) (Instr.chsend t ra rs rb n p)) ∧
(∃ (s : State) (t : Fin 580) (ra : Fin 32) (rs : Fin 32) (rb : Fin 32) (p : Fin 2) (m : List Word) (ms : List (List Word)), (BitVec.toNat
      ((s.thread t.val).reg ra.val) < 1024 ∧ (s.chanOpen (BitVec.toNat ((s.thread t.val).reg ra.val)) = true ∨ s.member (BitVec.toNat
      ((s.thread t.val).reg ra.val) / 64) t.val = true) ∧ BitVec.toNat ((s.thread t.val).reg rs.val) + 32 ≤ ramTop t.val ∧ BitVec.toNat
      ((s.thread t.val).reg rs.val) % 8 = 0 ∧ (s.rdvChan (BitVec.toNat ((s.thread t.val).reg ra.val))).senders = [] ∧ (s.rdvChan
      (BitVec.toNat ((s.thread t.val).reg ra.val))).msgs = m :: ms ∧ s.rp (t.val) (s.thread t.val).second p.val = Rp.empty ∧ s.toDx
      (crossOf t.val) = []) ∧ s.CanIssue (t.val) (Instr.chrecv t ra rs rb p)) ∧
(∃ (s : State) (t : Fin 580) (ra : Fin 32) (rs : Fin 32) (rb : Fin 32) (p : Fin 2), (BitVec.toNat ((s.thread t.val).reg ra.val) < 1024 ∧
      (s.chanOpen (BitVec.toNat ((s.thread t.val).reg ra.val)) = true ∨ s.member (BitVec.toNat ((s.thread t.val).reg ra.val) / 64) t.val =
      true) ∧ BitVec.toNat ((s.thread t.val).reg rs.val) + 32 ≤ ramTop t.val ∧ BitVec.toNat ((s.thread t.val).reg rs.val) % 8 = 0 ∧
      (s.rdvChan (BitVec.toNat ((s.thread t.val).reg ra.val))).senders = [] ∧ (s.rdvChan (BitVec.toNat ((s.thread t.val).reg
      ra.val))).msgs = [] ∧ s.rp (t.val) (s.thread t.val).second p.val = Rp.empty ∧ s.toDx (crossOf t.val) = []) ∧ s.CanIssue (t.val)
      (Instr.chrecv t ra rs rb p)) :=
  ⟨⟨code 3 (Instr.chsend 3 1 0 0 0 0) (s_chan 3 Chan.zero), 3, 1, 0, 0, 0, 0, by decide +kernel, canIssue_of (by decide +kernel)⟩,
    ⟨code 3 (Instr.chsend 3 1 0 0 0 0) (s_chan 3 ⟨[], [w9], []⟩), 3, 1, 0, 0, 0, 0,
      { tid := 9, second := false, rp := 1, prio := 3, words := [0x00000001#32, 0x00000002#32], buf := 64 }, [], by decide +kernel,
      canIssue_of (by decide +kernel)⟩,
    ⟨code 512 (Instr.chsend 512 0 0 0 0 0) (s_up), 512, 0, 0, 0, 0, 0, by decide +kernel, canIssue_of (by decide +kernel)⟩,
    ⟨code 3 (Instr.chrecv 3 1 0 0 0) (s_chan 3 ⟨[[1, 2], [3]], [], []⟩), 3, 1, 0, 0, 0, [0x00000001#32, 0x00000002#32], [[0x00000003#32]],
      by decide +kernel, canIssue_of (by decide +kernel)⟩,
    ⟨s_alu 576, 576, 0, 0, 0, 0, by decide +kernel, canIssue_of (by decide +kernel)⟩⟩

/-- States and operands that meet the hypotheses of `Obligations.SelectsAndImmediatesWrite`, clause by clause. -/
theorem witness_SelectsAndImmediatesWrite : ∃ (s : State) (t : Fin 580) (rd : Fin 32) (ra : Fin 32), s.CanIssue (t.val) (Instr.clz t rd
    ra) :=
⟨s_alu 576, 576, 0, 0, canIssue_of (by decide +kernel)⟩

/-- States and operands that meet the hypotheses of `Obligations.TamperActionsKeepTheirFloor`, clause by clause. -/
theorem witness_TamperActionsKeepTheirFloor : ∃ (s : State) (d : Fin 7) (v : BitVec 8), (v.toNat ≤ 2 ∧ s.otpWord 232 / 4 ^ d.val % 4 ≤
    v.toNat) :=
⟨s_alu 3, 0, 0x00#8, by decide +kernel⟩

/-- States and operands that meet the hypotheses of `Obligations.DecimalWrites`, clause by clause. -/
theorem witness_DecimalWrites :
(∃ (s : State) (t : Fin 580) (rd : Fin 32) (ra : Fin 32) (rb : Fin 32) (m : Nat) (n : Nat), (bcdVal 8 (BitVec.toNat ((s.thread t.val).reg
      ra.val)) = some m ∧ bcdVal 8 (BitVec.toNat ((s.thread t.val).reg rb.val)) = some n) ∧ s.CanIssue (t.val) (Instr.dadd t rd ra rb)) ∧
(∃ (s : State) (t : Fin 580) (rd : Fin 32) (ra : Fin 32) (rb : Fin 32), ((bcdVal 8 (BitVec.toNat ((s.thread t.val).reg ra.val)) = none ∨
      bcdVal 8 (BitVec.toNat ((s.thread t.val).reg rb.val)) = none)) ∧ s.CanIssue (t.val) (Instr.dadd t rd ra rb)) ∧
(∃ (s : State) (t : Fin 580) (rd : Fin 32) (ra : Fin 32), s.CanIssue (t.val) (Instr.bin2bcd t rd ra)) ∧
(∃ (s : State) (t : Fin 580) (rd : Fin 32) (ra : Fin 32) (m : Nat), (bcdVal 8 (BitVec.toNat ((s.thread t.val).reg ra.val)) = some m) ∧
      s.CanIssue (t.val) (Instr.bcd2bin t rd ra)) ∧
(∃ (s : State) (t : Fin 580) (rd : Fin 32) (ra : Fin 32), (bcdVal 8 (BitVec.toNat ((s.thread t.val).reg ra.val)) ≠ none) ∧ s.CanIssue
      (t.val) (Instr.digasc t rd ra)) ∧
(∃ (s : State) (t : Fin 580) (rd : Fin 32) (ra : Fin 32), ((∀ (i : Nat), i < 4 → 48#32 ≤ (s.thread t.val).reg ra.val >>> (8 * i) &&&
      255#32 ∧ (s.thread t.val).reg ra.val >>> (8 * i) &&& 255#32 ≤ 57#32)) ∧ s.CanIssue (t.val) (Instr.ascdig t rd ra)) :=
  ⟨⟨s_alu 576, 576, 0, 0, 0, 0, 0, by decide +kernel, canIssue_of (by decide +kernel)⟩,
    ⟨s_mem 576, 576, 0, 0, 8, by decide +kernel, canIssue_of (by decide +kernel)⟩,
    ⟨s_alu 576, 576, 0, 0, canIssue_of (by decide +kernel)⟩,
    ⟨s_alu 576, 576, 0, 0, 0, by decide +kernel, canIssue_of (by decide +kernel)⟩,
    ⟨s_alu 576, 576, 0, 0, by decide +kernel, canIssue_of (by decide +kernel)⟩,
    ⟨s_alu 576, 576, 0, 5, by decide +kernel, canIssue_of (by decide +kernel)⟩⟩

/-- States and operands that meet the hypotheses of `Obligations.BarrelPinsAreDriven`, clause by clause. -/
theorem witness_BarrelPinsAreDriven :
(∃ (s : State) (b : Fin 64), (bits (s.cop (512 + b.val) 0 0) 30 6 ≠ 0) ∧ s.CanIssue (512 + b.val) (Instr.set b)) ∧
(∃ (s : State) (b : Fin 64), (bits (s.cop (512 + b.val) 0 0) 30 6 = 0 ∧ (¬(fun i => s.pinOwner i = b.val / 16) (s.cop (512 + b.val) 0 0 %
      64))) ∧ s.CanIssue (512 + b.val) (Instr.set b)) ∧
(∃ (s : State) (b : Fin 64), (bits (s.cop (512 + b.val) 0 0) 30 6 = 0 ∧ s.pinOwner (s.cop (512 + b.val) 0 0 % 64) = b.val / 16 ∧ (¬(fun i
      => s.pinFunction i = 1 ∨ s.pinFunction i = 2) (s.cop (512 + b.val) 0 0 % 64))) ∧ s.CanIssue (512 + b.val) (Instr.set b)) ∧
(∃ (s : State) (b : Fin 64), (s.pinOwner (s.cop (512 + b.val) 0 0 % 64) = b.val / 16 ∧ (s.pinFunction (s.cop (512 + b.val) 0 0 % 64) = 1 ∨
      s.pinFunction (s.cop (512 + b.val) 0 0 % 64) = 2) ∧ bits (s.cop (512 + b.val) 0 0) 31 6 = 0) ∧ s.CanIssue (512 + b.val) (Instr.set
      b)) ∧
(∃ (s : State) (b : Fin 64), (s.pinOwner (s.cop (512 + b.val) 0 0 % 64) = b.val / 16 ∧ (s.pinFunction (s.cop (512 + b.val) 0 0 % 64) = 1 ∨
      s.pinFunction (s.cop (512 + b.val) 0 0 % 64) = 2) ∧ bits (s.cop (512 + b.val) 0 0) 31 6 = 2 ^ 25 ∧ s.setLate (s.cop (512 + b.val) 0
      2) = true) ∧ s.CanIssue (512 + b.val) (Instr.set b)) ∧
(∃ (s : State) (b : Fin 64), (s.pinOwner (s.cop (512 + b.val) 0 0 % 64) = b.val / 16 ∧ (s.pinFunction (s.cop (512 + b.val) 0 0 % 64) = 1 ∨
      s.pinFunction (s.cop (512 + b.val) 0 0 % 64) = 2) ∧ bits (s.cop (512 + b.val) 0 0) 31 6 = 2 ^ 25 ∧ s.setLate (s.cop (512 + b.val) 0
      2) = false ∧ (s.pin (s.cop (512 + b.val) 0 0 % 64)).sets.length < 4) ∧ s.CanIssue (512 + b.val) (Instr.set b)) ∧
(∃ (s : State) (b : Fin 64), (s.pinOwner (s.cop (512 + b.val) 0 0 % 64) = b.val / 16 ∧ (s.pinFunction (s.cop (512 + b.val) 0 0 % 64) = 1 ∨
      s.pinFunction (s.cop (512 + b.val) 0 0 % 64) = 2) ∧ bits (s.cop (512 + b.val) 0 0) 31 6 = 2 ^ 25 ∧ s.setLate (s.cop (512 + b.val) 0
      2) = false ∧ ¬(s.pin (s.cop (512 + b.val) 0 0 % 64)).sets.length < 4) ∧ s.CanIssue (512 + b.val) (Instr.set b)) ∧
(∃ (s : State) (b : Fin 64), (bits (s.cop (512 + b.val) 0 0) 30 6 = 0 ∧ s.cop (512 + b.val) 0 3 < 65536 ∧ (∀ (k : Nat), k < 16 → bit
      (s.cop (512 + b.val) 0 3) k = 1 → (fun i => s.pinOwner i = b.val / 16) ((fun k => 16 * bits (s.cop (512 + b.val) 0 0) 5 4 + k) k) ∧
      (fun i => s.pinFunction i = 1 ∨ s.pinFunction i = 2) ((fun k => 16 * bits (s.cop (512 + b.val) 0 0) 5 4 + k) k)) ∧ bits (s.cop (512
      + b.val) 0 0) 31 6 = 0) ∧ s.CanIssue (512 + b.val) (Instr.gset b)) ∧
(∃ (s : State) (b : Fin 64), (bits (s.cop (512 + b.val) 0 0) 30 6 = 0 ∧ s.cop (512 + b.val) 0 3 < 65536 ∧ (∀ (k : Nat), k < 16 → bit
      (s.cop (512 + b.val) 0 3) k = 1 → (fun i => s.pinOwner i = b.val / 16) ((fun k => 16 * bits (s.cop (512 + b.val) 0 0) 5 4 + k) k) ∧
      (fun i => s.pinFunction i = 1 ∨ s.pinFunction i = 2) ((fun k => 16 * bits (s.cop (512 + b.val) 0 0) 5 4 + k) k)) ∧ bits (s.cop (512
      + b.val) 0 0) 31 6 = 2 ^ 25 ∧ s.setLate (s.cop (512 + b.val) 0 2) = false ∧ (∀ (k : Nat), k < 16 → bit (s.cop (512 + b.val) 0 3) k =
      1 → (s.pin ((fun k => 16 * bits (s.cop (512 + b.val) 0 0) 5 4 + k) k)).sets.length < 4)) ∧ s.CanIssue (512 + b.val) (Instr.gset b)) ∧
(∃ (s : State) (b : Fin 64), ((bits (s.cop (512 + b.val) 0 0) 30 6 ≠ 0 ∨ 65536 ≤ s.cop (512 + b.val) 0 3)) ∧ s.CanIssue (512 + b.val)
      (Instr.gset b)) ∧
(∃ (s : State) (b : Fin 64), (bits (s.cop (512 + b.val) 0 0) 30 6 = 0 ∧ s.pinOwner (s.cop (512 + b.val) 0 0 % 64) = b.val / 16) ∧
      s.CanIssue (512 + b.val) (Instr.get b)) ∧
(∃ (s : State) (b : Fin 64), s.CanIssue (512 + b.val) (Instr.now b)) ∧
(∃ (s : State) (b : Fin 64), (bits (s.cop (512 + b.val) 0 0) 30 6 = 0 ∧ s.pinOwner (s.cop (512 + b.val) 0 0 % 64) = b.val / 16 ∧ s.cop
      (512 + b.val) 0 1 % 4 = 0) ∧ s.CanIssue (512 + b.val) (Instr.edge b)) ∧
(∃ (s : State) (b : Fin 64) (e : Bool × BitVec 32) (r : List (Bool × BitVec 32)), (bits (s.cop (512 + b.val) 0 0) 30 6 = 0 ∧ s.pinOwner
      (s.cop (512 + b.val) 0 0 % 64) = b.val / 16 ∧ s.cop (512 + b.val) 0 1 % 4 ≠ 0 ∧ (List.dropWhile (fun e_l => !edgeOf (s.cop (512 +
      b.val) 0 1 % 4) e_l.fst) (s.pin (s.cop (512 + b.val) 0 0 % 64)).edges = e :: r)) ∧ s.CanIssue (512 + b.val) (Instr.edge b)) ∧
(∃ (s : State) (b : Fin 64), (bits (s.cop (512 + b.val) 0 0) 30 6 = 0 ∧ s.pinOwner (s.cop (512 + b.val) 0 0 % 64) = b.val / 16 ∧ s.cop
      (512 + b.val) 0 1 % 4 ≠ 0 ∧ (List.dropWhile (fun e => !edgeOf (s.cop (512 + b.val) 0 1 % 4) e.fst) (s.pin (s.cop (512 + b.val) 0 0 %
      64)).edges = [])) ∧ s.CanIssue (512 + b.val) (Instr.edge b)) ∧
(∃ (s : State), ((List.Pairwise (fun x1 x2 => x1 < x2) (List.map (fun x => x.fst) s.bio.pins)))) ∧
(∃ (s : State) (i : Fin 64) (v : Bool), ((s.pin i.val).level = v)) ∧
(∃ (s : State) (i : Fin 64) (v : Bool), ((s.pin i.val).level ≠ v ∧ bit (s.pinWord i.val) 2 = 0)) ∧
(∃ (s : State) (i : Fin 64) (v : Bool), ((s.pin i.val).level ≠ v ∧ bit (s.pinWord i.val) 2 = 1 ∧ 8 ≤ (s.pin i.val).edges.length)) ∧
(∃ (s : State) (i : Fin 64) (v : Bool), ((s.pin i.val).level ≠ v ∧ bit (s.pinWord i.val) 2 = 1 ∧ (s.pin i.val).edges.length < 8 ∧
      s.edgeWaiter (i.val) v = none)) ∧
(∃ (s : State) (i : Fin 64) (v : Bool) (t : Nat) (k : Nat), ((s.pin i.val).level ≠ v ∧ bit (s.pinWord i.val) 2 = 1 ∧ (s.pin i.val).edges =
      [] ∧ s.edgeWaiter (i.val) v = some (t, k))) ∧
(∃ (w : BitVec 32), (w.toNat < 65536 ∧ bits w.toNat 7 6 ≠ 3)) ∧
(∃ (w : BitVec 32), ((65536 ≤ w.toNat ∨ bits w.toNat 7 6 = 3))) :=
  ⟨⟨code (512 + 0) (Instr.set 0) (s_pinS 0 69 0), 0, by decide +kernel, canIssue_of (by decide +kernel)⟩,
    ⟨code (512 + 0) (Instr.set 0) (s_pinS 0 21 0), 0, by decide +kernel, canIssue_of (by decide +kernel)⟩,
    ⟨code (512 + 0) (Instr.set 0) (s_up), 0, by decide +kernel, canIssue_of (by decide +kernel)⟩,
    ⟨code (512 + 0) (Instr.set 0) (s_pinS 0 5 0), 0, by decide +kernel, canIssue_of (by decide +kernel)⟩,
    ⟨code (512 + 0) (Instr.set 0) (s_pinS 0 0x80000005 2), 0, by decide +kernel, canIssue_of (by decide +kernel)⟩,
    ⟨code (512 + 0) (Instr.set 0) (s_pinS 0 0x80000005 100), 0, by decide +kernel, canIssue_of (by decide +kernel)⟩,
    ⟨code (512 + 0) (Instr.set 0) (s_pinS 4 0x80000005 100), 0, by decide +kernel, canIssue_of (by decide +kernel)⟩,
    ⟨code (512 + 0) (Instr.gset 0) (s_up), 0, by decide +kernel, canIssue_of (by decide +kernel)⟩,
    ⟨code (512 + 0) (Instr.gset 0) (s_pinS 0 0x80000005 100), 0, by decide +kernel, canIssue_of (by decide +kernel)⟩,
    ⟨code (512 + 0) (Instr.gset 0) (s_pinS 0 69 0), 0, by decide +kernel, canIssue_of (by decide +kernel)⟩,
    ⟨code (512 + 0) (Instr.get 0) (s_up), 0, by decide +kernel, canIssue_of (by decide +kernel)⟩,
    ⟨code (512 + 0) (Instr.now 0) (s_up), 0, canIssue_of (by decide +kernel)⟩,
    ⟨code (512 + 0) (Instr.edge 0) (s_up), 0, by decide +kernel, canIssue_of (by decide +kernel)⟩,
    ⟨code (512 + 0) (Instr.edge 0) (s_pinE [(true, 9#32), (false, 10#32)] []), 0, (true, 0x00000009#32), [(false, 0x0000000a#32)],
      by decide +kernel, canIssue_of (by decide +kernel)⟩,
    ⟨code (512 + 0) (Instr.edge 0) (s_pinS 0 5 0), 0, by decide +kernel, canIssue_of (by decide +kernel)⟩,
    ⟨s_alu 3, by decide +kernel⟩,
    ⟨s_alu 3, 0, false, by decide +kernel⟩,
    ⟨s_alu 3, 0, true, by decide +kernel⟩,
    ⟨s_pinE (List.replicate 8 (true, 9#32)) [], 5, true, by decide +kernel⟩,
    ⟨s_pinS 0 5 0, 0, true, by decide +kernel⟩,
    ⟨s_pinE [] [(0, 70)], 5, true, 512, 1, by decide +kernel⟩,
    ⟨0x00000000#32, by decide +kernel⟩,
    ⟨0xffffffff#32, by decide +kernel⟩⟩

/-- States and operands that meet the hypotheses of `Obligations.LocksAreTakenAndLet`, clause by clause. -/
theorem witness_LocksAreTakenAndLet :
(∃ (s : State) (t : Fin 580) (ra : Fin 32) (p : Fin 2), (BitVec.toNat ((s.thread t.val).reg ra.val) < 4096 ∧ s.lockRight (t.val)
      (BitVec.toNat ((s.thread t.val).reg ra.val) / 256) = true ∧ (s.lock (BitVec.toNat ((s.thread t.val).reg ra.val))).holder = none ∧
      s.rp (t.val) (s.thread t.val).second p.val = Rp.empty ∧ s.toDx (crossOf t.val) = []) ∧ s.CanIssue (t.val) (Instr.trylock t ra p)) ∧
(∃ (s : State) (t : Fin 580) (ra : Fin 32) (p : Fin 2) (h : Holder), (BitVec.toNat ((s.thread t.val).reg ra.val) < 4096 ∧ s.lockRight
      (t.val) (BitVec.toNat ((s.thread t.val).reg ra.val) / 256) = true ∧ (s.lock (BitVec.toNat ((s.thread t.val).reg ra.val))).holder =
      some h ∧ h ≠ Holder.requester (t.val) true ∧ h ≠ Holder.requester (t.val) false ∧ s.rp (t.val) (s.thread t.val).second p.val =
      Rp.empty ∧ s.toDx (crossOf t.val) = []) ∧ s.CanIssue (t.val) (Instr.trylock t ra p)) ∧
(∃ (s : State) (t : Fin 580) (ra : Fin 32) (p : Fin 2), (BitVec.toNat ((s.thread t.val).reg ra.val) < 4096 ∧ s.lockRight (t.val)
      (BitVec.toNat ((s.thread t.val).reg ra.val) / 256) = true ∧ (s.lock (BitVec.toNat ((s.thread t.val).reg ra.val))).holder = some
      (Holder.requester (t.val) (s.thread t.val).second) ∧ (s.lock (BitVec.toNat ((s.thread t.val).reg ra.val))).waiters = [] ∧ s.rp
      (t.val) (s.thread t.val).second p.val = Rp.empty ∧ s.toDx (crossOf t.val) = []) ∧ s.CanIssue (t.val) (Instr.unlock t ra p)) ∧
(∃ (s : State) (t : Fin 580) (ra : Fin 32) (p : Fin 2), (BitVec.toNat ((s.thread t.val).reg ra.val) < 4096 ∧ s.lockRight (t.val)
      (BitVec.toNat ((s.thread t.val).reg ra.val) / 256) = true ∧ (s.lock (BitVec.toNat ((s.thread t.val).reg ra.val))).holder = some
      (Holder.requester (t.val) (s.thread t.val).second) ∧ s.rp (t.val) (s.thread t.val).second p.val = Rp.empty ∧ s.toDx (crossOf t.val)
      = []) ∧ s.CanIssue (t.val) (Instr.clrabnd t ra p)) ∧
(∃ (s : State) (t : Fin 580) (ra : Fin 32) (p : Fin 2) (w : Waiter) (r : List Waiter), (BitVec.toNat ((s.thread t.val).reg ra.val) < 4096
      ∧ s.lockRight (t.val) (BitVec.toNat ((s.thread t.val).reg ra.val) / 256) = true ∧ (s.lock (BitVec.toNat ((s.thread t.val).reg
      ra.val))).holder = some (Holder.requester (t.val) (s.thread t.val).second) ∧ (s.lock (BitVec.toNat ((s.thread t.val).reg
      ra.val))).waiters = w :: r ∧ w.tid ≠ t.val ∧ s.rp (t.val) (s.thread t.val).second p.val = Rp.empty ∧ s.toDx (crossOf t.val) = []) ∧
      s.CanIssue (t.val) (Instr.unlock t ra p)) :=
  ⟨⟨s_alu 576, 576, 0, 0, by decide +kernel, canIssue_of (by decide +kernel)⟩,
    ⟨code 3 (Instr.trylock 3 1 0) (s_lock 3 { Lock.zero with holder := some (.requester 9 false), waiters := [w9] }), 3, 1, 0,
      Sys2Proof.Machine.Holder.requester 9 false, by decide +kernel, canIssue_of (by decide +kernel)⟩,
    ⟨code 3 (Instr.unlock 3 1 0) (s_lock 3 { Lock.zero with holder := some (.requester 3 false) }), 3, 1, 0, by decide +kernel, canIssue_of
      (by decide +kernel)⟩,
    ⟨code 3 (Instr.clrabnd 3 1 0) (s_lock 3 { Lock.zero with holder := some (.requester 3 false) }), 3, 1, 0, by decide +kernel, canIssue_of
      (by decide +kernel)⟩,
    ⟨code 3 (Instr.unlock 3 1 0) (s_lock 3 { Lock.zero with holder := some (.requester 3 false), waiters := [w9] }), 3, 1, 0,
      { tid := 9, second := false, rp := 1, prio := 3, words := [0x00000001#32, 0x00000002#32], buf := 64 }, [], by decide +kernel,
      canIssue_of (by decide +kernel)⟩⟩

/-- States and operands that meet the hypotheses of `Obligations.GatesAndTrafficTablesAreWritten`, clause by clause. -/
theorem witness_GatesAndTrafficTablesAreWritten :
(∃ (s : State) (p : Fin 8) (d : Nat) (e : GateEntry), ((s.gate p.val).segs[(s.gate p.val).idx]? = some (d, e) ∧ (s.gate p.val).idxAt + d <
      s.gateNs p.val + 8 ∧ (s.gate p.val).idx + 1 < (s.gate p.val).segs.length)) ∧
(∃ (s : State) (p : Fin 8) (d : Nat) (e : GateEntry), ((s.gate p.val).segs[(s.gate p.val).idx]? = some (d, e) ∧ (s.gate p.val).idxAt + d <
      s.gateNs p.val + 8 ∧ (s.gate p.val).segs.length ≤ (s.gate p.val).idx + 1 ∧ s.cycleExtended p.val = false)) ∧
(∃ (s : State) (p : Fin 8) (d : Nat) (e : GateEntry), ((s.gate p.val).segs[(s.gate p.val).idx]? = some (d, e) ∧ (s.gateNs p.val + 8 ≤
      (s.gate p.val).idxAt + d ∨ (s.gate p.val).segs.length ≤ (s.gate p.val).idx + 1 ∧ s.cycleExtended p.val = true))) ∧
(∃ (s : State) (p : Fin 8), (((if s.gateNs p.val < s.rd (K.tmpAdminBaseTime p.val) then s.rd (K.tmpAdminBaseTime p.val) else s.rd
      (K.tmpAdminBaseTime p.val) + ((s.gateNs p.val - s.rd (K.tmpAdminBaseTime p.val)) / s.rd (K.tmpAdminCycleTime p.val) + 1) * s.rd
      (K.tmpAdminCycleTime p.val)) < 2 ^ 64))) ∧
(∃ (v : BitVec 8), (v ≠ 1#8)) ∧
(∃ (s : State) (p : Fin 8) (T : Nat), ((s.gate p.val).changeAt = some T ∧ T < s.gateNs p.val + 8)) ∧
(∃ (s : State) (f : Fin 1024) (t : Nat), ((tget Recovery.zero s.tm.recovery f.val).lastAt = some t ∧ t + 1000000 * (tget Recovery.zero
      s.tm.recovery f.val).timeout ≤ s.now)) ∧
(∃ (p : Fin 8) (w : BitVec 64), (bits w.toNat 51 32 = 0 ∧ (bits w.toNat 55 52 = 0 ∨ bits w.toNat 55 52 ≤ 2 ∧ p.val < 4) ∧ 8 ≤ bits w.toNat
      31 0)) ∧
(∃ (p : Fin 8) (w : BitVec 64), ((¬(bits w.toNat 51 32 = 0 ∧ (bits w.toNat 55 52 = 0 ∨ bits w.toNat 55 52 ≤ 2 ∧ p.val < 4) ∧ 8 ≤ bits
      w.toNat 31 0)))) ∧
(∃ (w : BitVec 64), (bits w.toNat 27 16 = 0 ∧ bits w.toNat 15 0 ≠ 0)) ∧
(∃ (w : BitVec 64), ((¬(bits w.toNat 27 16 = 0 ∧ bits w.toNat 15 0 ≠ 0)))) ∧
(∃ (sdu : BitVec 16), ((sdu = 0#16 ∨ 64 ≤ sdu.toNat ∧ sdu.toNat ≤ 9216))) ∧
(∃ (sdu : BitVec 16), ((¬(sdu = 0#16 ∨ 64 ≤ sdu.toNat ∧ sdu.toNat ≤ 9216)))) ∧
(∃ (cir : BitVec 32) (eir : BitVec 32), (cir.toNat ≤ 200000000 ∧ eir.toNat ≤ 200000000)) ∧
(∃ (cir : BitVec 32) (eir : BitVec 32), ((¬(cir.toNat ≤ 200000000 ∧ eir.toNat ≤ 200000000)))) ∧
(∃ (cir : BitVec 32) (cbs : BitVec 32), (1 ≤ cir.toNat ∧ cir.toNat ≤ 200000000 ∧ 64 ≤ cbs.toNat ∧ cbs.toNat ≤ 1048575)) ∧
(∃ (cir : BitVec 32) (cbs : BitVec 32), ((¬(1 ≤ cir.toNat ∧ cir.toNat ≤ 200000000 ∧ 64 ≤ cbs.toNat ∧ cbs.toNat ≤ 1048575)))) ∧
(∃ (h : BitVec 8) (t : BitVec 16), (2 ≤ h.toNat ∧ h.toNat ≤ 128 ∧ 1 ≤ t.toNat ∧ t.toNat ≤ 1000)) ∧
(∃ (h : BitVec 8) (t : BitVec 16), ((¬(2 ≤ h.toNat ∧ h.toNat ≤ 128 ∧ 1 ≤ t.toNat ∧ t.toNat ≤ 1000)))) :=
  ⟨⟨s_gatN 4000 0 none, 3, 100, { states := 0x0f#8, op := 0, interval := 100 }, by decide +kernel⟩,
    ⟨s_gatN 8000 1 none, 3, 900, { states := 0xf0#8, op := 0, interval := 200 }, by decide +kernel⟩,
    ⟨s_gate, 3, 100, { states := 0x0f#8, op := 0, interval := 100 }, by decide +kernel⟩,
    ⟨s_alu 3, 0, by decide +kernel⟩,
    ⟨0x00#8, by decide +kernel⟩,
    ⟨s_gatN 8000 0 (some 1500), 3, 1500, by decide +kernel⟩,
    ⟨s_rec, 5, 3, by decide +kernel⟩,
    ⟨0, 0x0000000000000009#64, by decide +kernel⟩,
    ⟨0, 0x0000000000000000#64, by decide +kernel⟩,
    ⟨0x0000000000000001#64, by decide +kernel⟩,
    ⟨0x0000000000000000#64, by decide +kernel⟩,
    ⟨0x0000#16, by decide +kernel⟩,
    ⟨0x0001#16, by decide +kernel⟩,
    ⟨0x00000000#32, 0x00000000#32, by decide +kernel⟩,
    ⟨0x00000000#32, 0xffffffff#32, by decide +kernel⟩,
    ⟨0x00000001#32, 0x00000040#32, by decide +kernel⟩,
    ⟨0x00000000#32, 0x00000000#32, by decide +kernel⟩,
    ⟨0x02#8, 0x0001#16, by decide +kernel⟩,
    ⟨0x00#8, 0x0000#16, by decide +kernel⟩⟩

/-- States and operands that meet the hypotheses of `Obligations.DomainsAndPulsesKeepTime`, clause by clause. -/
theorem witness_DomainsAndPulsesKeepTime :
(∃ (s : State) (d : Fin 4) (v : BitVec 32), (-1099511627 ≤ v.toInt ∧ v.toInt ≤ 1099511627 ∧ s.rd (K.domSource d.val) ≠ 1)) ∧
(∃ (s : State) (d : Fin 4) (v : BitVec 32), ((v.toInt < -1099511627 ∨ 1099511627 < v.toInt ∨ s.rd (K.domSource d.val) = 1))) ∧
(∃ (v : BitVec 64), (-2 ^ 61 ≤ v.toInt ∧ v.toInt ≤ 2 ^ 61)) ∧
(∃ (v : BitVec 64), ((v.toInt < -2 ^ 61 ∨ 2 ^ 61 < v.toInt))) ∧
(∃ (s : State) (q : Fin 32), (∀ (l : Nat), s.chron.lastEdge = some l → l + 10 ^ 9 ≤ s.now + q.val / 4 + 100000 ∧ s.now + q.val / 4 ≤ l +
      10 ^ 9 + 100000)) ∧
(∃ (s : State) (q : Fin 32) (l : Nat), (s.chron.lastEdge = some l ∧ (s.now + q.val / 4 + 100000 < l + 10 ^ 9 ∨ l + 10 ^ 9 + 100000 < s.now
      + q.val / 4))) ∧
(∃ (s : State) (l : Nat), (s.chron.awaited = some l ∧ l + 1000100000 < s.now)) ∧
(∃ (s : State) (t : Nat), (s.on K.chrPpsOutEnable = true ∧ s.ppsOutDue = some t) ∧ (∀ (v : Nat), s.chron.ppsDueAt = some v → v + 4 ≤ t) ∧
      (∀ (v : Nat), s.chron.ppsOutAt = some v → v + 500000000 ≤ t)) ∧
(∃ (s : State) (t : Nat) (v : Nat), (s.on K.chrPpsOutEnable = true ∧ s.ppsOutDue = some t ∧ s.chron.ppsOutAt = some v ∧ t < v + 500000000)
      ∧ (∀ (v : Nat), s.chron.ppsDueAt = some v → v + 4 ≤ t)) ∧
(∃ (s : State) (t : Nat), (s.chron.ppsOutAt = some t ∧ s.chron.ppsOut = true ∧ t + 1000 * s.rd K.chrPpsOutWidth ≤ s.now)) :=
  ⟨⟨s_alu 3, 0, 0x00000000#32, by decide +kernel⟩,
    ⟨s_alu 3, 0, 0x4189374c#32, by decide +kernel⟩,
    ⟨0x0000000000000000#64, by decide +kernel⟩,
    ⟨0x2000000000000001#64, by decide +kernel⟩,
    ⟨s_alu 3, 0, optAll (by decide +kernel)⟩,
    ⟨s_early, 0, 1000000000, by decide +kernel⟩,
    ⟨s_ppsLate, 1000000000, by decide +kernel⟩,
    ⟨s_out0, 4996, by decide +kernel, optAll (by decide +kernel), optAll (by decide +kernel)⟩,
    ⟨({ s_out0 with chron := { s_out0.chron with ppsOutAt := some 4990 } } : State), 4996, 4990, by decide +kernel, optAll
      (by decide +kernel)⟩,
    ⟨s_out, 4000, by decide +kernel⟩⟩

/-- States and operands that meet the hypotheses of `Obligations.AccessFaultsTrap`, clause by clause. -/
theorem witness_AccessFaultsTrap :
(∃ (s : State) (t : Fin 580) (rd : Fin 32) (ra : Fin 32) (imm : BitVec 16) (code : Nat) (cause : Nat), ((s.thread t.val).sregs.tvec ≠ 0#32
      ∧ (s.thread t.val).exl = false ∧ (1 = 8 → rd.val % 2 = 0) ∧ s.accessFault (t.val) (BitVec.toNat ((s.thread t.val).reg ra.val +
      BitVec.signExtend 32 imm)) 1 false = some (code, cause)) ∧ s.CanIssue (t.val) (Instr.lb t rd ra imm)) ∧
(∃ (s : State) (t : Fin 580) (rd : Fin 32) (ra : Fin 32) (imm : BitVec 16), ((s.thread t.val).sregs.tvec ≠ 0#32 ∧ (s.thread t.val).exl =
      false ∧ (1 = 8 → rd.val % 2 = 0) ∧ t.val < 512 ∧ 134217728 ≤ BitVec.toNat ((s.thread t.val).reg ra.val + BitVec.signExtend 32 imm) ∧
      BitVec.toNat ((s.thread t.val).reg ra.val + BitVec.signExtend 32 imm) < 134479872) ∧ s.CanIssue (t.val) (Instr.lb t rd ra imm)) ∧
(∃ (s : State) (t : Fin 580) (rd : Fin 32) (ra : Fin 32) (imm : BitVec 16), ((s.thread t.val).sregs.tvec ≠ 0#32 ∧ (s.thread t.val).exl =
      false ∧ (2 = 8 → rd.val % 2 = 0) ∧ BitVec.toNat ((s.thread t.val).reg ra.val + BitVec.signExtend 32 imm) + 2 ≤ ramTop t.val ∧
      BitVec.toNat ((s.thread t.val).reg ra.val + BitVec.signExtend 32 imm) % 2 ≠ 0) ∧ s.CanIssue (t.val) (Instr.lh t rd ra imm)) ∧
(∃ (s : State) (t : Fin 580) (rd : Fin 32) (ra : Fin 32) (imm : BitVec 16) (code : Nat) (cause : Nat), ((s.thread t.val).sregs.tvec ≠ 0#32
      ∧ (s.thread t.val).exl = false ∧ (1 = 8 → rd.val % 2 = 0) ∧ s.accessFault (t.val) (BitVec.toNat ((s.thread t.val).reg ra.val +
      BitVec.signExtend 32 imm)) 1 true = some (code, cause)) ∧ s.CanIssue (t.val) (Instr.sb t rd ra imm)) ∧
(∃ (s : State) (t : Fin 580) (rd : Fin 32) (ra : Fin 32) (imm : BitVec 16) (w : Nat), ((s.thread t.val).sregs.tvec ≠ 0#32 ∧ (s.thread
      t.val).exl = false ∧ rd.val % 2 = 1 ∧ (s.thread t.val).st = TState.ready ∧ s.issueStopped t.val = false ∧ (s.thread t.val).pc ≤
      codeTop t.val ∧ wordOf (Instr.ld t rd ra imm) = some w ∧ s.fetchWord (t.val) w = w)) :=
  ⟨⟨s_mem 576, 576, 0, 0, 0xffff#16, 1, 0, by decide +kernel, canIssue_of (by decide +kernel)⟩,
    ⟨code 3 (Instr.lb 3 0 9 (0x0000#16)) (s_sb), 3, 0, 9, 0x0000#16, by decide +kernel, canIssue_of (by decide +kernel)⟩,
    ⟨s_mem 576, 576, 0, 0, 0x0001#16, by decide +kernel, canIssue_of (by decide +kernel)⟩,
    ⟨s_mem 576, 576, 0, 0, 0xffff#16, 1, 0, by decide +kernel, canIssue_of (by decide +kernel)⟩,
    ⟨s_ask 576, 576, 1, 0, 0x0000#16, 1411383296, by decide +kernel⟩⟩

/-- States and operands that meet the hypotheses of `Obligations.SemaphoresAndAtomicsReply`, clause by clause. -/
theorem witness_SemaphoresAndAtomicsReply :
(∃ (s : State) (t : Fin 580) (ra : Fin 32) (rb : Fin 32) (p : Fin 2), (BitVec.toNat ((s.thread t.val).reg ra.val) < 1024 ∧ 0 < (s.sem
      (BitVec.toNat ((s.thread t.val).reg ra.val))).count ∧ s.rp (t.val) (s.thread t.val).second p.val = Rp.empty ∧ s.toDx (crossOf t.val)
      = []) ∧ s.CanIssue (t.val) (Instr.semwait t ra rb p)) ∧
(∃ (s : State) (t : Fin 580) (ra : Fin 32) (rb : Fin 32) (p : Fin 2), (BitVec.toNat ((s.thread t.val).reg ra.val) < 1024 ∧ (s.sem
      (BitVec.toNat ((s.thread t.val).reg ra.val))).count = 0 ∧ s.rp (t.val) (s.thread t.val).second p.val = Rp.empty ∧ s.toDx (crossOf
      t.val) = []) ∧ s.CanIssue (t.val) (Instr.semwait t ra rb p)) ∧
(∃ (s : State) (t : Fin 580) (ra : Fin 32) (rs : Fin 32) (p : Fin 2), (BitVec.toNat ((s.thread t.val).reg ra.val) < 1024 ∧ BitVec.toNat
      ((s.thread t.val).reg rs.val) % 65536 ≠ 0 ∧ (s.sem (BitVec.toNat ((s.thread t.val).reg ra.val))).waiters = [] ∧ s.rp (t.val)
      (s.thread t.val).second p.val = Rp.empty ∧ s.toDx (crossOf t.val) = []) ∧ s.CanIssue (t.val) (Instr.semsig t ra rs p)) ∧
(∃ (s : State) (t : Fin 580) (ra : Fin 32) (rs : Fin 32) (p : Fin 2), (536870912 ≤ BitVec.toNat ((s.thread t.val).reg ra.val) ∧
      BitVec.toNat ((s.thread t.val).reg ra.val) ≤ 536936444 ∧ BitVec.toNat ((s.thread t.val).reg ra.val) % 4 = 0 ∧ ¬(BitVec.toNat
      ((s.thread t.val).reg ra.val) - 536870912) / 8 ∈ s.rdv.badAtomic ∧ s.rp (t.val) (s.thread t.val).second p.val = Rp.empty ∧ s.toDx
      (crossOf t.val) = []) ∧ s.CanIssue (t.val) (Instr.aswp t ra rs p)) :=
  ⟨⟨code 3 (Instr.semwait 3 1 0 0) (s_sem 3 { Sem.zero with count := 2 }), 3, 1, 0, 0, by decide +kernel, canIssue_of (by decide +kernel)⟩,
    ⟨s_alu 576, 576, 0, 0, 0, by decide +kernel, canIssue_of (by decide +kernel)⟩,
    ⟨s_alu 576, 576, 0, 1, 0, by decide +kernel, canIssue_of (by decide +kernel)⟩,
    ⟨s_mem 576, 576, 5, 0, 0, by decide +kernel, canIssue_of (by decide +kernel)⟩⟩

/-- States and operands that meet the hypotheses of `Obligations.LodestarForwards`, clause by clause. -/
theorem witness_LodestarForwards :
(∃ (s : State) (pos : Fin 1024) (word : BitVec 128), (s.streamOk pos.val
      { word := word, frames := (s.lstream pos.val).frames, stomps := (s.lstream pos.val).stomps } = true)) ∧
(∃ (s : State) (e : Fin 7) (f : Flight), ((s.port e.val).line = none ∧ (s.port e.val).ctrlQ = [] ∧ s.rd (K.portLinkState e.val) = 1 ∧
      s.safeState = false ∧ (List.find? (fun f_l => decide (f_l.egress = e.val ∧ f_l.form = 1)) s.lode.flights = some f))) ∧
(∃ (s : State) (e : Fin 7) (f : Flight), ((s.port e.val).line = none ∧ (s.port e.val).ctrlQ = [] ∧ s.rd (K.portLinkState e.val) = 1 ∧
      s.safeState = false ∧ (List.find? (fun f_l => decide (f_l.egress = e.val ∧ f_l.form = 2)) s.lode.flights = some f) ∧ f.passed = true
      ∧ s.halted (e.val) f.pcp = false ∧ s.gateFits (e.val) f.cls (s.gateUnits e.val) (s.lineUnits (e.val) (f.arrived.getD 0)) = true ∧
      s.egressBar (e.val) f.secY.toNat = none)) ∧
(∃ (s : State) (p : Fin 7) (f : Flight) (l : TxFrame), ((List.find? (fun f_l => decide (f_l.ingress = p.val) && f_l.verdict.isSome &&
      !f_l.passed) s.lode.flights = some f) ∧ f.form = 0 ∧ (s.port f.egress).line = some l ∧ f.event = 0)) ∧
(∃ (s : State) (p : Fin 7) (f : Flight) (l : TxFrame) (key : Nat), ((List.find? (fun f_l => decide (f_l.ingress = p.val) &&
      f_l.verdict.isSome && !f_l.passed) s.lode.flights = some f) ∧ f.form = 0 ∧ (s.port f.egress).line = some l ∧ (f.event, key) ∈ [(1,
      K.ctrLodeStompFcs), (2, K.ctrLodeStompIcv), (3, K.ctrLodeStompLength)])) :=
  ⟨⟨s_alu 3, 0, 0x00000000000000000000000000000000#128, by decide +kernel⟩,
    ⟨s_lode [fl 1 none false] none, 1, (List.find? (fun f_l => decide (f_l.egress = 1 ∧ f_l.form = 1)) (s_lode [fl 1 none false]
      none).lode.flights).get (by decide +kernel), by decide +kernel⟩,
    ⟨s_lode [fl 2 (some 0) true] none, 1, (List.find? (fun f_l => decide (f_l.egress = 1 ∧ f_l.form = 2)) (s_lode [fl 2 (some 0) true]
      none).lode.flights).get (by decide +kernel), by decide +kernel⟩,
    ⟨s_lode [fl 0 (some 0) false] (some txf), 0, (List.find? (fun f_l => decide (f_l.ingress = 0) && f_l.verdict.isSome && !f_l.passed)
      (s_lode [fl 0 (some 0) false] (some txf)).lode.flights).get (by decide +kernel), (((s_lode [fl 0 (some 0) false] (some txf)).port
      ((List.find? (fun f_l => decide (f_l.ingress = 0) && f_l.verdict.isSome && !f_l.passed) (s_lode [fl 0 (some 0) false] (some
      txf)).lode.flights).get (by decide +kernel)).egress).line).get (by decide +kernel), by decide +kernel⟩,
    ⟨s_flyE 0 (fl 0 (some 1) false) id, 0, (List.find? (fun f_l => decide (f_l.ingress = 0) && f_l.verdict.isSome && !f_l.passed) (s_flyE 0
      (fl 0 (some 1) false) id).lode.flights).get (by decide +kernel), (((s_flyE 0 (fl 0 (some 1) false) id).port ((List.find? (fun f_l =>
      decide (f_l.ingress = 0) && f_l.verdict.isSome && !f_l.passed) (s_flyE 0 (fl 0 (some 1) false) id).lode.flights).get
      (by decide +kernel)).egress).line).get (by decide +kernel), 6311944, by decide +kernel⟩⟩

/-- States and operands that meet the hypotheses of `Obligations.LoadsRetire`, clause by clause. -/
theorem witness_LoadsRetire :
(∃ (s : State) (t : Fin 580) (rd : Fin 32) (ra : Fin 32) (imm : BitVec 16), ((1 = 8 → rd.val % 2 = 0) ∧ BitVec.toNat ((s.thread t.val).reg
      ra.val + BitVec.signExtend 32 imm) + 1 ≤ ramTop t.val ∧ BitVec.toNat ((s.thread t.val).reg ra.val + BitVec.signExtend 32 imm) % 1 =
      0 ∧ (((s.core (coreOf t.val)).sb.all fun e => !e.overlaps (BitVec.toNat ((s.thread t.val).reg ra.val + BitVec.signExtend 32 imm)) 1)
      = true) ∧ s.badRam (t.val) (BitVec.toNat ((s.thread t.val).reg ra.val + BitVec.signExtend 32 imm)) 1 = none) ∧ s.CanIssue (t.val)
      (Instr.lb t rd ra imm)) ∧
(∃ (s : State) (t : Fin 580) (rd : Fin 32) (ra : Fin 32) (imm : BitVec 16), ((1 = 8 → rd.val % 2 = 0) ∧ t.val < 512 ∧ 65536 ≤ BitVec.toNat
      ((s.thread t.val).reg ra.val + BitVec.signExtend 32 imm) ∧ BitVec.toNat ((s.thread t.val).reg ra.val + BitVec.signExtend 32 imm) -
      65536 + 1 ≤ s.windowBytes t.val ∧ s.windowBytes t.val ≤ 256 ∧ (s.thread t.val).wbad = []) ∧ s.CanIssue (t.val) (Instr.lb t rd ra
      imm)) ∧
(∃ (s : State) (t : Fin 580) (rd : Fin 32) (ra : Fin 32) (imm : BitVec 16), ((1 = 8 → rd.val % 2 = 0) ∧ t.val < 512 ∧ 65792 ≤ BitVec.toNat
      ((s.thread t.val).reg ra.val + BitVec.signExtend 32 imm) ∧ BitVec.toNat ((s.thread t.val).reg ra.val + BitVec.signExtend 32 imm) + 1
      ≤ 65840 ∧ s.windowBytes t.val ≠ 0) ∧ s.CanIssue (t.val) (Instr.lb t rd ra imm)) :=
  ⟨⟨s_alu 576, 576, 0, 0, 0x0000#16, by decide +kernel, canIssue_of (by decide +kernel)⟩,
    ⟨code 3 (Instr.lb 3 0 2 (0x0000#16)) (s_sb), 3, 0, 2, 0x0000#16, by decide +kernel, canIssue_of (by decide +kernel)⟩,
    ⟨code 3 (Instr.lb 3 0 3 (0x0000#16)) (s_sb), 3, 0, 3, 0x0000#16, by decide +kernel, canIssue_of (by decide +kernel)⟩⟩

/-- States and operands that meet the hypotheses of `Obligations.BrambleKeepsItsEntries`, clause by clause. -/
theorem witness_BrambleKeepsItsEntries :
(∃ (s : State) (w : Bool) (key : Nat) (port : Nat) (r : List (Nat × Nat)) (i : Nat), ((s.rep w).bad = [] ∧ s.rehash w ≠ 2 ∧ s.rehash w ≠ 3
      ∧ (s.rep w).learnQ = (key, port) :: r ∧ s.brFind w 0 key = some i)) ∧
(∃ (s : State) (w : Bool) (key : Nat) (port : Nat) (r : List (Nat × Nat)) (i : Nat), ((s.rep w).bad = [] ∧ s.rehash w ≠ 2 ∧ s.rehash w ≠ 3
      ∧ (s.rep w).learnQ = (key, port) :: r ∧ s.brFind w 0 key = none ∧ s.brPlace w (bucketsOf (s.brSeeds w) 0 key false).fst false = some
      i ∧ key < 2 ^ 160)) ∧
(∃ (s : State) (w : Bool) (i : Fin 131136), ((s.rep w).bad = [] ∧ s.rehash w ≠ 2 ∧ s.rehash w ≠ 3 ∧ (s.brSlot w i.val).valid = true ∧
      (s.brSlot w i.val).half = 0 ∧ (s.brSlot w i.val).etype = 1 ∧ (s.brSlot w i.val).mirror = false ∧ ((s.rep w).wrote.fst ≠ s.now ∨
      ¬i.val ∈ (s.rep w).wrote.snd) ∧ (s.brSlot w i.val).hit = true)) ∧
(∃ (s : State) (w : Bool) (i : Fin 131136), ((s.rep w).bad = [] ∧ s.rehash w ≠ 2 ∧ s.rehash w ≠ 3 ∧ (s.brSlot w i.val).valid = true ∧
      (s.brSlot w i.val).half = 0 ∧ (s.brSlot w i.val).etype = 1 ∧ (s.brSlot w i.val).mirror = false ∧ ((s.rep w).wrote.fst ≠ s.now ∨
      ¬i.val ∈ (s.rep w).wrote.snd) ∧ (s.brSlot w i.val).hit = false ∧ (s.brSlot w i.val).age + 1 < s.rd (K.brAgeLimit (b2n w)))) ∧
(∃ (s : State) (w : Bool) (i : Fin 131136), ((s.rep w).bad = [] ∧ s.rehash w ≠ 2 ∧ s.rehash w ≠ 3 ∧ (s.brSlot w i.val).valid = true ∧
      (s.brSlot w i.val).half = 0 ∧ (s.brSlot w i.val).etype = 1 ∧ (s.brSlot w i.val).mirror = false ∧ ((s.rep w).wrote.fst ≠ s.now ∨
      ¬i.val ∈ (s.rep w).wrote.snd) ∧ (s.brSlot w i.val).hit = false ∧ s.rd (K.brAgeLimit (b2n w)) ≤ (s.brSlot w i.val).age + 1)) ∧
(∃ (ranges : List (Nat × Nat)), (ranges.length ≤ 4 ∧ ((ranges.all fun r => decide (1 ≤ r.snd) && decide (r.snd ≤ 160) && decide (r.fst +
      r.snd ≤ 480)) = true) ∧ ((List.map (fun x => x.snd) ranges).sum ≤ 320))) ∧
(∃ (s : State) (w : Bool), ((∃ c, c ∈ s.orch.claims ∧ c.fst ≤ s.rd (K.brShadowBaseCell (b2n w)) ∧ s.rd (K.brShadowBaseCell (b2n w)) +
      16392 ≤ c.fst + c.snd) ∧ s.rehash w ≠ 2 ∧ s.rehash w ≠ 3)) ∧
(∃ (s : State) (w : Bool), ((s.rehash w = 2 ∨ s.rehash w = 3))) ∧
(∃ (s : State) (w : Bool), ((∃ c, c ∈ s.orch.claims ∧ c.fst ≤ s.rd (K.brShadowBaseCell (b2n w)) ∧ s.rd (K.brShadowBaseCell (b2n w)) +
      16392 ≤ c.fst + c.snd) ∧ s.rehash w = 2 ∧ s.rd (K.brChangeLogSeq (b2n w)) ≤ s.rd (K.brSwapLogSeq (b2n w)))) ∧
(∃ (s : State) (w : Bool), (s.rehash w = 3)) :=
  ⟨⟨s_re 0, false, 77, 3, [(78, 4)], 24244, by decide +kernel⟩,
    ⟨s_re 0, true, 77, 3, [(78, 4)], 24244, by decide +kernel⟩,
    ⟨s_re 0, false, 24244, by decide +kernel⟩,
    ⟨s_br (brE false 0), false, 24244, by decide +kernel⟩,
    ⟨ageK (brE false 12) 0 id, false, 24244, by decide +kernel⟩,
    ⟨[], by decide +kernel⟩,
    ⟨s_claim 0 0, true, by decide +kernel⟩,
    ⟨s_re 2, true, by decide +kernel⟩,
    ⟨s_claim 2 5, true, by decide +kernel⟩,
    ⟨s_re 3, true, by decide +kernel⟩⟩

/-- States and operands that meet the hypotheses of `Obligations.EndsLeaveForDx`, clause by clause. -/
theorem witness_EndsLeaveForDx :
(∃ (s : State) (t : Fin 580) (ra : Fin 32) (imm : BitVec 16) (i : Item), (t.val < 512 ∧ (s.thread t.val).item = some i ∧ i.isPacket = true
      ∧ (BitVec.setWidth 16 ((s.thread t.val).reg ra.val + BitVec.setWidth 32 imm)).toNat &&& 15 = 0) ∧ s.CanIssue (t.val) (Instr.pktfwd t
      ra imm)) ∧
(∃ (s : State) (t : Fin 580) (i : Item), (t.val < 512 ∧ (s.thread t.val).item = some i ∧ i.isPacket = false ∧ (s.thread t.val).saved =
      none) ∧ s.CanIssue (t.val) (Instr.workdone t)) ∧
(∃ (s : State) (t : Fin 580) (w : Nat), ((s.thread t.val).sregs.tvec ≠ 0#32 ∧ (s.thread t.val).exl = false ∧ 512 ≤ t.val ∧ wordOf
      (Instr.workdone t) = some w ∧ s.fetchWord (t.val) w = w ∧ reservedCause (t.val) w = some 3 ∧ (s.thread t.val).st = TState.ready ∧
      (s.thread t.val).pc ≤ codeTop t.val)) ∧
(∃ (t : Nat) (n : Fin 8), (512 ≤ t ∧ n.val ≤ 4)) :=
  ⟨⟨code 3 (Instr.pktfwd 3 0 (0x0000#16)) (s_sb), 3, 0, 0x0000#16,
      { kind := Sys2Proof.Machine.ItemKind.packet, level := 3, affinity := 0x0000#16, tag := 0x00000007#32, journal := 9, list := 0, enq := 0 },
      by decide +kernel, canIssue_of (by decide +kernel)⟩,
    ⟨code 3 (Instr.workdone 3) (s_vict), 3,
      { kind := Sys2Proof.Machine.ItemKind.posted, level := 0, affinity := 0xffff#16, tag := 0x00000007#32, journal := 0, list := 0, enq := 0 },
      by decide +kernel, canIssue_of (by decide +kernel)⟩,
    ⟨s_ask 576, 576, 3959422977, by decide +kernel⟩,
    ⟨512, 0, by decide +kernel⟩⟩

/-- States and operands that meet the hypotheses of `Obligations.WatchdogsAreKept`, clause by clause. -/
theorem witness_WatchdogsAreKept :
(∃ (p : BitVec 8), (p.toNat < 2)) ∧
(∃ (p : BitVec 8), (2 ≤ p.toNat)) ∧
(∃ (s : State) (p : Fin 2), (s.pairActive p.val = false)) ∧
(∃ (s : State) (p : Fin 2), (s.now < tget 0 s.saf.kicks p.val + s.rd K.safPilotWatchdogTime * 1000000)) ∧
(∃ (s : State) (p : Fin 2), (s.pairActive p.val = true ∧ tget 0 s.saf.kicks p.val + s.rd K.safPilotWatchdogTime * 1000000 ≤ s.now)) ∧
(∃ (s : State) (p : Fin 2), (¬p.val ∈ s.saf.restarting)) ∧
(∃ (s : State) (p : Fin 2), (p.val ∈ s.saf.restarting ∧ (s.firmware 1 [0, 1]).fst = none)) ∧
(∃ (s : State), (s.saf.wdArmed = false)) ∧
(∃ (s : State), ((s.saf.wdArmed = false ∨ s.now < s.saf.wdKickAt + s.rd K.safDeviceWdMax * 1000000))) ∧
(∃ (s : State), (s.saf.wdArmed = true ∧ (s.saf.wdFirst = none ∨ ∃ t, s.saf.wdFirst = some t ∧ t + 1000 < s.now))) ∧
(∃ (s : State) (t : Nat), (s.saf.wdArmed = true ∧ s.saf.wdFirst = some t ∧ s.now ≤ t + 1000 ∧ (s.saf.wdKicked = false ∨ s.saf.wdKickAt +
      s.rd K.safDeviceWdMin * 1000000 ≤ s.now))) ∧
(∃ (s : State) (t : Nat), (s.saf.wdArmed = true ∧ s.saf.wdFirst = some t ∧ s.now ≤ t + 1000 ∧ s.saf.wdKicked = true ∧ s.now <
      s.saf.wdKickAt + s.rd K.safDeviceWdMin * 1000000)) ∧
(∃ (s : State) (t : Nat) (v : BitVec 8), (s.saf.wdArmed = true ∧ s.saf.wdFirst = some t ∧ s.now ≤ t + 1000 ∧ v ≠ 165#8)) ∧
(∃ (s : State), (s.saf.wdArmed = true ∧ s.saf.wdKickAt + s.rd K.safDeviceWdMax * 1000000 ≤ s.now)) :=
  ⟨⟨0x00#8, by decide +kernel⟩,
    ⟨0x02#8, by decide +kernel⟩,
    ⟨s_alu 3, 0, by decide +kernel⟩,
    ⟨s_alu 3, 0, by decide +kernel⟩,
    ⟨busyP (s_saf (10 ^ 13) id), 0, by decide +kernel⟩,
    ⟨s_alu 3, 0, by decide +kernel⟩,
    ⟨s_saf 5 fun x => { x with restarting := [0] }, 0, by decide +kernel⟩,
    ⟨s_alu 3, by decide +kernel⟩,
    ⟨s_alu 3, by decide +kernel⟩,
    ⟨s_saf (10 ^ 13) fun x => { x with wdArmed := true }, by decide +kernel⟩,
    ⟨s_saf (10 ^ 9) fun x => { x with wdArmed := true, wdFirst := some (10 ^ 9) }, 1000000000, by decide +kernel⟩,
    ⟨(s_saf (10 ^ 9) fun x => { x with wdArmed := true, wdFirst := some (10 ^ 9), wdKicked := true, wdKickAt := 10 ^ 9 }).wr K.safDeviceWdMin
      5, 1000000000, by decide +kernel⟩,
    ⟨s_saf (10 ^ 9) fun x => { x with wdArmed := true, wdFirst := some (10 ^ 9) }, 1000000000, 0x00#8, by decide +kernel⟩,
    ⟨s_saf (10 ^ 13) fun x => { x with wdArmed := true }, by decide +kernel⟩⟩

/-- States and operands that meet the hypotheses of `Obligations.OtpAndLifeCycleAreWritten`, clause by clause. -/
theorem witness_OtpAndLifeCycleAreWritten :
(∃ (s : State) (t : BitVec 8) (role : Fin 4), (2 ≤ role.val ∧ t.toNat ≤ 5 ∧ s.bin.lcTarget = none ∧ s.transitionOk t.toNat role.val = true
      ∧ (t.toNat = 1 → s.trngOk = true))) ∧
(∃ (s : State) (t : BitVec 8) (role : Fin 4), ((¬(2 ≤ role.val ∧ t.toNat ≤ 5 ∧ s.bin.lcTarget = none ∧ s.transitionOk t.toNat role.val =
      true ∧ (t.toNat = 1 → s.trngOk = true))))) ∧
(∃ (s : State) (t : Nat), (s.bin.lcTarget = some t ∧ t ≤ 5 ∧ s.bin.zeroWait = none ∧ s.bin.trips = [] ∧ s.boot.waiting = [])) ∧
(∃ (s : State) (v : BitVec 32) (role : Fin 4), ((s.life = 2 ∨ s.life = 3) ∧ s.otpRole ≤ role.val ∧ v.toNat < 16 ∧ s.revokesLast v.toNat =
      false)) ∧
(∃ (s : State) (v : BitVec 32) (role : Fin 4), ((¬((s.life = 2 ∨ s.life = 3) ∧ s.otpRole ≤ role.val ∧ v.toNat < 16 ∧ s.revokesLast v.toNat
      = false)))) ∧
(∃ (s : State) (w : Fin 512) (v : BitVec 32) (role : Fin 4), (otpWritable (w.val) s.life = true ∧ s.otpRole ≤ role.val ∧ (w.val = 160 →
      v.toNat < 16 ∧ s.revokesLast v.toNat = false))) ∧
(∃ (s : State) (w : Fin 512) (v : BitVec 32) (role : Fin 4), ((¬(otpWritable (w.val) s.life = true ∧ s.otpRole ≤ role.val ∧ (w.val = 160 →
      v.toNat < 16 ∧ s.revokesLast v.toNat = false))))) ∧
(∃ (s : State), (s.bin.rollback = [])) ∧
(∃ (s : State) (j : Nat) (v : Nat) (r : List (Nat × Nat)), (s.bin.rollback = (j, v) :: r ∧ j < 8 ∧ s.bin.zeroWait = none ∧ s.bin.trips =
      [] ∧ s.boot.waiting = [])) ∧
(∃ (s : State), ((s.boot.asserted = true ∨ s.boot.step ≠ 1))) ∧
(∃ (s : State) (trng : Bool), (s.boot.asserted = false ∧ s.boot.step = 1 ∧ (trng = false → (List.filter (fun t => decide (s.now < t +
      1000000000)) s.bin.rngFails).length < 2))) :=
  ⟨⟨s_alu 3, 0x05#8, 2, by decide +kernel⟩,
    ⟨s_alu 3, 0x00#8, 0, by decide +kernel⟩,
    ⟨(s_otp 0 fun b => { b with lcTarget := some 1 }), 1, by decide +kernel⟩,
    ⟨helloT, 0x00000000#32, 3, by decide +kernel⟩,
    ⟨s_alu 3, 0x00000000#32, 0, by decide +kernel⟩,
    ⟨s_alu 3, 16, 0x00000000#32, 3, by decide +kernel⟩,
    ⟨s_alu 3, 3, 0x00000000#32, 0, by decide +kernel⟩,
    ⟨s_alu 3, by decide +kernel⟩,
    ⟨(s_otp 1 fun b => { b with rollback := [(3, 5)] }), 3, 5, [], by decide +kernel⟩,
    ⟨s_alu 3, by decide +kernel⟩,
    ⟨s_boot 1 1 id, true, by decide +kernel⟩⟩

/-- States and operands that meet the hypotheses of `Obligations.ResetsAndVoltage`, clause by clause. -/
theorem witness_ResetsAndVoltage :
(∃ (s : State) (v : BitVec 8), (v = 1#8 ∧ s.rd K.cmtCommitState ≠ 1 ∧ s.rd K.cmtCommitState ≠ 2 ∧ s.rd K.rstPowerFailLatched = 0)) ∧
(∃ (s : State) (v : BitVec 8), (v = 1#8 ∧ (s.rd K.cmtCommitState = 1 ∨ s.rd K.cmtCommitState = 2 ∨ s.rd K.rstPowerFailLatched ≠ 0))) ∧
(∃ (v : BitVec 8), (v ≠ 1#8)) ∧
(∃ (s : State), ((s.boot.softAt = none ∨ ∃ t, s.boot.softAt = some t ∧ s.now < t))) ∧
(∃ (s : State) (t : Nat), (s.boot.softAt = some t ∧ t ≤ s.now ∧ s.boot.asserted = false ∧ s.aonBusy = false)) ∧
(∃ (s : State) (t : Nat), (s.boot.softAt = some t ∧ t ≤ s.now ∧ s.boot.asserted = false ∧ s.aonBusy = true)) ∧
(∃ (s : State) (t : Nat), (s.boot.softAt = some t ∧ t ≤ s.now ∧ s.boot.asserted = true ∧ s.boot.at_ ≠ s.now)) ∧
(∃ (s : State), ((s.boot.asserted = false ∨ s.now < s.boot.at_ + 20000 ∨ s.boot.porst = true ∨ s.boot.pwrfail = true ∨ s.boot.powerFail =
      true))) ∧
(∃ (s : State), (s.boot.asserted = true ∧ s.boot.at_ + 20000 ≤ s.now ∧ s.boot.porst = false ∧ s.boot.pwrfail = false ∧ s.boot.powerFail =
      false)) ∧
(∃ (s : State), (s.boot.pwrfail = true)) ∧
(∃ (s : State), (s.rd K.rstAvsState ≠ 1)) ∧
(∃ (s : State), (s.rd K.rstAvsState = 1 ∧ s.boot.avsWait ≠ [])) ∧
(∃ (s : State), (s.rd K.rstAvsState = 1 ∧ s.boot.avsWait = [])) :=
  ⟨⟨s_alu 3, 0x01#8, by decide +kernel⟩,
    ⟨State.reset.wr K.cmtCommitState 1, 0x01#8, by decide +kernel⟩,
    ⟨0x00#8, by decide +kernel⟩,
    ⟨s_alu 3, by decide +kernel⟩,
    ⟨s_rst fun b => { b with asserted := false, softAt := some 5 }, 5, by decide +kernel⟩,
    ⟨({ s_rst (fun b => { b with asserted := false, softAt := some 5 }) with bin := { State.reset.bin with zeroWait := some 1 } } : State), 5,
      by decide +kernel⟩,
    ⟨s_rst fun b => { b with asserted := true, softAt := some 5, at_ := 7 }, 5, by decide +kernel⟩,
    ⟨s_alu 3, by decide +kernel⟩,
    ⟨s_rst fun b => { b with asserted := true, softAt := some 5, at_ := 7 }, by decide +kernel⟩,
    ⟨s_rst fun b => { b with asserted := false, pwrfail := true }, by decide +kernel⟩,
    ⟨s_alu 3, by decide +kernel⟩,
    ⟨({ (s_avs 900) with boot := { State.reset.boot with avsWait := [3] } } : State), by decide +kernel⟩,
    ⟨s_avs 700, by decide +kernel⟩⟩

/-- States and operands that meet the hypotheses of `Obligations.AlmanacKeepsAndFlushesRecords`, clause by clause. -/
theorem witness_AlmanacKeepsAndFlushesRecords :
(∃ (s : State) (o : Fin 26), (tget [] s.alm.raised (s.sampledOrigin o.val) = [])) ∧
(∃ (s : State) (o : Fin 26) (r : Raised) (q : List Raised), (tget [] s.alm.raised (s.sampledOrigin o.val) = r :: q)) ∧
(∃ (image : BitVec 256) (pilot : Bool), (postRefused pilot (bits image.toNat 127 112) (bits image.toNat 130 128) (bits image.toNat 135
      132) = false)) ∧
(∃ (image : BitVec 256) (pilot : Bool), (postRefused pilot (bits image.toNat 127 112) (bits image.toNat 130 128) (bits image.toNat 135
      132) = true)) ∧
(∃ (s : State) (l : List AlmRec), (s.flushable (s.rd K.almBackgroundSeverity) = l ∧ (l = [] ∨ s.rd K.almFlashState < 2 ∨ s.alm.page ≠
      []))) ∧
(∃ (s : State) (l : List AlmRec) (r : AlmRec) (m : List AlmRec), (s.flushable (s.rd K.almBackgroundSeverity) = l ∧ l = r :: m ∧ s.now <
      r.at_ + s.rd K.almFlushDelay * 1000000)) ∧
(∃ (s : State) (l : List AlmRec) (r : AlmRec) (m : List AlmRec), (s.flushable (s.rd K.almBackgroundSeverity) = l ∧ l = r :: m ∧ r.at_ +
      s.rd K.almFlushDelay * 1000000 ≤ s.now ∧ 2 ≤ s.rd K.almFlashState ∧ s.alm.page = [] ∧ s.alm.urgent = false ∧ 0 < s.alm.room)) ∧
(∃ (s : State) (l : List AlmRec) (r : AlmRec) (m : List AlmRec) (x : Nat) (y : List Nat), (s.flushable (s.rd K.almBackgroundSeverity) = l
      ∧ l = r :: m ∧ r.at_ + s.rd K.almFlushDelay * 1000000 ≤ s.now ∧ 2 ≤ s.rd K.almFlashState ∧ s.alm.page = [] ∧ s.alm.urgent = false ∧
      s.alm.room = 0 ∧ s.alm.reserve = x :: y)) ∧
(∃ (s : State) (l : List AlmRec) (r : AlmRec) (m : List AlmRec), (s.flushable (s.rd K.almBackgroundSeverity) = l ∧ l = r :: m ∧ r.at_ +
      s.rd K.almFlushDelay * 1000000 ≤ s.now ∧ 2 ≤ s.rd K.almFlashState ∧ s.alm.page = [] ∧ s.alm.urgent = false ∧ s.alm.room = 0 ∧
      s.alm.reserve = [])) ∧
(∃ (s : State), (s.alm.page ≠ [])) ∧
(∃ (s : State), (s.urgentOver = false)) ∧
(∃ (s : State), (s.urgentOver = true ∧ s.rd K.rstPowerFailLatched = 0)) ∧
(∃ (s : State), (s.urgentOver = true ∧ s.rd K.rstPowerFailLatched ≠ 0 ∧ s.boot.asserted = false ∧ s.aonBusy = false)) ∧
(∃ (s : State), (s.rd K.almFlashState ≠ 1)) ∧
(∃ (s : State), (s.rd K.almFlashState = 1)) ∧
(∃ (s : State), ((s.rd K.almFlashState ≠ 2 ∨ s.flushReserve ≤ s.alm.reserve.length))) ∧
(∃ (s : State), (s.rd K.almFlashState = 2 ∧ s.alm.reserve.length < s.flushReserve)) ∧
(∃ (s : State), ((s.rd K.trcCounterInterval = 0 ∨ s.now < s.trc.counterAt + s.rd K.trcCounterInterval * 1000000))) ∧
(∃ (s : State), (s.rd K.trcCounterInterval ≠ 0 ∧ s.trc.counterAt + s.rd K.trcCounterInterval * 1000000 ≤ s.now)) ∧
(∃ (s : State), ((s.trc.blocks = [] ∨ s.now < s.trc.blockAt + 100000))) ∧
(∃ (s : State), (s.trc.blocks ≠ [] ∧ s.trc.blockAt + 100000 ≤ s.now)) :=
  ⟨⟨s_almR 51 3 [arec 3 4] id, 0, by decide +kernel⟩,
    ⟨s_alu 3, 0, { code := 5633, severity := 1, detail := 0 }, [{ code := 5634, severity := 2, detail := 0 }], by decide +kernel⟩,
    ⟨0x0000000000000000000000000000000030010000000000000000000000000000#256, true, by decide +kernel⟩,
    ⟨0x0000000000000000000000000000000000000000000000000000000000000000#256, true, by decide +kernel⟩,
    ⟨s_alu 3, [], by decide +kernel⟩,
    ⟨s_almR 51 3 [arec 3 4] id,
      [{ seq := 3, time := 5, code := 4609, severity := 4, timeSource := false, origin := 3, detail := 7, flushed := false, at_ := 50 }],
      { seq := 3, time := 5, code := 4609, severity := 4, timeSource := false, origin := 3, detail := 7, flushed := false, at_ := 50 },
      [], by decide +kernel⟩,
    ⟨s_almR (10 ^ 13) 3 [arec 3 4] fun a => { a with room := 5 },
      [{ seq := 3, time := 5, code := 4609, severity := 4, timeSource := false, origin := 3, detail := 7, flushed := false, at_ := 50 }],
      { seq := 3, time := 5, code := 4609, severity := 4, timeSource := false, origin := 3, detail := 7, flushed := false, at_ := 50 },
      [], by decide +kernel⟩,
    ⟨s_almR (10 ^ 13) 3 [arec 3 4] fun a => { a with room := 0, reserve := [3, 4] },
      [{ seq := 3, time := 5, code := 4609, severity := 4, timeSource := false, origin := 3, detail := 7, flushed := false, at_ := 50 }],
      { seq := 3, time := 5, code := 4609, severity := 4, timeSource := false, origin := 3, detail := 7, flushed := false, at_ := 50 },
      [], 3, [4], by decide +kernel⟩,
    ⟨s_almR (10 ^ 13) 3 [arec 3 4] fun a => { a with room := 0, reserve := [] },
      [{ seq := 3, time := 5, code := 4609, severity := 4, timeSource := false, origin := 3, detail := 7, flushed := false, at_ := 50 }],
      { seq := 3, time := 5, code := 4609, severity := 4, timeSource := false, origin := 3, detail := 7, flushed := false, at_ := 50 },
      [], by decide +kernel⟩,
    ⟨s_almR (10 ^ 13) 3 [arec 3 4] fun a => { a with page := [arec 3 4], room := 5 }, by decide +kernel⟩,
    ⟨s_alu 3, by decide +kernel⟩,
    ⟨s_almR (10 ^ 13) 3 [] fun a => { a with urgent := true }, by decide +kernel⟩,
    ⟨(s_almR (10 ^ 13) 3 [] fun a => { a with urgent := true }).wr K.rstPowerFailLatched 1, by decide +kernel⟩,
    ⟨s_alu 3, by decide +kernel⟩,
    ⟨s_almR (10 ^ 13) 1 [] id, by decide +kernel⟩,
    ⟨s_alu 3, by decide +kernel⟩,
    ⟨s_almR (10 ^ 13) 2 [] id, by decide +kernel⟩,
    ⟨s_alu 3, by decide +kernel⟩,
    ⟨s_trc, by decide +kernel⟩,
    ⟨s_alu 3, by decide +kernel⟩,
    ⟨s_trc, by decide +kernel⟩⟩

/-- States and operands that meet the hypotheses of `Obligations.WorkRequestsLeave`, clause by clause. -/
theorem witness_WorkRequestsLeave :
(∃ (s : State) (t : Fin 580) (rs : Fin 32) (rb : Fin 32) (n : Fin 8) (p : Fin 2), (t.val < 512 ∧ s.rp (t.val) (s.thread t.val).second
      p.val = Rp.empty ∧ BitVec.toNat ((s.thread t.val).reg rs.val) + 16 ≤ 63488 ∧ BitVec.toNat ((s.thread t.val).reg rs.val) % 8 = 0 ∧
      (((s.core (coreOf t.val)).sb.all fun e => !e.overlaps (BitVec.toNat ((s.thread t.val).reg rs.val)) 16) = true) ∧ s.badRam (t.val)
      (BitVec.toNat ((s.thread t.val).reg rs.val)) 16 = none) ∧ (n.val ≠ 0 → (fun a n => a + n ≤ 63488 ∧ a % 8 = 0 ∧ s.Clear (t.val) a n)
      (BitVec.toNat ((s.thread t.val).reg rb.val)) (16 * n.val)) ∧ s.CanIssue (t.val) (Instr.cpost t rs rb n p)) ∧
(∃ (s : State) (t : Fin 580) (rs : Fin 32) (ra : Fin 32) (p : Fin 2), (t.val < 512 ∧ BitVec.toNat ((s.thread t.val).reg rs.val) + 16 ≤
      63488 ∧ BitVec.toNat ((s.thread t.val).reg rs.val) % 8 = 0 ∧ (((s.core (coreOf t.val)).sb.all fun e => !e.overlaps (BitVec.toNat
      ((s.thread t.val).reg rs.val)) 16) = true) ∧ s.badRam (t.val) (BitVec.toNat ((s.thread t.val).reg rs.val)) 16 = none ∧ BitVec.toNat
      ((s.thread t.val).reg ra.val) < 8 ∧ (bits (ofLE ((fun a n => s.loadBytes Space.coreData (65536 * (t.val / 8) + a) n) (BitVec.toNat
      ((s.thread t.val).reg rs.val)) 16)) 44 32 = 0) ∧ (bits (ofLE ((fun a n => s.loadBytes Space.coreData (65536 * (t.val / 8) + a) n)
      (BitVec.toNat ((s.thread t.val).reg rs.val)) 16)) 63 48 ≠ 0) ∧ (s.classOf (bits (ofLE ((fun a n => s.loadBytes Space.coreData (65536
      * (t.val / 8) + a) n) (BitVec.toNat ((s.thread t.val).reg rs.val)) 16)) 47 45) = 0) ∧ (s.delayList (BitVec.toNat ((s.thread
      t.val).reg ra.val))).entries.length < 2048 ∧ (∃ k, k < 2048 ∧ ∀ (e : DelayEntry), e ∈ (s.delayList (BitVec.toNat ((s.thread
      t.val).reg ra.val))).entries → e.slot ≠ k) ∧ s.rp (t.val) (s.thread t.val).second p.val = Rp.empty ∧ s.toDx (crossOf t.val) = []) ∧
      s.CanIssue (t.val) (Instr.dins t rs ra p)) ∧
(∃ (s : State) (t : Fin 580) (ra : Fin 32) (p : Fin 2), (t.val < 512 ∧ (((s.delayList (BitVec.toNat ((s.thread t.val).reg ra.val) % 65536
      / 2 ^ 13)).entries.all fun e => decide (delayHandle (BitVec.toNat ((s.thread t.val).reg ra.val) % 65536 / 2 ^ 13) e ≠ BitVec.toNat
      ((s.thread t.val).reg ra.val) % 65536)) = true) ∧ s.rp (t.val) (s.thread t.val).second p.val = Rp.empty ∧ s.toDx (crossOf t.val) =
      []) ∧ s.CanIssue (t.val) (Instr.dcan t ra p)) ∧
(∃ (s : State) (t : Fin 580) (rs : Fin 32) (ra : Fin 32), (t.val < 512 ∧ BitVec.toNat ((s.thread t.val).reg rs.val) + 32 ≤ 63488 ∧
      BitVec.toNat ((s.thread t.val).reg rs.val) % 8 = 0 ∧ (((s.core (coreOf t.val)).sb.all fun e => !e.overlaps (BitVec.toNat ((s.thread
      t.val).reg rs.val)) 32) = true) ∧ s.badRam (t.val) (BitVec.toNat ((s.thread t.val).reg rs.val)) 32 = none ∧ BitVec.toNat ((s.thread
      t.val).reg ra.val) < 16 ∧ bit (s.rd (K.rtRights (s.lower (t.val / 8)))) 1 = 1 ∧ (s.doorbellStatus (BitVec.toNat ((s.thread
      t.val).reg ra.val)) (BitVec.ofNat 256 (ofLE ((fun a n => s.loadBytes Space.coreData (65536 * (t.val / 8) + a) n) (BitVec.toNat
      ((s.thread t.val).reg rs.val)) 32))) true = 0) ∧ s.on K.dmaCqEnable = true ∧ (dmaNotify (BitVec.ofNat 256 (ofLE ((fun a n =>
      s.loadBytes Space.coreData (65536 * (t.val / 8) + a) n) (BitVec.toNat ((s.thread t.val).reg rs.val)) 32))) = false)) ∧ s.CanIssue
      (t.val) (Instr.dmadb t rs ra)) :=
  ⟨⟨code 3 (Instr.cpost 3 0 0 0 0) (s_sb), 3, 0, 0, 0, 0, by decide +kernel, fun h => absurd rfl h, canIssue_of (by decide +kernel)⟩,
    ⟨code 3 (Instr.dins 3 5 0 0) (s_ram 3 (toLE 16 wordD.toNat)), 3, 5, 0, 0, by decide +kernel, canIssue_of (by decide +kernel)⟩,
    ⟨code 3 (Instr.dcan 3 0 0) (s_sb), 3, 0, 0, by decide +kernel, canIssue_of (by decide +kernel)⟩,
    ⟨code 3 (Instr.dmadb 3 5 0) (s_ram 3 (toLE 32 (mkDesc (pil 0x100) (pil 0x200) 8).toNat) |>.wr K.dmaCqEnable 1), 3, 5, 0,
      by decide +kernel, canIssue_of (by decide +kernel)⟩⟩

/-- States and operands that meet the hypotheses of `Obligations.TrafficIsQueuedAndSent`, clause by clause. -/
theorem witness_TrafficIsQueuedAndSent :
(∃ (s : State) (h : Handover) (r : List Handover), (s.tm.inbox = h :: r)) ∧
(∃ (s : State) (p : Fin 8) (c : TmCopy) (k : Nat) (r : List TmCopy) (rest : List (Nat × List TmCopy)), (s.rd (K.portLinkState p.val) ≠ 1 ∧
      (s.cell c.handle).pool < 32 ∧ (s.tmPort p.val).classQ = (k, c :: r) :: rest)) ∧
(∃ (s : State) (p : Fin 8) (c : TmCopy) (k : Nat) (r : List TmCopy) (rest : List (Nat × List TmCopy)), (s.rd (K.portLinkState p.val) ≠ 1 ∧
      (s.cell c.handle).pool < 32 ∧ (s.tmPort p.val).classQ = [] ∧ (s.tmPort p.val).streamQ = (k, c :: r) :: rest)) ∧
(∃ (s : State) (p : Fin 8) (c : TmCopy) (r : List TmCopy), (s.rd (K.portLinkState p.val) ≠ 1 ∧ (s.cell c.handle).pool < 32 ∧ (s.tmPort
      p.val).classQ = [] ∧ (s.tmPort p.val).streamQ = [] ∧ (s.tmPort p.val).launchSet = c :: r)) ∧
(∃ (s : State) (p : Fin 8) (f : CtrlFrame) (r : List CtrlFrame), (s.rd (K.portLinkState p.val) = 1 ∧ (s.port p.val).line = none ∧ (s.port
      p.val).ctrlQ = f :: r)) ∧
(∃ (s : State) (p : Fin 8) (sent : BitVec 14) (f : TxFrame) (g : CtrlFrame) (r : List CtrlFrame), (s.rd (K.portLinkState p.val) = 1 ∧
      (s.port p.val).line = some f ∧ (s.port p.val).ctrlQ = g :: r ∧ s.preemptActive p.val = true ∧ f.express = false ∧ f.control = none ∧
      64 * (1 + s.rd (K.portAddFragSize p.val)) ≤ sent.toNat + 4 ∧ 64 + f.sent + sent.toNat ≤ f.length)) ∧
(∃ (s : State) (p : Fin 8) (lead : BitVec 32) (k : Fin 8) (c : TmCopy), (s.rd (K.portLinkState p.val) = 1 ∧ (s.port p.val).line = none ∧
      (s.port p.val).ctrlQ = [] ∧ s.lodeWaits p.val = false ∧ s.purgeOversize p.val = s ∧ (s.port p.val).preempted = none ∧ (s.tmPort
      p.val).launchSet = [] ∧ (∀ (j : Fin 8), k < j → s.hasCredit p.val ↑j = false ∨ s.headsOf p.val ↑j = []) ∧ s.hasCredit p.val k.val =
      true ∧ (earliest (List.filter (fun d => s.mayStart d && decide (s.standing (p.val) lead.toNat d = 0)) (s.headsOf p.val k.val)) =
      some c) ∧ (c.raw.isSome = true ∨ s.orch.badData = [] ∧ (s.chain c.handle).length = (s.cell c.handle).count) ∧ (s.egressBar (p.val)
      (if c.raw.isSome = true then 255 else c.desc.egressSecY.toNat) = none) ∧ (s.tooLong (p.val) (if c.raw.isSome = true then 255 else
      c.desc.egressSecY.toNat) c.bareLength = false)) ∧ (∀ (j : Nat), s.preemptClass (p.val) j = false) ∧ (∀ (d : TmCopy), d ∈ s.headsOf
      p.val k.val → d.cls = k.val ∧ s.standing (p.val) lead.toNat d ≠ 1 ∧ s.standing (p.val) lead.toNat d ≠ 2)) ∧
(∃ (s : State) (p : Fin 8) (lead : BitVec 32) (c : TmCopy), (s.rd (K.portLinkState p.val) = 1 ∧ (s.port p.val).line = none ∧ (s.port
      p.val).ctrlQ = [] ∧ s.lodeWaits p.val = false ∧ s.purgeOversize p.val = s ∧ (List.find? (fun c_l => decide (s.preemptClass (p.val)
      c_l.cls = false) && s.mayStart c_l && s.launchReady (p.val) c_l lead.toNat) (s.tmPort p.val).launchSet = some c) ∧ c.inTime = true ∧
      s.domainUnits (s.rd (K.dispDelayDomain (c.launch.getD (0, 0)).fst)) + lead.toNat ≤ 4 * ((c.launch.getD (0, 0)).snd + 1) ∧
      (c.raw.isSome = true ∨ s.orch.badData = [] ∧ (s.chain c.handle).length = (s.cell c.handle).count) ∧ (s.egressBar (p.val) (if
      c.raw.isSome = true then 255 else c.desc.egressSecY.toNat) = none) ∧ (s.tooLong (p.val) (if c.raw.isSome = true then 255 else
      c.desc.egressSecY.toNat) c.bareLength = false))) :=
  ⟨⟨s_hand, ((s_hand).tm.inbox).head (by decide +kernel), [], by decide +kernel⟩,
    ⟨s_ldown, 3, (((((s_ldown).tmPort 3).classQ).head (by decide +kernel)).2).head (by decide +kernel), 2, [], [], by decide +kernel⟩,
    ⟨s_q2 { TmPort.zero with streamQ := [(5, [mkCopy 4])] } false, 3, (((((s_q2 { TmPort.zero with streamQ := [(5, [mkCopy 4])] }
      false).tmPort 3).streamQ).head (by decide +kernel)).2).head (by decide +kernel), 5, [], [], by decide +kernel⟩,
    ⟨s_q2 { TmPort.zero with launchSet := [mkCopy 4] } false, 3, (((s_q2 { TmPort.zero with launchSet := [mkCopy 4] } false).tmPort
      3).launchSet).head (by decide +kernel), [], by decide +kernel⟩,
    ⟨s_ctl 3, 3, Sys2Proof.Machine.CtrlFrame.pause 5, [], by decide +kernel⟩,
    ⟨s_line { Port.zero with line := some { txf with length := 500 }, ctrlQ := [.pause 5] }, 3, 0x0040#14, (((s_line
      { Port.zero with line := some { txf with length := 500 }, ctrlQ := [.pause 5] }).port 3).line).get (by decide +kernel),
      Sys2Proof.Machine.CtrlFrame.pause 5, [], by decide +kernel⟩,
    ⟨s_sel, 7, 0x00000000#32, 7, (earliest (List.filter (fun d => (s_sel).mayStart d && decide ((s_sel).standing (7) (0x00000000#32).toNat d =
      0)) ((s_sel).headsOf 7 7))).get (by decide +kernel), by decide +kernel, noPreempt (by decide +kernel), memAll (by decide +kernel)⟩,
    ⟨s_q2 { TmPort.zero with launchSet := [{ rawCopy 7 with launch := some (0, 0), released := true, inTime := true }] } true, 3,
      0x00000000#32, (List.find? (fun c_l => decide ((s_q2
      { TmPort.zero with launchSet := [{ rawCopy 7 with launch := some (0, 0), released := true, inTime := true }] } true).preemptClass
      (3) c_l.cls = false) && (s_q2
      { TmPort.zero with launchSet := [{ rawCopy 7 with launch := some (0, 0), released := true, inTime := true }] } true).mayStart c_l &&
      (s_q2 { TmPort.zero with launchSet := [{ rawCopy 7 with launch := some (0, 0), released := true, inTime := true }] }
      true).launchReady (3) c_l (0x00000000#32).toNat) ((s_q2
      { TmPort.zero with launchSet := [{ rawCopy 7 with launch := some (0, 0), released := true, inTime := true }] } true).tmPort
      3).launchSet).get (by decide +kernel), by decide +kernel⟩⟩

/-- States and operands that meet the hypotheses of `Obligations.DividesTakeTheDivider`, clause by clause. -/
theorem witness_DividesTakeTheDivider :
(∃ (s : State) (t : Fin 580) (rd : Fin 32) (ra : Fin 32) (rb : Fin 32), (rd.val % 2 = 0 ∧ (s.core (coreOf t.val)).div = none) ∧ s.CanIssue
      (t.val) (Instr.div t rd ra rb)) ∧
(∃ (s : State) (c : Fin 72) (d : DivOp), ((s.core c.val).div = some d ∧ d.b ≠ 0#32)) ∧
(∃ (s : State) (c : Fin 72) (d : DivOp), ((s.core c.val).div = some d ∧ d.b = 0#32 ∧ (s.thread d.tid).trapDz = false)) ∧
(∃ (s : State) (c : Fin 72) (d : DivOp), ((s.core c.val).div = some d ∧ d.b = 0#32 ∧ (s.thread d.tid).trapDz = true ∧ (s.thread
      d.tid).sregs.tvec ≠ 0#32 ∧ (s.thread d.tid).exl = false)) :=
  ⟨⟨s_alu 576, 576, 0, 0, 0, by decide +kernel, canIssue_of (by decide +kernel)⟩,
    ⟨s_div true 3#32 0#32, 0, { tid := 3, rd := 2, a := 0x80000005#32, b := 0x00000003#32, signed := true }, by decide +kernel⟩,
    ⟨s_div false 0#32 0#32, 0, { tid := 3, rd := 2, a := 0x80000005#32, b := 0x00000000#32, signed := false }, by decide +kernel⟩,
    ⟨s_div false 0#32 0x200000#32, 0, { tid := 3, rd := 2, a := 0x80000005#32, b := 0x00000000#32, signed := false }, by decide +kernel⟩⟩

/-- States and operands that meet the hypotheses of `Obligations.CommitsAreCarriedOut`, clause by clause. -/
theorem witness_CommitsAreCarriedOut :
(∃ (s : State) (c : Commit) (e : FlashEntry), (s.uda.commit = some c ∧ s.flashRegion 2 c.bank = some e)) ∧
(∃ (s : State) (image : List (BitVec 8)), ((s.verifyService image).fst ≠ 0)) :=
  ⟨⟨withFlash (heldC State.reset), ((withFlash (heldC State.reset)).uda.commit).get (by decide +kernel),
      { offset := 12288, size := 16384, ty := 2, copy := 0 }, by decide +kernel⟩,
    ⟨s_alu 3, [], by decide +kernel⟩⟩

/-- States and operands that meet the hypotheses of `Obligations.AddSubtractWrites`, clause by clause. -/
theorem witness_AddSubtractWrites : ∃ (s : State) (t : Fin 580) (ra : Fin 32) (rb : Fin 32), s.CanIssue (t.val) (Instr.cmp t ra rb) :=
⟨s_alu 576, 576, 0, 0, canIssue_of (by decide +kernel)⟩

/-- States and operands that meet the hypotheses of `Obligations.SafetyManagerReacts`, clause by clause. -/
theorem witness_SafetyManagerReacts :
(∃ (s : State) (p : Fin 12) (v : BitVec 8), (s.defaultClass p.val ≤ v.toNat ∧ v.toNat ≤ 4)) ∧
(∃ (s : State) (p : Fin 12) (v : BitVec 8), ((v.toNat < s.defaultClass p.val ∨ 4 < v.toNat))) ∧
(∃ (s : State) (src : Fin 12) (unit : BitVec 16), (s.reportClass (src.val) unit.toNat ≤ 1)) ∧
(∃ (s : State) (src : Fin 12) (unit : BitVec 16), (s.reportClass (src.val) unit.toNat = 2)) ∧
(∃ (s : State) (src : Fin 12) (unit : BitVec 16), ((s.reportClass (src.val) unit.toNat = 3 ∨ s.reportClass (src.val) unit.toNat = 4))) ∧
(∃ (s : State) (src : Fin 12) (unit : BitVec 16) (r : List (Nat × Nat)), (s.saf.reports = (src.val, unit.toNat) :: r)) ∧
(∃ (s : State), (s.saf.reports = [])) ∧
(∃ (s : State), ((s.saf.safeAt = none ∨ ∃ t, s.saf.safeAt = some t ∧ s.now < t))) ∧
(∃ (s : State) (t : Nat), (s.saf.safeAt = some t ∧ t ≤ s.now ∧ s.boot.asserted = false ∧ s.aonBusy = false ∧ s.saf.safeCause ≤ 8)) ∧
(∃ (s : State) (t : Nat), (s.saf.safeAt = some t ∧ t ≤ s.now ∧ s.boot.asserted = false ∧ s.aonBusy = true)) ∧
(∃ (s : State) (t : Nat), (s.saf.safeAt = some t ∧ t ≤ s.now ∧ s.boot.asserted = true ∧ s.boot.at_ ≠ s.now)) ∧
(∃ (s : State), (s.rd K.binBootState = 1 ∧ bit (s.rd K.safFaultStatus) 2 = 0 ∧ s.safeState = false)) ∧
(∃ (s : State), ((s.rd K.binBootState ≠ 1 ∨ bit (s.rd K.safFaultStatus) 2 = 1 ∨ s.safeState = true))) :=
  ⟨⟨s_alu 3, 0, 0x00#8, by decide +kernel⟩,
    ⟨s_alu 3, 0, 0x05#8, by decide +kernel⟩,
    ⟨s_alu 3, 0, 0x0000#16, by decide +kernel⟩,
    ⟨s_alu 3, 2, 0x0000#16, by decide +kernel⟩,
    ⟨s_alu 3, 7, 0x0000#16, by decide +kernel⟩,
    ⟨s_saf 5 fun x => { x with reports := [(2, 16)] }, 2, 0x0010#16, [], by decide +kernel⟩,
    ⟨s_alu 3, by decide +kernel⟩,
    ⟨s_alu 3, by decide +kernel⟩,
    ⟨(let s := s_rst fun b => { b with asserted := false }; { s with saf := { s.saf with safeAt := some 5 } }), 5, by decide +kernel⟩,
    ⟨(let s := s_rst fun b => { b with asserted := false };
      { s with saf := { s.saf with safeAt := some 5 }, bin := { s.bin with zeroWait := some 1 } }), 5, by decide +kernel⟩,
    ⟨(let s := s_rst fun b => { b with asserted := true, at_ := 7 }; { s with saf := { s.saf with safeAt := some 5 } }), 5, by decide +kernel⟩,
    ⟨(State.reset.wr K.binBootState 1), by decide +kernel⟩,
    ⟨s_alu 3, by decide +kernel⟩⟩

/-- States and operands that meet the hypotheses of `Obligations.PacketsAreReleasedInOrder`, clause by clause. -/
theorem witness_PacketsAreReleasedInOrder :
(∃ (s : State) (t : Fin 512) (i : Item), ((s.thread t.val).item = some i ∧ (s.thread t.val).st = TState.ending ∧ s.coreOut (t.val / 8) =
      false ∧ (s.cell (s.jentry i.journal).desc.firstCell.toNat).pool < 32 ∧ s.addWindowCell (s.jentry i.journal).desc.firstCell.toNat
      (s.thread t.val).window = none)) ∧
(∃ (s : State) (t : Fin 512) (i : Item), ((s.thread t.val).item = some i ∧ (s.thread t.val).st = TState.starting ∧ s.orch.badData = [] ∧
      s.orch.badLink = [])) ∧
(∃ (s : State) (j : Fin 4096), ((s.jentry j.val).st = JState.replay ∧ (s.jentry j.val).fence = true) ∧ (∀ (i : Item), (s.level (s.jentry
      j.val).desc.level.toNat).head? = some i → i.kind = ItemKind.replay → i.enq ≠ s.now)) ∧
(∃ (s : State) (j : Nat) (r : List Nat), (s.oru.ready = j :: r ∧ ((s.jentry j).st = JState.failed ∨ (s.jentry j).bad = true ∨ (s.jentry
      j).endKind = 2))) ∧
(∃ (s : State) (j : Nat) (r : List Nat), (s.oru.ready = j :: r ∧ (s.jentry j).st = JState.ended ∧ (s.jentry j).bad = false ∧ (s.jentry
      j).endKind = 1) ∧ (∀ (a : BitVec 128), a ∈ (s.jentry j).actions → actOp a ≠ 10 ∧ actOp a ≠ 11)) ∧
(∃ (im : BitVec 64), (im.toNat < 256)) :=
  ⟨⟨s_nopool, 3,
      { kind := Sys2Proof.Machine.ItemKind.packet, level := 3, affinity := 0x0000#16, tag := 0x00000007#32, journal := 9, list := 0, enq := 0 },
      by decide +kernel⟩,
    ⟨s_starting, 3,
      { kind := Sys2Proof.Machine.ItemKind.packet, level := 3, affinity := 0x0000#16, tag := 0x00000007#32, journal := 9, list := 0, enq := 0 },
      by decide +kernel⟩,
    ⟨s_replay 0, 9, by decide +kernel, optAll (by decide +kernel)⟩,
    ⟨s_rel fun e => { e with bad := true }, 9, [], by decide +kernel⟩,
    ⟨s_rel fun e => { e with endKind := 1, endArg := 3 }, 9, [], by decide +kernel, memAll (by decide +kernel)⟩,
    ⟨0x0000000000000000#64, by decide +kernel⟩⟩

/-- States and operands that meet the hypotheses of `Obligations.TheDeviceBoots`, clause by clause. -/
theorem witness_TheDeviceBoots :
(∃ (s : State) (i : Fin 27), ((s.boot.asserted = true ∨ (s.pll i.val).fst ≠ 1))) ∧
(∃ (s : State) (i : Fin 27), (s.now < s.boot.releasedAt + 100000 * ((s.pll i.val).snd + 1))) ∧
(∃ (s : State) (i : Fin 27), (s.boot.asserted = false ∧ (s.pll i.val).fst = 0 ∧ s.boot.releasedAt + 100000 * ((s.pll i.val).snd + 1) ≤
      s.now ∧ (s.pll i.val).snd < 2)) ∧
(∃ (s : State) (i : Fin 27), (s.boot.asserted = false ∧ (s.pll i.val).fst = 0 ∧ s.boot.releasedAt + 100000 * ((s.pll i.val).snd + 1) ≤
      s.now ∧ 2 ≤ (s.pll i.val).snd)) ∧
(∃ (s : State) (i : Fin 27), (s.boot.asserted = false ∧ (s.pll i.val).fst = 1)) ∧
(∃ (s : State), ((s.booting = false ∨ s.boot.step ≠ 2 ∨ s.life = 0 ∨ s.life = 5))) ∧
(∃ (s : State), ((s.booting = false ∨ s.boot.step ≠ 3))) ∧
(∃ (s : State), ((s.booting = false ∨ s.boot.step ≠ 5 ∨ bit s.boot.stepsDone 7 = 1))) ∧
(∃ (s : State), ((s.booting = false ∨ s.boot.step ≠ 5 ∨ bit s.boot.stepsDone 7 = 0 ∨ s.rd K.dramDramState = 1))) ∧
(∃ (s : State), (s.booting = true ∧ s.boot.step = 2 ∧ s.life ≠ 0 ∧ s.life ≠ 5)) ∧
(∃ (s : State), (s.booting = true ∧ s.boot.step = 3 ∧ selectBank (s.validBank 0).fst ((s.validBank 0).snd.validBank 1).fst = none)) ∧
(∃ (s : State), (s.booting = true ∧ s.boot.step = 4)) ∧
(∃ (s : State), (s.booting = true ∧ s.boot.step = 5 ∧ bit s.boot.stepsDone 7 = 0)) ∧
(∃ (s : State), (s.booting = true ∧ s.boot.step = 5 ∧ bit s.boot.stepsDone 7 = 1 ∧ s.rd K.dramDramState ≠ 1)) :=
  ⟨⟨s_alu 3, 0, by decide +kernel⟩,
    ⟨s_alu 3, 0, by decide +kernel⟩,
    ⟨s_q, 0, by decide +kernel⟩,
    ⟨s_boot 1 0 fun b => { b with plls := [(0, (0, 2)), (5, (1, 0))] }, 0, by decide +kernel⟩,
    ⟨s_boot 1 0 fun b => { b with plls := [(0, (0, 2)), (5, (1, 0))] }, 5, by decide +kernel⟩,
    ⟨s_alu 3, by decide +kernel⟩,
    ⟨s_alu 3, by decide +kernel⟩,
    ⟨s_alu 3, by decide +kernel⟩,
    ⟨s_alu 3, by decide +kernel⟩,
    ⟨s_boot 1 2 id, by decide +kernel⟩,
    ⟨s_boot 1 3 id, by decide +kernel⟩,
    ⟨s_boot 1 4 id, by decide +kernel⟩,
    ⟨s_boot 1 5 id, by decide +kernel⟩,
    ⟨s_boot 1 5 fun b => { b with stepsDone := 128 }, by decide +kernel⟩⟩

/-- States and operands that meet the hypotheses of `Obligations.BinnacleServicesAnswer`, clause by clause. -/
theorem witness_BinnacleServicesAnswer :
(∃ (s : State), (s.zeroised = true)) ∧
(∃ (s : State) (h : BitVec 32), (s.zeroised = false ∧ s.byHandle h.toNat = none)) ∧
(∃ (s : State) (h : BitVec 32) (e : KeyEntry), (s.zeroised = false ∧ s.byHandle h.toNat = some e ∧ e.usage ≠ 1)) ∧
(∃ (s : State), (s.zeroised = false ∧ ¬s.trngOk = true)) ∧
(∃ (s : State), (s.zeroised = false ∧ (s.life = 0 ∨ s.life = 5))) ∧
(∃ (s : State) (b : BitVec 512), (s.zeroised = false ∧ s.life ≠ 0 ∧ s.life ≠ 5 ∧ s.openBlob (toLE 64 b.toNat) = none)) ∧
(∃ (s : State) (h : BitVec 32) (e : KeyEntry), (s.zeroised = false ∧ s.byHandle h.toNat = some e ∧ e.usage = 1 ∧ (¬∃ i, i < 256 ∧
      (s.keyEntry i).used = false))) ∧
(∃ (s : State) (h : BitVec 32) (e : KeyEntry), (s.zeroised = false ∧ s.byHandle h.toNat = some e ∧ e.usage = 6)) ∧
(∃ (s : State) (h : BitVec 32) (e : KeyEntry), (s.zeroised = false ∧ s.byHandle h.toNat = some e ∧ e.usage = 5 ∧ s.trngOk = false)) ∧
(∃ (s : State) (h : BitVec 32) (e : KeyEntry), (s.zeroised = false ∧ s.byHandle h.toNat = some e ∧ e.usage = 5 ∧ s.trngOk = true ∧ (∃ i, i
      < 256 ∧ (s.keyEntry i).used = false))) ∧
(∃ (s : State) (h : BitVec 32) (e : KeyEntry), (s.zeroised = false ∧ s.byHandle h.toNat = some e ∧ e.usage = 5 ∧ s.trngOk = true ∧ (¬∃ i,
      i < 256 ∧ (s.keyEntry i).used = false))) ∧
(∃ (s : State) (h : BitVec 32) (e : KeyEntry) (w : List (BitVec 8)), (s.zeroised = false ∧ s.byHandle h.toNat = some e ∧ e.usage = 5 ∧
      (w.length ≠ 24 ∧ w.length ≠ 40 ∨ keyUnwrap e.bytes w = none))) ∧
(∃ (s : State) (h : BitVec 32) (e : KeyEntry) (p : BitVec 8) (secy : BitVec 8) (sc : BitVec 8) (an : BitVec 8), (s.zeroised = false ∧
      s.byHandle h.toNat = some e ∧ e.usage = 7 ∧ (¬(p.toNat < 7 ∧ secy.toNat < secyCount p.toNat ∧ sc.toNat < scCount p.toNat ∧ an.toNat
      < 4 ∧ (s.chan p.toNat sc.toNat).used = true ∧ (s.chan p.toNat sc.toNat).secy = secy.toNat ∧ e.bytes.length = if s.rd
      (K.secyCipherSuite (secyIx p.toNat secy.toNat)) % 2 = 1 then 16 else 32)))) ∧
(∃ (s : State) (h : BitVec 32) (e : KeyEntry) (cluster : BitVec 8) (slot : BitVec 8), (s.zeroised = false ∧ s.byHandle h.toNat = some e ∧
      (e.usage = 2 ∨ e.usage = 3) ∧ (16 ≤ cluster.toNat ∨ 16 ≤ slot.toNat))) ∧
(∃ (s : State) (h : BitVec 32) (e : KeyEntry) (cluster : BitVec 8) (slot : BitVec 8), (s.zeroised = false ∧ s.byHandle h.toNat = some e ∧
      (e.usage = 2 ∨ e.usage = 3) ∧ cluster.toNat < 16 ∧ slot.toNat < 16)) ∧
(∃ (s : State) (image : List (BitVec 8)), (s.zeroised = false ∧ s.imageStatus image ≠ 0)) :=
  ⟨⟨s_zer (s_lc 1), by decide +kernel⟩,
    ⟨s_alu 3, 0x00000000#32, by decide +kernel⟩,
    ⟨s_open, 0x00000004#32, ((s_open).byHandle (0x00000004#32).toNat).get (by decide +kernel), by decide +kernel⟩,
    ⟨fullStore (keyOf 5 32) false, by decide +kernel⟩,
    ⟨s_alu 3, by decide +kernel⟩,
    ⟨helloT,
      0x00000000000000000000000000000000000000000000000000000000000000000000000000000000000000000000000000000000000000000000000000000000#512,
      by decide +kernel⟩,
    ⟨fullStore (keyOf 1 32) true, 0x00000103#32, ((fullStore (keyOf 1 32) true).byHandle (0x00000103#32).toNat).get (by decide +kernel),
      by decide +kernel⟩,
    ⟨s_bin [(3, keyOf 6 32)], 0x00000103#32, ((s_bin [(3, keyOf 6 32)]).byHandle (0x00000103#32).toNat).get (by decide +kernel),
      by decide +kernel⟩,
    ⟨fullStore (keyOf 5 32) false, 0x00000103#32, ((fullStore (keyOf 5 32) false).byHandle (0x00000103#32).toNat).get (by decide +kernel),
      by decide +kernel⟩,
    ⟨s_bin [(3, keyOf 5 32)], 0x00000103#32, ((s_bin [(3, keyOf 5 32)]).byHandle (0x00000103#32).toNat).get (by decide +kernel),
      by decide +kernel⟩,
    ⟨fullStore (keyOf 5 32) true, 0x00000103#32, ((fullStore (keyOf 5 32) true).byHandle (0x00000103#32).toNat).get (by decide +kernel),
      by decide +kernel⟩,
    ⟨s_bin [(3, keyOf 5 32)], 0x00000103#32, ((s_bin [(3, keyOf 5 32)]).byHandle (0x00000103#32).toNat).get (by decide +kernel), [],
      by decide +kernel⟩,
    ⟨s_bin [(3, keyOf 7 32)], 0x00000103#32, ((s_bin [(3, keyOf 7 32)]).byHandle (0x00000103#32).toNat).get (by decide +kernel), 0x01#8,
      0x00#8, 0x00#8, 0x01#8, by decide +kernel⟩,
    ⟨s_bin [(3, keyOf 2 32)], 0x00000103#32, ((s_bin [(3, keyOf 2 32)]).byHandle (0x00000103#32).toNat).get (by decide +kernel), 0x00#8,
      0x10#8, by decide +kernel⟩,
    ⟨s_bin [(3, keyOf 2 32)], 0x00000103#32, ((s_bin [(3, keyOf 2 32)]).byHandle (0x00000103#32).toNat).get (by decide +kernel), 0x00#8,
      0x00#8, by decide +kernel⟩,
    ⟨s_alu 3, [], by decide +kernel⟩⟩

/-- States and operands that meet the hypotheses of `Obligations.PortsFollowTheirLinks`, clause by clause. -/
theorem witness_PortsFollowTheirLinks :
(∃ (s : State) (p : Fin 8) (c : BitVec 8), ((p.val < 4 ∧ 1 ≤ c.toNat ∧ c.toNat ≤ 4 ∨ 4 ≤ p.val ∧ p.val < 7 ∧ c = 5#8 ∨ p = 7 ∧ c = 6#8) ∧
      s.rd (K.portMode p.val) = c.toNat)) ∧
(∃ (s : State) (p : Fin 8) (c : BitVec 8), ((p.val < 4 ∧ 1 ≤ c.toNat ∧ c.toNat ≤ 4 ∨ 4 ≤ p.val ∧ p.val < 7 ∧ c = 5#8 ∨ p = 7 ∧ c = 6#8) ∧
      s.rd (K.portMode p.val) ≠ c.toNat)) ∧
(∃ (p : Fin 8) (c : BitVec 8), ((¬(p.val < 4 ∧ 1 ≤ c.toNat ∧ c.toNat ≤ 4 ∨ 4 ≤ p.val ∧ p.val < 7 ∧ c = 5#8 ∨ p = 7 ∧ c = 6#8)))) ∧
(∃ (st : Fin 4), (st ≠ 1)) ∧
(∃ (s : State) (p : Fin 8), (s.on (K.portAdminUp p.val) = true ∧ (s.port p.val).reprog = false ∧ s.portHeld p.val = false ∧ (p = 7 →
      (s.port p.val).anDone = true))) ∧
(∃ (s : State) (p : Fin 8), (4 ≤ p.val ∧ p.val < 7 ∧ s.rd (K.portFlowControl p.val) = 1 ∧ (s.port p.val).bp = 0#8 ∧ s.pressed p.val ≠
      0#8)) ∧
(∃ (s : State) (p : Fin 8), (4 ≤ p.val ∧ p.val < 7 ∧ s.rd (K.portFlowControl p.val) = 1 ∧ (s.port p.val).bp ≠ 0#8 ∧ s.pressed p.val =
      0#8)) ∧
(∃ (s : State) (p : Fin 8), (4 ≤ p.val ∧ p.val < 7 ∧ s.rd (K.portFlowControl p.val) = 2 ∧ (s.port p.val).bp ≠ s.pressed p.val)) ∧
(∃ (s : State) (p : Fin 8), (4 ≤ p.val ∧ p.val < 7 ∧ s.rd (K.portFlowControl p.val) = 2 ∧ (s.port p.val).bp ≠ 0#8)) ∧
(∃ (s : State) (p : Fin 8), (p.val < 4 ∧ s.on (K.portPreemptEnable p.val) = true ∧ s.on (K.portVerifyDisable p.val) = false ∧ (s.rd
      (K.portVerifyStatus p.val) = 1 ∨ s.rd (K.portVerifyStatus p.val) = 2) ∧ (s.port p.val).verifyTries < 3)) ∧
(∃ (s : State) (p : Fin 8), (p.val < 4 ∧ s.on (K.portPreemptEnable p.val) = true ∧ s.on (K.portVerifyDisable p.val) = false ∧ (s.rd
      (K.portVerifyStatus p.val) = 1 ∨ s.rd (K.portVerifyStatus p.val) = 2) ∧ 3 ≤ (s.port p.val).verifyTries)) :=
  ⟨⟨s_alu 3, 0, 0x01#8, by decide +kernel⟩,
    ⟨s_alu 3, 0, 0x02#8, by decide +kernel⟩,
    ⟨0, 0x00#8, by decide +kernel⟩,
    ⟨0, by decide +kernel⟩,
    ⟨s_adm 3, 0, by decide +kernel⟩,
    ⟨s_press, 5, by decide +kernel⟩,
    ⟨s_bp 5 1 3#8, 5, by decide +kernel⟩,
    ⟨s_bp 5 2 3#8, 5, by decide +kernel⟩,
    ⟨s_bp 5 2 3#8, 5, by decide +kernel⟩,
    ⟨s_pc 0, 3, by decide +kernel⟩,
    ⟨s_ver 1 5, 3, by decide +kernel⟩⟩

/-- States and operands that meet the hypotheses of `Obligations.FramesAreParsedAndClassified`, clause by clause. -/
theorem witness_FramesAreParsedAndClassified :
(∃ (s : State) (p : Fin 8) (f : RxFrame) (r : List RxFrame), ((s.port p.val).rxQ = f :: r ∧ (p ≠ 7 ∨ s.bio.inject = [] ∨ s.bio.injectTurn
      = false))) ∧
(∃ (s : State) (p : Fin 8) (f : RxFrame) (r : List RxFrame) (g : RxFrame) (q : List RxFrame), ((s.port p.val).rxQ = f :: r ∧ p = 7 ∧
      s.bio.inject = g :: q ∧ s.bio.injectTurn = true)) ∧
(∃ (s : State) (p : Fin 8) (q : Parsed) (r : List Parsed), (s.parsedQ p.val = q :: r ∧ 2 ≤ q.status ∧ bit (s.rd K.prsParseFailAction)
      q.status = 0)) ∧
(∃ (s : State) (p : Fin 8) (q : Parsed) (r : List Parsed), (s.parsedQ p.val = q :: r ∧ q.status ≤ 1 ∧ s.isUdaFrame (p.val) (s.frameBytes
      q.firstCell q.length) q = false ∧ s.ruleErrors (westPort p.val) = [] ∧ s.ruleFind (westPort p.val) (s.searchKey (p.val)
      (s.frameBytes q.firstCell q.length) q) = none)) ∧
(∃ (s : State) (p : Fin 8) (q : Parsed) (r : List Parsed) (ix : Nat) (rule : Rule), (s.parsedQ p.val = q :: r ∧ q.status ≤ 1 ∧
      s.isUdaFrame (p.val) (s.frameBytes q.firstCell q.length) q = false ∧ s.ruleErrors (westPort p.val) = [] ∧ s.ruleFind (westPort
      p.val) (s.searchKey (p.val) (s.frameBytes q.firstCell q.length) q) = some (ix, rule) ∧ actVerdict (tget Rule.zero s.pc.rules
      ix).action = 1)) ∧
(∃ (s : State) (p : Fin 8) (q : Parsed) (r : List Parsed) (ix : Nat) (rule : Rule), (s.parsedQ p.val = q :: r ∧ q.status ≤ 1 ∧
      s.isUdaFrame (p.val) (s.frameBytes q.firstCell q.length) q = false ∧ s.ruleErrors (westPort p.val) = [] ∧ s.ruleFind (westPort
      p.val) (s.searchKey (p.val) (s.frameBytes q.firstCell q.length) q) = some (ix, rule) ∧ actVerdict (tget Rule.zero s.pc.rules
      ix).action = 0 ∧ actLookup (tget Rule.zero s.pc.rules ix).action = false ∧ actLearn (tget Rule.zero s.pc.rules ix).action = false ∧
      bit (s.rd (K.prsScanClassMask (actFlow (tget Rule.zero s.pc.rules ix).action / 64))) (actFlow (tget Rule.zero s.pc.rules ix).action
      % 64) = 0 ∧ s.outQ p.val = [] ∧ s.safeState = false)) ∧
(∃ (n : BitVec 8) (prof : BitVec 8), (1 ≤ n.toNat ∧ n.toNat ≤ 15 ∧ prof.toNat ≤ 15)) ∧
(∃ (n : BitVec 8) (a : Nat) (b : Nat) (c : Nat) (d : Nat) (e : Nat) (f : Nat) (g : Nat) (l : Option Nat), (64 ≤ n.toNat ∧ n.toNat ≤ 127 ∧
      1 ≤ f ∧ f ≤ 32 ∧ e ≤ 4095 ∧ g ≤ 15 ∧ ((∃ k, l = some k ∧ 1 ≤ k ∧ k ≤ 256) ∨ l = none ∧ 1 ≤ b ∧ b ≤ 16 ∧ c ∈ [1, 2, 4, 8] ∧ d ≤ 255 ∧
      a ≤ 4095))) ∧
(∃ (k : BitVec 16) (frm : BitVec 8) (dest : BitVec 8), (k.toNat < 1024 ∧ (1 ≤ frm.toNat ∧ frm.toNat ≤ 15 ∨ 64 ≤ frm.toNat ∧ frm.toNat ≤
      127) ∧ (64 ≤ dest.toNat ∧ dest.toNat ≤ 127 ∨ 64 ≤ frm.toNat ∧ 1 ≤ dest.toNat ∧ dest.toNat ≤ 15))) ∧
(∃ (image : List Byte), ((image.length ≠ 128 ∨ ∃ i, i < 16 ∧ extractOk (leAt image (8 * i) 8) = false))) ∧
(∃ (act : BitVec 32), (actOk act = true)) ∧
(∃ (act : BitVec 32), (actOk act = false)) :=
  ⟨⟨s_inj false, 7, (((s_inj false).port 7).rxQ).head (by decide +kernel), [], by decide +kernel⟩,
    ⟨s_inj true, 7, (((s_inj true).port 7).rxQ).head (by decide +kernel), [], ((s_inj true).bio.inject).head (by decide +kernel), [],
      by decide +kernel⟩,
    ⟨s_pc 3, 3, ((s_pc 3).parsedQ 3).head (by decide +kernel), ((s_pc 3).parsedQ 3).tail, by decide +kernel⟩,
    ⟨s_cls fun _ => [], 3, ((s_cls fun _ => []).parsedQ 3).head (by decide +kernel), ((s_cls fun _ => []).parsedQ 3).tail, by decide +kernel⟩,
    ⟨s_cls fun _ => [(5, { Rule.zero with valid := true, action := 0x2D0000C0#32 })], 3, ((s_cls fun _ => [(5,
      { Rule.zero with valid := true, action := 0x2D0000C0#32 })]).parsedQ 3).head (by decide +kernel), ((s_cls fun _ => [(5,
      { Rule.zero with valid := true, action := 0x2D0000C0#32 })]).parsedQ 3).tail, 5, (((s_cls fun _ => [(5,
      { Rule.zero with valid := true, action := 0x2D0000C0#32 })]).ruleFind (westPort 3) ((s_cls fun _ => [(5,
      { Rule.zero with valid := true, action := 0x2D0000C0#32 })]).searchKey (3) ((s_cls fun _ => [(5,
      { Rule.zero with valid := true, action := 0x2D0000C0#32 })]).frameBytes (((s_cls fun _ => [(5,
      { Rule.zero with valid := true, action := 0x2D0000C0#32 })]).parsedQ 3).head (by decide +kernel)).firstCell (((s_cls fun _ => [(5,
      { Rule.zero with valid := true, action := 0x2D0000C0#32 })]).parsedQ 3).head (by decide +kernel)).length) (((s_cls fun _ => [(5,
      { Rule.zero with valid := true, action := 0x2D0000C0#32 })]).parsedQ 3).head (by decide +kernel)))).get (by decide +kernel)).2,
      by decide +kernel⟩,
    ⟨s_pc 0, 3, ((s_pc 0).parsedQ 3).head (by decide +kernel), ((s_pc 0).parsedQ 3).tail, 5, (((s_pc 0).ruleFind (westPort 3) ((s_pc
      0).searchKey (3) ((s_pc 0).frameBytes (((s_pc 0).parsedQ 3).head (by decide +kernel)).firstCell (((s_pc 0).parsedQ 3).head
      (by decide +kernel)).length) (((s_pc 0).parsedQ 3).head (by decide +kernel)))).get (by decide +kernel)).2, by decide +kernel⟩,
    ⟨0x01#8, 0x00#8, by decide +kernel⟩,
    ⟨0x40#8, 0, 0, 0, 0, 0, 1, 0, some 1, by decide +kernel⟩,
    ⟨0x0000#16, 0x01#8, 0x40#8, by decide +kernel⟩,
    ⟨[], by decide +kernel⟩,
    ⟨0x00000000#32, by decide +kernel⟩,
    ⟨0x00000007#32, by decide +kernel⟩⟩

/-- States and operands that meet the hypotheses of `Obligations.ThreadsAndClustersAreServed`, clause by clause. -/
theorem witness_ThreadsAndClustersAreServed :
(∃ (s : State) (t : Fin 512) (i : Item), ((s.thread t.val).item = some i ∧ (s.thread t.val).st ≠ TState.ending ∧ (s.thread t.val).wdFrom +
      (s.thread t.val).wdLimit + 1 ≤ s.wdStrobe)) ∧
(∃ (s : State) (q : Fin 32), (s.lockstep (2 * q.val) = true ∧ s.coreOut (2 * q.val) = false)) ∧
(∃ (v : BitVec 8), (v.toNat < 4)) ∧
(∃ (v : BitVec 8), (4 ≤ v.toNat)) ∧
(∃ (s : State) (n : Fin 16), (¬n.val ∈ s.boot.avsWait)) ∧
(∃ (s : State) (n : Fin 16), (s.rd (K.bankSwitchState n.val) ≠ 1 ∧ tget false s.boot.codeOk (2 * n.val + (1 - s.activeBank n.val)) =
      true)) ∧
(∃ (s : State) (n : Fin 16), (s.rd (K.bankSwitchState n.val) = 1 ∧ s.oldBankItems n.val = 0)) :=
  ⟨⟨s_q, 3,
      { kind := Sys2Proof.Machine.ItemKind.posted, level := 2, affinity := 0xffff#16, tag := 0x00000007#32, journal := 0, list := 0, enq := 0 },
      by decide +kernel⟩,
    ⟨s_alu 3, 0, by decide +kernel⟩,
    ⟨0x00#8, by decide +kernel⟩,
    ⟨0x05#8, by decide +kernel⟩,
    ⟨s_alu 3, 0, by decide +kernel⟩,
    ⟨s_sw, 0, by decide +kernel⟩,
    ⟨s_sw, 2, by decide +kernel⟩⟩

/-- States and operands that meet the hypotheses of `Obligations.StoresWriteTheirBytes`, clause by clause. -/
theorem witness_StoresWriteTheirBytes :
(∃ (s : State) (t : Fin 580) (rd : Fin 32) (ra : Fin 32) (imm : BitVec 16), ((1 = 8 → rd.val % 2 = 0) ∧ t.val < 512 ∧ BitVec.toNat
      ((s.thread t.val).reg ra.val + BitVec.signExtend 32 imm) + 1 ≤ 63488 ∧ BitVec.toNat ((s.thread t.val).reg ra.val + BitVec.signExtend
      32 imm) % 1 = 0 ∧ (s.core (coreOf t.val)).sb.length < 8) ∧ s.CanIssue (t.val) (Instr.sb t rd ra imm)) ∧
(∃ (s : State) (t : Fin 580) (rd : Fin 32) (ra : Fin 32) (imm : BitVec 16), ((1 = 8 → rd.val % 2 = 0) ∧ 512 ≤ t.val ∧ BitVec.toNat
      ((s.thread t.val).reg ra.val + BitVec.signExtend 32 imm) + 1 ≤ ramTop t.val ∧ BitVec.toNat ((s.thread t.val).reg ra.val +
      BitVec.signExtend 32 imm) % 1 = 0 ∧ (s.mergeRam (t.val) (BitVec.toNat ((s.thread t.val).reg ra.val + BitVec.signExtend 32 imm))
      (toLE 1 (BitVec.toNat ((s.thread t.val).reg rd.val) + if 1 = 8 then BitVec.toNat ((s.thread t.val).reg (rd.val + 1)) * 2 ^ 32 else
      0)) = none)) ∧ s.CanIssue (t.val) (Instr.sb t rd ra imm)) ∧
(∃ (s : State) (t : Fin 580) (rd : Fin 32) (ra : Fin 32) (imm : BitVec 16), ((1 = 8 → rd.val % 2 = 0) ∧ t.val < 512 ∧ 131072 ≤
      BitVec.toNat ((s.thread t.val).reg ra.val + BitVec.signExtend 32 imm) ∧ BitVec.toNat ((s.thread t.val).reg ra.val +
      BitVec.signExtend 32 imm) + 1 ≤ 393216 ∧ BitVec.toNat ((s.thread t.val).reg ra.val + BitVec.signExtend 32 imm) % 1 = 0 ∧ (1 < 4 →
      s.badIn (memKey Space.shared (262144 * clusterOf t.val + (BitVec.toNat ((s.thread t.val).reg ra.val + BitVec.signExtend 32 imm) -
      131072))) 1 = none)) ∧ s.CanIssue (t.val) (Instr.sb t rd ra imm)) ∧
(∃ (s : State) (t : Fin 580) (rd : Fin 32) (ra : Fin 32) (imm : BitVec 16), ((4 = 8 → rd.val % 2 = 0) ∧ 4 ≤ 4 ∧ 536870912 ≤ BitVec.toNat
      ((s.thread t.val).reg ra.val + BitVec.signExtend 32 imm) ∧ BitVec.toNat ((s.thread t.val).reg ra.val + BitVec.signExtend 32 imm) + 4
      ≤ 536936448 ∧ BitVec.toNat ((s.thread t.val).reg ra.val + BitVec.signExtend 32 imm) % 4 = 0 ∧ (4 = 8 ∨ ¬(BitVec.toNat ((s.thread
      t.val).reg ra.val + BitVec.signExtend 32 imm) - 536870912) / 8 ∈ s.rdv.badAtomic) ∧ s.toDx (crossOf t.val) = []) ∧ s.CanIssue
      (t.val) (Instr.sw t rd ra imm)) ∧
(∃ (s : State) (t : Fin 580) (rd : Fin 32) (ra : Fin 32) (imm : BitVec 16), ((1 = 8 → rd.val % 2 = 0) ∧ t.val < 512 ∧ 65536 ≤ BitVec.toNat
      ((s.thread t.val).reg ra.val + BitVec.signExtend 32 imm) ∧ BitVec.toNat ((s.thread t.val).reg ra.val + BitVec.signExtend 32 imm) -
      65536 + 1 ≤ s.windowBytes t.val ∧ s.windowBytes t.val ≤ 256 ∧ (s.thread t.val).wbad = []) ∧ s.CanIssue (t.val) (Instr.sb t rd ra
      imm)) ∧
(∃ (s : State) (c : Fin 64) (e : SbEntry) (r : List SbEntry), ((s.core c.val).sb = e :: r ∧ s.mergeRam e.tid e.addr e.data = none)) ∧
(∃ (t : Nat), (t < 512)) :=
  ⟨⟨code 3 (Instr.sb 3 0 0 (0x0000#16)) (s_sb), 3, 0, 0, 0x0000#16, by decide +kernel, canIssue_of (by decide +kernel)⟩,
    ⟨s_alu 576, 576, 0, 0, 0x0000#16, by decide +kernel, canIssue_of (by decide +kernel)⟩,
    ⟨code 3 (Instr.sb 3 0 4 (0x0000#16)) (s_sb), 3, 0, 4, 0x0000#16, by decide +kernel, canIssue_of (by decide +kernel)⟩,
    ⟨s_mem 576, 576, 0, 5, 0x0000#16, by decide +kernel, canIssue_of (by decide +kernel)⟩,
    ⟨code 3 (Instr.sb 3 0 2 (0x0000#16)) (s_sb), 3, 0, 2, 0x0000#16, by decide +kernel, canIssue_of (by decide +kernel)⟩,
    ⟨s_sb, 0, { addr := 260, data := [0x01#8, 0x02#8, 0x03#8, 0x04#8], tid := 3, seq := 0 },
      [{ addr := 272, data := [0x01#8], tid := 3, seq := 0 }], by decide +kernel⟩,
    ⟨0, by decide +kernel⟩⟩

/-- States and operands that meet the hypotheses of `Obligations.EventBitsWakeAndSubscribe`, clause by clause. -/
theorem witness_EventBitsWakeAndSubscribe :
(∃ (s : State) (t : Fin 580) (ra : Fin 32) (p : Fin 2), (BitVec.toNat ((s.thread t.val).reg ra.val) < 1024 ∧ (s.eventOpen (BitVec.toNat
      ((s.thread t.val).reg ra.val)) = true ∨ s.member (BitVec.toNat ((s.thread t.val).reg ra.val) / 64) t.val = true) ∧ (s.evbit
      (BitVec.toNat ((s.thread t.val).reg ra.val))).waiters = [] ∧ ((List.all s.rdv.subs fun kl => !kl.snd.contains (BitVec.toNat
      ((s.thread t.val).reg ra.val))) = true) ∧ s.rp (t.val) (s.thread t.val).second p.val = Rp.empty ∧ s.toDx (crossOf t.val) = []) ∧
      s.CanIssue (t.val) (Instr.evset t ra p)) ∧
(∃ (s : State) (t : Fin 580) (ra : Fin 32) (p : Fin 2), (BitVec.toNat ((s.thread t.val).reg ra.val) < 1024 ∧ (s.eventOpen (BitVec.toNat
      ((s.thread t.val).reg ra.val)) = true ∨ s.member (BitVec.toNat ((s.thread t.val).reg ra.val) / 64) t.val = true) ∧ s.rp (t.val)
      (s.thread t.val).second p.val = Rp.empty ∧ s.toDx (crossOf t.val) = []) ∧ s.CanIssue (t.val) (Instr.evclr t ra p)) ∧
(∃ (s : State) (t : Fin 580) (ra : Fin 32) (rb : Fin 32) (p : Fin 2), (BitVec.toNat ((s.thread t.val).reg ra.val) < 1024 ∧ (s.eventOpen
      (BitVec.toNat ((s.thread t.val).reg ra.val)) = true ∨ s.member (BitVec.toNat ((s.thread t.val).reg ra.val) / 64) t.val = true) ∧
      (s.evbit (BitVec.toNat ((s.thread t.val).reg ra.val))).value = true ∧ s.rp (t.val) (s.thread t.val).second p.val = Rp.empty ∧ s.toDx
      (crossOf t.val) = []) ∧ s.CanIssue (t.val) (Instr.evwait t ra rb p)) ∧
(∃ (s : State) (t : Fin 580) (ra : Fin 32) (rb : Fin 32) (p : Fin 2), (BitVec.toNat ((s.thread t.val).reg ra.val) < 1024 ∧ (s.eventOpen
      (BitVec.toNat ((s.thread t.val).reg ra.val)) = true ∨ s.member (BitVec.toNat ((s.thread t.val).reg ra.val) / 64) t.val = true) ∧
      (s.evbit (BitVec.toNat ((s.thread t.val).reg ra.val))).value = false ∧ s.rp (t.val) (s.thread t.val).second p.val = Rp.empty ∧
      s.toDx (crossOf t.val) = []) ∧ s.CanIssue (t.val) (Instr.evwait t ra rb p)) ∧
(∃ (s : State) (t : Fin 580) (ra : Fin 32) (p : Fin 2), (BitVec.toNat ((s.thread t.val).reg ra.val) < 1024 ∧ (s.eventOpen (BitVec.toNat
      ((s.thread t.val).reg ra.val)) = true ∨ s.member (BitVec.toNat ((s.thread t.val).reg ra.val) / 64) t.val = true) ∧ ¬BitVec.toNat
      ((s.thread t.val).reg ra.val) ∈ s.subsOf (t.val) (s.thread t.val).second ∧ (s.subsOf (t.val) (s.thread t.val).second).length < 8 ∧
      s.rp (t.val) (s.thread t.val).second p.val = Rp.empty ∧ s.toDx (crossOf t.val) = []) ∧ s.CanIssue (t.val) (Instr.evsub t ra p)) :=
  ⟨⟨s_alu 576, 576, 0, 0, by decide +kernel, canIssue_of (by decide +kernel)⟩,
    ⟨s_alu 576, 576, 0, 0, by decide +kernel, canIssue_of (by decide +kernel)⟩,
    ⟨code 3 (Instr.evwait 3 1 0 0) (s_ev 3 ⟨true, []⟩ [5]), 3, 1, 0, 0, by decide +kernel, canIssue_of (by decide +kernel)⟩,
    ⟨s_alu 576, 576, 0, 0, 0, by decide +kernel, canIssue_of (by decide +kernel)⟩,
    ⟨s_alu 576, 576, 0, 0, by decide +kernel, canIssue_of (by decide +kernel)⟩⟩

/-- States and operands that meet the hypotheses of `Obligations.SoundingTestsAndRepairs`, clause by clause. -/
theorem witness_SoundingTestsAndRepairs :
(∃ (s : State), ((s.rd K.sndSoundingEnable = 0 ∨ ∃ t, s.snd.passAt = some t ∧ s.now < t + s.rd K.sndMemoryPassPeriod * 1000000000))) ∧
(∃ (s : State), ((s.rd K.sndSoundingEnable = 0 ∨ s.snd.pass = none))) ∧
(∃ (s : State), ((s.rd K.sndSoundingEnable = 0 ∨ s.snd.slice ≠ none ∨ s.now < s.snd.sliceAt + s.rd K.sndLogicSliceInterval * 1000000))) ∧
(∃ (s : State), (s.rd K.sndSoundingEnable ≠ 0 ∧ (s.snd.passAt = none ∨ ∃ t, s.snd.passAt = some t ∧ t + s.rd K.sndMemoryPassPeriod *
      1000000000 ≤ s.now) ∧ s.snd.pass = none)) ∧
(∃ (s : State) (p : Nat × Nat), (s.rd K.sndSoundingEnable ≠ 0 ∧ (s.snd.passAt = none ∨ ∃ t, s.snd.passAt = some t ∧ t + s.rd
      K.sndMemoryPassPeriod * 1000000000 ≤ s.now) ∧ s.snd.pass = some p)) ∧
(∃ (s : State) (pos : Nat) (k : Nat) (m : TestMem) (inst : Nat) (w : Fin 64) (b : Fin 256), (s.rd K.sndSoundingEnable ≠ 0 ∧ s.snd.pass =
      some (pos, k) ∧ instanceAt testMems pos = some (m, inst) ∧ b.val < m.width ∧ 64 * k + w.val < m.wordsOf inst ∧ tget 0 s.snd.spares
      (256 * m.id + inst) < m.spares)) ∧
(∃ (s : State) (pos : Nat) (k : Nat) (m : TestMem) (inst : Nat) (w : Fin 64) (b : Fin 256), (s.rd K.sndSoundingEnable ≠ 0 ∧ s.snd.pass =
      some (pos, k) ∧ instanceAt testMems pos = some (m, inst) ∧ b.val < m.width ∧ 64 * k + w.val < m.wordsOf inst ∧ m.spares ≤ tget 0
      s.snd.spares (256 * m.id + inst))) ∧
(∃ (s : State) (c : Nat), (s.rd K.sndSoundingEnable ≠ 0 ∧ s.snd.slice = none ∧ s.snd.sliceAt + s.rd K.sndLogicSliceInterval * 1000000 ≤
      s.now ∧ s.nextCore = some c)) ∧
(∃ (s : State), (s.rd K.sndSoundingEnable ≠ 0 ∧ s.snd.slice = none ∧ s.snd.sliceAt + s.rd K.sndLogicSliceInterval * 1000000 ≤ s.now ∧
      s.nextCore = none)) ∧
(∃ (s : State) (c : Fin 64), (s.snd.slice = none ∧ ¬c.val ∈ s.snd.offer)) ∧
(∃ (s : State) (c : Fin 64), (s.snd.slice = none ∧ c.val ∈ s.snd.offer ∧ s.drained c.val = true)) ∧
(∃ (s : State) (c : Fin 64) (x : Nat × Nat), (s.snd.slice = some x ∧ x ≠ (c.val, 0))) ∧
(∃ (s : State) (c : Fin 64), (s.snd.slice = some (c.val, 0) ∧ s.drained c.val = true)) ∧
(∃ (s : State) (c : Fin 64), (s.snd.slice = some (c.val, 0) ∧ (s.drained c.val = true ∨ s.now < s.snd.sliceAt + s.rd K.sndDrainLimit *
      1000))) ∧
(∃ (s : State) (c : Fin 64), (s.snd.slice = some (c.val, 0) ∧ s.drained c.val = false ∧ s.snd.sliceAt + s.rd K.sndDrainLimit * 1000 ≤
      s.now)) ∧
(∃ (s : State) (c : Fin 64), (s.snd.slice = some (c.val, 1) ∧ s.coreOut c.val = false)) ∧
(∃ (s : State) (c : Fin 64), (s.snd.slice = some (c.val, 1) ∧ s.coreOut c.val = true)) ∧
(∃ (s : State) (c : Fin 64), (s.snd.slice = some (c.val, 1) ∧ s.snd.failed = false)) ∧
(∃ (s : State) (c : Fin 64), (s.snd.slice = some (c.val, 2) ∧ s.snd.failed = true)) ∧
(∃ (s : State), (∀ (c : Nat), s.snd.slice ≠ some (c, 0))) ∧
(∃ (s : State), ((s.life = 1 ∨ s.life = 4) ∧ s.bin.zeroWait = none ∧ s.otpWriting = false ∧ s.boot.asserted = false)) ∧
(∃ (s : State), ((s.life = 1 ∨ s.life = 4) ∧ (s.bin.zeroWait ≠ none ∨ s.otpWriting = true) ∧ s.boot.asserted = false)) ∧
(∃ (s : State), ((s.life = 1 ∨ s.life = 4) ∧ s.boot.asserted = true)) ∧
(∃ (s : State), (s.life ≠ 1 ∧ s.life ≠ 4)) ∧
(∃ (s : State), ((s.boot.fullTest = false ∨ s.boot.asserted = true))) ∧
(∃ (s : State), (s.boot.fullTest = true ∧ s.boot.asserted = false)) :=
  ⟨⟨State.reset.wr K.sndSoundingEnable 0, by decide +kernel⟩,
    ⟨s_alu 3, by decide +kernel⟩,
    ⟨s_alu 3, by decide +kernel⟩,
    ⟨s_alu 3, by decide +kernel⟩,
    ⟨s_snd 0 fun x => { x with pass := some (0, 0) }, (0, 0), by decide +kernel⟩,
    ⟨s_snd 0 fun x => { x with pass := some (0, 0) }, 0, 0, { id := 1, count := 64, words := 98304, width := 64, granule := 32, spares := 4 },
      0, 0, 0, by decide +kernel⟩,
    ⟨s_snd 0 fun x => { x with pass := some (0, 0), spares := [(256, 100)] }, 0, 0,
      { id := 1, count := 64, words := 98304, width := 64, granule := 32, spares := 4 }, 0, 0, 0, by decide +kernel⟩,
    ⟨s_wd, 0, by decide +kernel⟩,
    ⟨sndCores [] (s_snd (10 ^ 14) id), by decide +kernel⟩,
    ⟨s_alu 3, 0, by decide +kernel⟩,
    ⟨s_snd 0 fun x => { x with offer := [3] }, 3, by decide +kernel⟩,
    ⟨s_snd 0 fun x => { x with slice := some (3, 0) }, 0, (3, 0), by decide +kernel⟩,
    ⟨s_snd 0 fun x => { x with slice := some (3, 0) }, 3, by decide +kernel⟩,
    ⟨s_snd 0 fun x => { x with slice := some (3, 0) }, 3, by decide +kernel⟩,
    ⟨busyT 24 (s_snd (10 ^ 14) fun x => { x with slice := some (3, 0) }), 3, by decide +kernel⟩,
    ⟨s_snd 0 fun x => { x with slice := some (3, 1) }, 3, by decide +kernel⟩,
    ⟨sndCores [3] (s_snd 0 fun x => { x with slice := some (3, 1), failed := true }), 3, by decide +kernel⟩,
    ⟨s_snd 0 fun x => { x with slice := some (3, 1) }, 3, by decide +kernel⟩,
    ⟨s_snd 0 fun x => { x with slice := some (3, 2), failed := true }, 3, by decide +kernel⟩,
    ⟨s_alu 3, sliceNone (by decide +kernel)⟩,
    ⟨s_lc 1, by decide +kernel⟩,
    ⟨(s_otp 1 fun b => { b with lcTarget := some 2 }), by decide +kernel⟩,
    ⟨({ s_lc 1 with boot := { State.reset.boot with asserted := true } } : State), by decide +kernel⟩,
    ⟨s_alu 3, by decide +kernel⟩,
    ⟨s_alu 3, by decide +kernel⟩,
    ⟨({ s_lc 1 with boot := { State.reset.boot with asserted := false, fullTest := true } } : State), by decide +kernel⟩⟩

/-- States and operands that meet the hypotheses of `Obligations.AssistUnitsAndBridgeServe`, clause by clause. -/
theorem witness_AssistUnitsAndBridgeServe :
(∃ (s : State) (b : Fin 64), (16 ≤ s.cop (512 + b.val) 1 0) ∧ s.CanIssue (512 + b.val) (Instr.rxpop b)) ∧
(∃ (s : State) (b : Fin 64), (s.cop (512 + b.val) 1 0 < 16 ∧ s.unitOwner (s.cop (512 + b.val) 1 0) ≠ 512 + b.val) ∧ s.CanIssue (512 +
      b.val) (Instr.rxpop b)) ∧
(∃ (s : State) (b : Fin 64), (s.cop (512 + b.val) 1 0 < 16 ∧ s.unitOwner (s.cop (512 + b.val) 1 0) = 512 + b.val ∧ (¬(s.cop (512 + b.val)
      1 2 < 128 ∧ 1 ≤ s.cop (512 + b.val) 1 2 % 64 ∧ s.cop (512 + b.val) 1 2 % 64 ≤ 32))) ∧ s.CanIssue (512 + b.val) (Instr.txpush b)) ∧
(∃ (s : State) (b : Fin 64), (s.cop (512 + b.val) 1 0 < 16 ∧ s.unitOwner (s.cop (512 + b.val) 1 0) = 512 + b.val ∧ s.cop (512 + b.val) 1 2
      < 128 ∧ 1 ≤ s.cop (512 + b.val) 1 2 % 64 ∧ s.cop (512 + b.val) 1 2 % 64 ≤ 32 ∧ 4 ≤ (s.unit_ (s.cop (512 + b.val) 1 0)).tx.length) ∧
      s.CanIssue (512 + b.val) (Instr.txpush b)) ∧
(∃ (s : State) (b : Fin 64), (s.cop (512 + b.val) 1 0 < 16 ∧ s.unitOwner (s.cop (512 + b.val) 1 0) = 512 + b.val ∧ s.cop (512 + b.val) 1 2
      < 128 ∧ 1 ≤ s.cop (512 + b.val) 1 2 % 64 ∧ s.cop (512 + b.val) 1 2 % 64 ≤ 32 ∧ (s.unit_ (s.cop (512 + b.val) 1 0)).tx.length < 4) ∧
      s.CanIssue (512 + b.val) (Instr.txpush b)) ∧
(∃ (s : State) (b : Fin 64) (w : Word) (n : Nat) (last : Bool) (r : List (Word × Nat × Bool)), (s.cop (512 + b.val) 1 0 < 16 ∧ s.unitOwner
      (s.cop (512 + b.val) 1 0) = 512 + b.val ∧ (s.unit_ (s.cop (512 + b.val) 1 0)).rx = (w, n, last) :: r) ∧ s.CanIssue (512 + b.val)
      (Instr.rxpop b)) ∧
(∃ (s : State) (b : Fin 64), (s.cop (512 + b.val) 1 0 < 16 ∧ s.unitOwner (s.cop (512 + b.val) 1 0) = 512 + b.val ∧ (s.unit_ (s.cop (512 +
      b.val) 1 0)).rx = []) ∧ s.CanIssue (512 + b.val) (Instr.rxpop b)) ∧
(∃ (s : State) (b : Fin 64), (s.cop (512 + b.val) 1 0 < 16 ∧ s.unitOwner (s.cop (512 + b.val) 1 0) = 512 + b.val ∧ (s.unit_ (s.cop (512 +
      b.val) 1 0)).crc = some false) ∧ s.CanIssue (512 + b.val) (Instr.ackarm b)) ∧
(∃ (s : State) (b : Fin 64), (s.cop (512 + b.val) 1 0 < 16 ∧ s.unitOwner (s.cop (512 + b.val) 1 0) = 512 + b.val ∧ ¬(s.unit_ (s.cop (512 +
      b.val) 1 0)).crc = some false) ∧ s.CanIssue (512 + b.val) (Instr.ackarm b)) ∧
(∃ (s : State) (b : Fin 64), (s.cop (512 + b.val) 1 0 < 16 ∧ s.unitOwner (s.cop (512 + b.val) 1 0) = 512 + b.val ∧ s.cop (512 + b.val) 1 3
      < 3) ∧ s.CanIssue (512 + b.val) (Instr.setstate b)) ∧
(∃ (s : State) (b : Fin 64), (s.cop (512 + b.val) 1 0 < 16 ∧ s.unitOwner (s.cop (512 + b.val) 1 0) = 512 + b.val ∧ ¬s.cop (512 + b.val) 1
      3 < 3) ∧ s.CanIssue (512 + b.val) (Instr.setstate b)) ∧
(∃ (s : State) (b : Fin 64), (s.cop (512 + b.val) 1 0 < 16 ∧ s.unitOwner (s.cop (512 + b.val) 1 0) = 512 + b.val ∧ (s.unit_ (s.cop (512 +
      b.val) 1 0)).sending = true) ∧ s.CanIssue (512 + b.val) (Instr.txabort b)) ∧
(∃ (s : State) (b : Fin 64), (s.cop (512 + b.val) 1 0 < 16 ∧ s.unitOwner (s.cop (512 + b.val) 1 0) = 512 + b.val ∧ ¬(s.unit_ (s.cop (512 +
      b.val) 1 0)).sending = true) ∧ s.CanIssue (512 + b.val) (Instr.txabort b)) ∧
(∃ (s : State) (b : Fin 64), ((¬(s.cop (512 + b.val) 2 0 < 8 ∧ s.rd (K.bchUpStream (s.cop (512 + b.val) 2 0)) < 8 ∧ s.on (K.bstrEnable
      (s.rd (K.bchUpStream (s.cop (512 + b.val) 2 0)))) = true ∧ s.cop (512 + b.val) 2 1 < 2 ^ 31 ∧ s.cop (512 + b.val) 2 2 < 8 ∧
      canLength (decide (bit (s.cop (512 + b.val) 2 2) 0 = 1)) (s.cop (512 + b.val) 2 3) = true ∧ s.cop (512 + b.val) 2 4 % 8 = 0 ∧ s.cop
      (512 + b.val) 2 4 + s.cop (512 + b.val) 2 3 ≤ 32768))) ∧ s.CanIssue (512 + b.val) (Instr.upsub b)) ∧
(∃ (s : State) (b : Fin 64), (s.cop (512 + b.val) 2 0 < 8 ∧ s.rd (K.bchUpStream (s.cop (512 + b.val) 2 0)) < 8 ∧ s.on (K.bstrEnable (s.rd
      (K.bchUpStream (s.cop (512 + b.val) 2 0)))) = true ∧ s.cop (512 + b.val) 2 1 < 2 ^ 31 ∧ s.cop (512 + b.val) 2 2 < 8 ∧ canLength
      (decide (bit (s.cop (512 + b.val) 2 2) 0 = 1)) (s.cop (512 + b.val) 2 3) = true ∧ s.cop (512 + b.val) 2 4 % 8 = 0 ∧ s.cop (512 +
      b.val) 2 4 + s.cop (512 + b.val) 2 3 ≤ 32768 ∧ ¬s.unitOwner (s.rd (K.bchUnit (s.cop (512 + b.val) 2 0))) = 512 + b.val) ∧ s.CanIssue
      (512 + b.val) (Instr.upsub b)) ∧
(∃ (s : State) (b : Fin 64), (s.cop (512 + b.val) 2 0 < 8 ∧ s.rd (K.bchUpStream (s.cop (512 + b.val) 2 0)) < 8 ∧ s.on (K.bstrEnable (s.rd
      (K.bchUpStream (s.cop (512 + b.val) 2 0)))) = true ∧ s.cop (512 + b.val) 2 1 < 2 ^ 31 ∧ s.cop (512 + b.val) 2 2 < 8 ∧ canLength
      (decide (bit (s.cop (512 + b.val) 2 2) 0 = 1)) (s.cop (512 + b.val) 2 3) = true ∧ s.cop (512 + b.val) 2 4 % 8 = 0 ∧ s.cop (512 +
      b.val) 2 4 + s.cop (512 + b.val) 2 3 ≤ 32768 ∧ s.unitOwner (s.rd (K.bchUnit (s.cop (512 + b.val) 2 0))) = 512 + b.val ∧ 64 ≤
      (s.upStream (s.rd (K.bchUpStream (s.cop (512 + b.val) 2 0)))).queue.length) ∧ s.CanIssue (512 + b.val) (Instr.upsub b)) ∧
(∃ (s : State) (b : Fin 64), (s.cop (512 + b.val) 2 0 < 8 ∧ s.rd (K.bchUpStream (s.cop (512 + b.val) 2 0)) < 8 ∧ s.on (K.bstrEnable (s.rd
      (K.bchUpStream (s.cop (512 + b.val) 2 0)))) = true ∧ s.cop (512 + b.val) 2 1 < 2 ^ 31 ∧ s.cop (512 + b.val) 2 2 < 8 ∧ canLength
      (decide (bit (s.cop (512 + b.val) 2 2) 0 = 1)) (s.cop (512 + b.val) 2 3) = true ∧ s.cop (512 + b.val) 2 4 % 8 = 0 ∧ s.cop (512 +
      b.val) 2 4 + s.cop (512 + b.val) 2 3 ≤ 32768 ∧ s.unitOwner (s.rd (K.bchUnit (s.cop (512 + b.val) 2 0))) = 512 + b.val ∧ (s.upStream
      (s.rd (K.bchUpStream (s.cop (512 + b.val) 2 0)))).queue.length < 64 ∧ ((s.upStream (s.rd (K.bchUpStream (s.cop (512 + b.val) 2
      0)))).queue = [] ∨ s.upLength (s.rd (K.bchUpStream (s.cop (512 + b.val) 2 0)))
      { chan := s.cop (512 + b.val) 2 0, canId := BitVec.ofNat 32 (s.cop (512 + b.val) 2 1), flags := BitVec.ofNat 3 (s.cop (512 + b.val) 2 2), payload := s.loadBytes Space.barrelData (32768 * (b.val / 16) + s.cop (512 + b.val) 2 4) (s.cop (512 + b.val) 2 3), ts := s.sofDomainTime (s.rd (K.bstrTsDomain (s.rd (K.bchUpStream (s.cop (512 + b.val) 2 0))))) (BitVec.ofNat 32 (s.cop (512 + b.val) 2 5)) }
      ≤ s.rd (K.bstrMaxFrameBytes (s.rd (K.bchUpStream (s.cop (512 + b.val) 2 0)))))) ∧ s.CanIssue (512 + b.val) (Instr.upsub b)) ∧
(∃ (s : State) (b : Fin 64), (s.cop (512 + b.val) 2 0 < 8 ∧ s.rd (K.bchUpStream (s.cop (512 + b.val) 2 0)) < 8 ∧ s.on (K.bstrEnable (s.rd
      (K.bchUpStream (s.cop (512 + b.val) 2 0)))) = true ∧ s.cop (512 + b.val) 2 1 < 2 ^ 31 ∧ s.cop (512 + b.val) 2 2 < 8 ∧ canLength
      (decide (bit (s.cop (512 + b.val) 2 2) 0 = 1)) (s.cop (512 + b.val) 2 3) = true ∧ s.cop (512 + b.val) 2 4 % 8 = 0 ∧ s.cop (512 +
      b.val) 2 4 + s.cop (512 + b.val) 2 3 ≤ 32768 ∧ s.unitOwner (s.rd (K.bchUnit (s.cop (512 + b.val) 2 0))) = 512 + b.val ∧ (s.upStream
      (s.rd (K.bchUpStream (s.cop (512 + b.val) 2 0)))).queue.length < 64 ∧ (s.upStream (s.rd (K.bchUpStream (s.cop (512 + b.val) 2
      0)))).queue ≠ [] ∧ s.rd (K.bstrMaxFrameBytes (s.rd (K.bchUpStream (s.cop (512 + b.val) 2 0)))) < s.upLength (s.rd (K.bchUpStream
      (s.cop (512 + b.val) 2 0)))
      { chan := s.cop (512 + b.val) 2 0, canId := BitVec.ofNat 32 (s.cop (512 + b.val) 2 1), flags := BitVec.ofNat 3 (s.cop (512 + b.val) 2 2), payload := s.loadBytes Space.barrelData (32768 * (b.val / 16) + s.cop (512 + b.val) 2 4) (s.cop (512 + b.val) 2 3), ts := s.sofDomainTime (s.rd (K.bstrTsDomain (s.rd (K.bchUpStream (s.cop (512 + b.val) 2 0))))) (BitVec.ofNat 32 (s.cop (512 + b.val) 2 5)) }
      ∧ s.rd (K.bstrBatchTimeout (s.rd (K.bchUpStream (s.cop (512 + b.val) 2 0)))) ≠ 0) ∧ s.CanIssue (512 + b.val) (Instr.upsub b)) ∧
(∃ (s : State) (b : Fin 64) (tt : Fin 580) (r : Fin 32) (n : Fin 4) (c : Fin 64), (tt.val = 512 + b.val ∧ copReg n.val c.val ≠ none ∧
      copReg n.val c.val = some true) ∧ s.CanIssue (512 + b.val) (Instr.mtc tt r n c)) ∧
(∃ (s : State) (b : Fin 64) (tt : Fin 580) (r : Fin 32) (n : Fin 4) (c : Fin 64), (tt.val = 512 + b.val ∧ copReg n.val c.val ≠ none ∧
      ¬hkey 0 n.val c.val ∈ (s.thread (512 + b.val)).hpend) ∧ s.CanIssue (512 + b.val) (Instr.mfc tt r n c)) ∧
(∃ (s : State) (b : Fin 64) (tt : Fin 580) (r : Fin 32) (n : Fin 4) (c : Fin 64), (tt.val = 512 + b.val ∧ copReg n.val c.val ≠ none ∧ hkey
      0 n.val c.val ∈ (s.thread (512 + b.val)).hpend) ∧ s.CanIssue (512 + b.val) (Instr.mfc tt r n c)) ∧
(∃ (s : State) (b : Fin 64) (r : Fin 32), s.CanIssue (512 + b.val) (Instr.dntailWrite b r)) ∧
(∃ (s : State) (v : Fin 16), (s.unitRuns v.val = false)) ∧
(∃ (s : State) (v : Fin 16), (s.unitRuns v.val = true ∧ ((s.unitBoundary v.val).unit_ v.val).rxDrop = false ∧ ((s.unitBoundary
      v.val).unit_ v.val).rx.length < 4 ∧ tget 0 s.bio.waits (4 * (s.unitOwner v.val - 512) + 1) ≠ 1 + v.val)) ∧
(∃ (s : State) (v : Fin 16), (s.unitRuns v.val = true ∧ ((s.unitBoundary v.val).unit_ v.val).rxDrop = false ∧ 4 ≤ ((s.unitBoundary
      v.val).unit_ v.val).rx.length)) ∧
(∃ (s : State) (v : Fin 16) (y : Word × Nat × Bool) (r : List (Word × Nat × Bool)), (s.unitRuns v.val = true ∧ ((s.unitBoundary
      v.val).unit_ v.val).tx = y :: r ∧ (r ≠ [] ∨ y.snd.snd = true))) ∧
(∃ (s : State) (v : Fin 16) (y : Word × Nat × Bool), (s.unitRuns v.val = true ∧ ((s.unitBoundary v.val).unit_ v.val).tx = [y] ∧ y.snd.snd
      = false)) ∧
(∃ (s : State) (v : Fin 16) (m : BitVec 32), (s.unitRuns v.val = true ∧ ((s.unitBoundary v.val).unit_ v.val).sending = false ∧
      ((s.unitBoundary v.val).unit_ v.val).armedAt = some m ∧ 4 ≤ (s.biTime - m).toNat)) ∧
(∃ (s : State) (v : Fin 16), (s.unitRuns v.val = true ∧ ((s.unitBoundary v.val).unit_ v.val).sending = false) ∧ (∀ (m : BitVec 32),
      ((s.unitBoundary v.val).unit_ v.val).armedAt = some m → (s.biTime - m).toNat < 4)) ∧
(∃ (s : State) (k : Fin 8), ((s.upStream k.val).queue ≠ [] ∧ (s.upStream k.val).since + s.rd (K.bstrBatchTimeout k.val) ≤ s.now)) ∧
(∃ (s : State) (k : Fin 8), (s.now < (s.upStream k.val).since + s.rd (K.bstrBatchTimeout k.val))) ∧
(∃ (s : State) (c : TmCopy) (r : List TmCopy), (s.tm.acfIn = c :: r ∧ acfSpan (s.copyBytes c) = none)) ∧
(∃ (s : State) (c : TmCopy) (r : List TmCopy) (o : Nat) (n : Nat), (s.tm.acfIn = c :: r ∧ acfSpan (s.copyBytes c) = some (o, n))) :=
  ⟨⟨code (512 + 0) (Instr.rxpop 0) (s_asst [(64, 16)] id), 0, by decide +kernel, canIssue_of (by decide +kernel)⟩,
    ⟨code (512 + 0) (Instr.rxpop 0) ((s_asst [(64, 4)] id)), 0, by decide +kernel, canIssue_of (by decide +kernel)⟩,
    ⟨code (512 + 0) (Instr.txpush 0) (s_up), 0, by decide +kernel, canIssue_of (by decide +kernel)⟩,
    ⟨code (512 + 0) (Instr.txpush 0) (s_asst [] fun a => { a with tx := List.replicate 4 aw }), 0, by decide +kernel, canIssue_of
      (by decide +kernel)⟩,
    ⟨code (512 + 0) (Instr.txpush 0) (s_asst [] id), 0, by decide +kernel, canIssue_of (by decide +kernel)⟩,
    ⟨code (512 + 0) (Instr.rxpop 0) (s_asst [] fun a => { a with rx := [aw], crc := some false, sending := true }), 0, 0x00000007#32, 32,
      false, [], by decide +kernel, canIssue_of (by decide +kernel)⟩,
    ⟨code (512 + 0) (Instr.rxpop 0) (s_up), 0, by decide +kernel, canIssue_of (by decide +kernel)⟩,
    ⟨code (512 + 0) (Instr.ackarm 0) (s_asst [] fun a => { a with rx := [aw], crc := some false, sending := true }), 0, by decide +kernel,
      canIssue_of (by decide +kernel)⟩,
    ⟨code (512 + 0) (Instr.ackarm 0) (s_up), 0, by decide +kernel, canIssue_of (by decide +kernel)⟩,
    ⟨code (512 + 0) (Instr.setstate 0) (s_up), 0, by decide +kernel, canIssue_of (by decide +kernel)⟩,
    ⟨code (512 + 0) (Instr.setstate 0) (s_asst [(67, 3)] id), 0, by decide +kernel, canIssue_of (by decide +kernel)⟩,
    ⟨code (512 + 0) (Instr.txabort 0) (s_asst [] fun a => { a with rx := [aw], crc := some false, sending := true }), 0, by decide +kernel,
      canIssue_of (by decide +kernel)⟩,
    ⟨code (512 + 0) (Instr.txabort 0) (s_up), 0, by decide +kernel, canIssue_of (by decide +kernel)⟩,
    ⟨code (512 + 0) (Instr.upsub 0) (s_up), 0, by decide +kernel, canIssue_of (by decide +kernel)⟩,
    ⟨code (512 + 0) (Instr.upsub 0) (s_upq [] 99 1000 0), 0, by decide +kernel, canIssue_of (by decide +kernel)⟩,
    ⟨code (512 + 0) (Instr.upsub 0) (s_upq [] 64 1000 0), 0, by decide +kernel, canIssue_of (by decide +kernel)⟩,
    ⟨code (512 + 0) (Instr.upsub 0) (s_upq [] 0 1000 0), 0, by decide +kernel, canIssue_of (by decide +kernel)⟩,
    ⟨code (512 + 0) (Instr.upsub 0) (s_upq [] 3 20 5), 0, by decide +kernel, canIssue_of (by decide +kernel)⟩,
    ⟨code (512 + 0) (Instr.mtc 512 0 0 0) (s_up), 0, 512, 0, 0, 0, by decide +kernel, canIssue_of (by decide +kernel)⟩,
    ⟨code (512 + 0) (Instr.mfc 512 0 0 0) (s_up), 0, 512, 0, 0, 0, by decide +kernel, canIssue_of (by decide +kernel)⟩,
    ⟨code (512 + 0) (Instr.mfc 512 0 1 32) ((s_asst [] id).setThread 512
      { (s_asst [] id).thread 512 with hpend := [hkey 0 1 32, hkey 0 1 33] }), 0, 512, 0, 1, 32, by decide +kernel, canIssue_of
      (by decide +kernel)⟩,
    ⟨code (512 + 0) (Instr.dntailWrite 0 0) (s_up), 0, 0, canIssue_of (by decide +kernel)⟩,
    ⟨s_alu 3, 0, by decide +kernel⟩,
    ⟨s_asst [] id, 0, by decide +kernel⟩,
    ⟨s_asst [] fun a => { a with rx := List.replicate 4 aw }, 0, by decide +kernel⟩,
    ⟨s_asst [] fun a => { a with tx := List.replicate 4 aw }, 0, (0x00000007#32, 32, false), [(0x00000007#32, 32, false), (0x00000007#32, 32,
      false), (0x00000007#32, 32, false)], by decide +kernel⟩,
    ⟨s_asst [] fun a => { a with tx := [aw] }, 0, (0x00000007#32, 32, false), by decide +kernel⟩,
    ⟨s_asst [] fun a => { a with armedAt := some 0xFFFFFF00#32 }, 0, 0xffffff00#32, by decide +kernel⟩,
    ⟨s_asst [] id, 0, by decide +kernel, optAll (by decide +kernel)⟩,
    ⟨s_batch, 0, by decide +kernel⟩,
    ⟨s_up, 0, by decide +kernel⟩,
    ⟨s_acf [1, 2, 3], ((s_acf [1, 2, 3]).tm.acfIn).head (by decide +kernel), [], by decide +kernel⟩,
    ⟨s_acf acfB, ((s_acf acfB).tm.acfIn).head (by decide +kernel), [], 26, 16, by decide +kernel⟩⟩

/-- States and operands that meet the hypotheses of `Obligations.UdaRequestsAreServed`, clause by clause. -/
theorem witness_UdaRequestsAreServed :
(∃ (s : State) (r : UdaReq) (rest : List UdaReq) (j : Nat) (items : List WItem), (s.uda.engineQ = r :: rest ∧ wellFormedMsg r.msg = true ∧
      rowOf r.msg = 19 ∧ hasMac r.msg = true ∧ s.findSession 2 (msgSession r.msg) = some j ∧ kmac256 (s.session j).kc (List.take (16 +
      msgLength r.msg) r.msg) 16 (ascii "CHATIA-UDA") = List.drop (16 + msgLength r.msg) r.msg ∧ ((s.session j).judge (msgSequence r.msg)
      = SeqVerdict.above ∨ (s.session j).judge (msgSequence r.msg) = SeqVerdict.within) ∧ s.pilotHolds j = false ∧ writeItemsIn (msgBody
      r.msg) = some items) ∧ (∀ (k : Nat), s.pilotHolds k = true ∨ (s.session k).waiting = [])) ∧
(∃ (s : State) (j : Fin 16) (key : Nat) (n : Nat) (got : List Byte) (at_ : Nat), ((s.session j.val).seg = some (key, n, got, at_))) ∧
(∃ (s : State) (m : List Word) (ms : List (List Word)), (s.rd K.udaUdaCanChannel ≠ 255 ∧ s.chanOpen (s.rd K.udaUdaCanReqChannel) = true ∧
      (s.rdvChan (s.rd K.udaUdaCanReqChannel)).msgs = m :: ms ∧ (s.rdvChan (s.rd K.udaUdaCanReqChannel)).senders = [])) :=
  ⟨⟨s_row 19 id id, ((s_row 19 id id).uda.engineQ).head (by decide +kernel), [], 3, [{ key := 2109442, ty := some 0, bytes := [0x01#8] }],
      by decide +kernel, noWaiting (by decide +kernel)⟩,
    ⟨s_seg, 3, 5, 9, [0x01#8], 4, by decide +kernel⟩,
    ⟨s_canq, [0x00000008#32, 0x00000004#32], [], by decide +kernel⟩⟩

/-- States and operands that meet the hypotheses of `Obligations.TamperAndZeroisation`, clause by clause. -/
theorem witness_TamperAndZeroisation :
(∃ (s : State) (d : Fin 7), (d = 6 ∧ (¬16 ≤ (List.filter (fun t => decide (s.now < t + 1000000000)) s.dram.failedAt).length))) ∧
(∃ (s : State) (d : Fin 7), ((d = 6 → 16 ≤ (List.filter (fun t => decide (s.now < t + 1000000000)) s.dram.failedAt).length) ∧ s.otpWriting
      = false ∧ s.rd (K.binTamperAction d.val) ≤ 2)) ∧
(∃ (s : State) (d : Fin 7), ((d = 6 → 16 ≤ (List.filter (fun t => decide (s.now < t + 1000000000)) s.dram.failedAt).length) ∧ s.otpWriting
      = true)) ∧
(∃ (s : State) (c : Nat), (s.bin.zeroWait = some c)) ∧
(∃ (s : State), (s.bin.zeroWait = none ∧ s.otpWriting = false)) ∧
(∃ (s : State), (s.bin.zeroWait = none ∧ s.otpWriting = true)) :=
  ⟨⟨s_alu 3, 6, by decide +kernel⟩,
    ⟨s_alu 3, 0, by decide +kernel⟩,
    ⟨(s_otp 0 fun b => { b with lcTarget := some 1 }), 0, by decide +kernel⟩,
    ⟨({ s_lc 1 with bin := { State.reset.bin with zeroWait := some 5 } } : State), 5, by decide +kernel⟩,
    ⟨s_alu 3, by decide +kernel⟩,
    ⟨(s_otp 0 fun b => { b with lcTarget := some 1 }), by decide +kernel⟩⟩

/-- States and operands that meet the hypotheses of `Obligations.QuotesAndExportsAreFormed`, clause by clause. -/
theorem witness_QuotesAndExportsAreFormed :
(∃ (s : State), (s.bin.quote ≠ none)) ∧
(∃ (s : State), (s.zeroised = true ∧ s.bin.quote = none)) ∧
(∃ (s : State), (s.zeroised = false ∧ (s.life = 0 ∨ s.life = 5) ∧ s.bin.quote = none)) ∧
(∃ (s : State), (s.zeroised = false ∧ s.life ≠ 0 ∧ s.life ≠ 5 ∧ s.bin.quote = none)) ∧
(∃ (s : State) (role : Fin 4), ((role.val < 3 ∨ s.life ≠ 1 ∧ s.life ≠ 4))) ∧
(∃ (s : State), (s.zeroised = false ∧ s.life ≠ 1 ∧ s.life ≠ 4)) ∧
(∃ (s : State), (s.zeroised = false ∧ (s.life = 1 ∨ s.life = 4) ∧ s.trngOk = false)) ∧
(∃ (s : State), (s.zeroised = false ∧ (s.life = 1 ∨ s.life = 4) ∧ s.trngOk = true)) :=
  ⟨⟨s_otp 1 fun b => { b with quote := some [1, 2] }, by decide +kernel⟩,
    ⟨s_zer (s_lc 1), by decide +kernel⟩,
    ⟨s_alu 3, by decide +kernel⟩,
    ⟨helloT, by decide +kernel⟩,
    ⟨s_alu 3, 0, by decide +kernel⟩,
    ⟨s_alu 3, by decide +kernel⟩,
    ⟨s_otp 1 fun b => { b with rngBad := true }, by decide +kernel⟩,
    ⟨s_lc 1, by decide +kernel⟩⟩

/-- States and operands that meet the hypotheses of `Obligations.DramServesAndKeepsItself`, clause by clause. -/
theorem witness_DramServesAndKeepsItself :
(∃ (s : State) (c : Fin 2), ((¬(s.rd K.dramDramState = 1 ∧ s.populated c.val = true ∧ 1 ≤ (s.dchan c.val).step ∧ (s.dchan c.val).step ≤
      7)))) ∧
(∃ (s : State) (c : Fin 2), (s.rd K.dramDramState = 1 ∧ s.populated c.val = true ∧ 1 ≤ (s.dchan c.val).step ∧ (s.dchan c.val).step < 7)) ∧
(∃ (s : State) (c : Fin 2), (s.rd K.dramDramState = 1 ∧ s.populated c.val = true ∧ (s.dchan c.val).step = 7)) ∧
(∃ (s : State) (c : Fin 2), (s.rd K.dramDramState = 1 ∧ s.populated c.val = true ∧ 1 ≤ (s.dchan c.val).step ∧ (s.dchan c.val).step ≤ 7 ∧
      (s.dchan c.val).tries < 3)) ∧
(∃ (s : State) (c : Fin 2), (s.rd K.dramDramState = 1 ∧ s.populated c.val = true ∧ 1 ≤ (s.dchan c.val).step ∧ (s.dchan c.val).step ≤ 7 ∧ 3
      ≤ (s.dchan c.val).tries)) ∧
(∃ (s : State) (r : Fin 8), (s.rd K.dramDramState = 2 ∧ s.rd (K.drgSize r.val) ≠ 0 ∧ s.rd (K.drgState r.val) = 0)) ∧
(∃ (s : State) (c : Fin 2), (s.rd (K.dchChannelState c.val) = 1 ∧ (s.dchan c.val).alert = false ∧ ((s.now :: List.filter (fun t => decide
      (s.now < t + 1000000)) (s.dchan c.val).alerts).length ≤ s.rd (K.dchRetryLimit c.val))) ∧ (∀ (t : Nat), (s.dchan c.val).highAt = some
      t → t ≠ s.now ∧ (s.dchan c.val).alerts.headD 0 + 2000 ≤ s.now)) ∧
(∃ (s : State) (c : Fin 2), (s.rd (K.dchChannelState c.val) = 1 ∧ (s.dchan c.val).alert = false ∧ (s.rd (K.dchRetryLimit c.val) < (s.now
      :: List.filter (fun t => decide (s.now < t + 1000000)) (s.dchan c.val).alerts).length ∨ (s.dchan c.val).highAt = some s.now))) ∧
(∃ (s : State) (c : Fin 2), (s.rd (K.dchChannelState c.val) = 1 ∧ (s.dchan c.val).alert = true)) ∧
(∃ (s : State) (c : Fin 2) (sub : Fin 2) (rank : Fin 2), (s.rd (K.dchChannelState c.val) = 1 ∧ rank.val < s.rd K.dramRanks ∧ (s.dchan
      c.val).alert = false ∧ (s.drank (rankKey c.val sub.val rank.val)).down = false ∧ (s.drank (rankKey c.val sub.val rank.val)).busyAt +
      s.clocksNs (s.rd (K.dchPowerDownIdle c.val)) < s.now + 8) ∧ (∀ (q : DramReq), q ∈ (s.dchan c.val).reads ++ (s.dchan c.val).writes →
      ¬(dramSub q.line = sub.val ∧ (s.dramPlace q.line).fst = rank.val))) ∧
(∃ (s : State) (c : Fin 2) (w : DramReq) (r : List DramReq), (s.rd (K.dchChannelState c.val) = 1 ∧ (s.dchan c.val).writes = w :: r ∧
      (s.dchan c.val).drain = false ∧ w.at_ + s.rd (K.dchWriteMaxAge c.val) ≤ s.now)) ∧
(∃ (s : State) (a : BitVec 36), (s.dramRefusal (a.toNat / 64 * 64) = none ∧ a.toNat / 64 * 64 ∈ s.dram.badEcc)) ∧
(∃ (s : State) (a : BitVec 36), (s.dramRefusal (a.toNat / 64 * 64) = none ∧ ¬a.toNat / 64 * 64 ∈ s.dram.badEcc ∧ a.toNat / 64 * 64 ∈
      s.dram.fixEcc)) ∧
(∃ (s : State) (a : BitVec 36), ((s.dramRefusal (a.toNat / 64 * 64) ≠ none ∨ ¬a.toNat / 64 * 64 ∈ s.dram.badEcc ∧ ¬a.toNat / 64 * 64 ∈
      s.dram.fixEcc))) ∧
(∃ (n : Fin 96), (n.val % 32 < 26)) ∧
(∃ (n : Fin 96), (¬n.val % 32 < 26)) ∧
(∃ (s : State) (a : BitVec 36) (st : Nat), (s.dram.fromOb = [] ∧ s.dram.fromPl = [] ∧ s.dramRefusal (a.toNat / 64 * 64) = some st)) ∧
(∃ (s : State) (a : BitVec 36) (w : Bool), (s.dram.fromOb = [] ∧ s.dram.fromPl = [] ∧ s.dramRefusal (a.toNat / 64 * 64) = none ∧ w = false
      ∧ (s.dchan (s.dramChannel a.toNat)).reads.length < 64)) ∧
(∃ (s : State) (a : BitVec 36) (w : Bool), (s.dram.fromOb = [] ∧ s.dram.fromPl = [] ∧ s.dramRefusal (a.toNat / 64 * 64) = none ∧ w = true
      ∧ (List.find? (fun x => decide (x.line = a.toNat / 64 * 64)) (s.dchan (s.dramChannel a.toNat)).writes = none) ∧ (s.dchan
      (s.dramChannel a.toNat)).writes.length < 64)) ∧
(∃ (s : State) (a : BitVec 36) (w : Bool) (v : DramReq), (s.dram.fromOb = [] ∧ s.dram.fromPl = [] ∧ s.dramRefusal (a.toNat / 64 * 64) =
      none ∧ w = true ∧ (List.find? (fun x => decide (x.line = a.toNat / 64 * 64)) (s.dchan (s.dramChannel a.toNat)).writes = some v))) ∧
(∃ (s : State) (a : BitVec 36) (w : Bool), (s.dram.fromOb = [] ∧ s.dram.fromPl = [] ∧ s.dramRefusal (a.toNat / 64 * 64) = none ∧ (w =
      false → 64 ≤ (s.dchan (s.dramChannel a.toNat)).reads.length) ∧ (w = true → List.find? (fun x => decide (x.line = a.toNat / 64 * 64))
      (s.dchan (s.dramChannel a.toNat)).writes = none ∧ 64 ≤ (s.dchan (s.dramChannel a.toNat)).writes.length))) ∧
(∃ (s : State) (c : Fin 2) (sub : Fin 2) (q : DramReq), (s.issuing c.val sub.val = true ∧ s.dram.fromOb = [] ∧ s.dram.fromPl = [] ∧
      ((s.dchan c.val).drain = false ∨ s.writeCands c.val sub.val = []) ∧ s.dramPick (c.val) (s.readCands c.val sub.val) = some q ∧ q.line
      ∈ s.dram.badEcc)) ∧
(∃ (s : State) (c : Fin 2) (sub : Fin 2) (q : DramReq), (s.issuing c.val sub.val = true ∧ s.dram.fromOb = [] ∧ s.dram.fromPl = [] ∧
      ((s.dchan c.val).drain = false ∨ s.writeCands c.val sub.val = []) ∧ s.dramPick (c.val) (s.readCands c.val sub.val) = some q ∧
      ¬q.line ∈ s.dram.badEcc ∧ s.regionKind q.line ≠ 0 ∧ q.line ∈ s.dram.badTag)) ∧
(∃ (s : State) (c : Fin 2) (sub : Fin 2) (q : DramReq), (s.issuing c.val sub.val = true ∧ s.dram.fromOb = [] ∧ s.dram.fromPl = [] ∧
      ((s.dchan c.val).drain = false ∨ s.writeCands c.val sub.val = []) ∧ s.dramPick (c.val) (s.readCands c.val sub.val) = some q ∧
      ¬q.line ∈ s.dram.badEcc ∧ (¬(s.regionKind q.line ≠ 0 ∧ q.line ∈ s.dram.badTag)))) ∧
(∃ (s : State) (c : Fin 2) (sub : Fin 2) (q : DramReq), (s.issuing c.val sub.val = true ∧ s.dram.fromOb = [] ∧ s.dram.fromPl = [] ∧
      ((s.dchan c.val).drain = true ∨ s.readCands c.val sub.val = []) ∧ s.dramPick (c.val) (s.writeCands c.val sub.val) = some q ∧
      q.bytes.length < 64 ∧ q.line ∈ s.dram.badEcc)) ∧
(∃ (s : State) (c : Fin 2) (sub : Fin 2) (q : DramReq), (s.issuing c.val sub.val = true ∧ s.dram.fromOb = [] ∧ s.dram.fromPl = [] ∧
      ((s.dchan c.val).drain = true ∨ s.readCands c.val sub.val = []) ∧ s.dramPick (c.val) (s.writeCands c.val sub.val) = some q ∧
      q.bytes.length < 64 ∧ ¬q.line ∈ s.dram.badEcc ∧ s.regionKind q.line ≠ 0 ∧ q.line ∈ s.dram.badTag)) ∧
(∃ (s : State) (c : Fin 2) (sub : Fin 2) (q : DramReq), (s.issuing c.val sub.val = true ∧ s.dram.fromOb = [] ∧ s.dram.fromPl = [] ∧
      ((s.dchan c.val).drain = true ∨ s.readCands c.val sub.val = []) ∧ s.dramPick (c.val) (s.writeCands c.val sub.val) = some q ∧
      (q.bytes.length < 64 → ¬q.line ∈ s.dram.badEcc ∧ ¬(s.regionKind q.line ≠ 0 ∧ q.line ∈ s.dram.badTag)) ∧ (¬∃ k, k ∈ s.counterChain
      q.line ∧ tget 0 s.dram.counters k = 2 ^ 56 - 1))) ∧
(∃ (image : List Byte), (image.length ≠ 64)) :=
  ⟨⟨s_alu 3, 0, by decide +kernel⟩,
    ⟨s_dram 1 { DramChan.zero with step := 3 }, 0, by decide +kernel⟩,
    ⟨s_dram 1 { DramChan.zero with step := 7 }, 0, by decide +kernel⟩,
    ⟨s_dram 1 { DramChan.zero with step := 3 }, 0, by decide +kernel⟩,
    ⟨s_dram 1 { DramChan.zero with step := 1, tries := 3 }, 0, by decide +kernel⟩,
    ⟨s_dreg, 0, by decide +kernel⟩,
    ⟨s_dreg, 0, by decide +kernel, optAll (by decide +kernel)⟩,
    ⟨s_dram 2 { DramChan.zero with highAt := some 100000 }, 0, by decide +kernel⟩,
    ⟨s_dram 2 { DramChan.zero with alert := true }, 0, by decide +kernel⟩,
    ⟨s_dreg, 0, 0, 0, by decide +kernel, memAll (by decide +kernel)⟩,
    ⟨s_dram 2 { DramChan.zero with reads := [rdq], writes := [wrq] }, 0, (((s_dram 2
      { DramChan.zero with reads := [rdq], writes := [wrq] }).dchan 0).writes).head (by decide +kernel), [], by decide +kernel⟩,
    ⟨s_dramX id fun d => { d with badEcc := [0, 64] }, 0x000000000#36, by decide +kernel⟩,
    ⟨s_dramX id fun d => { d with fixEcc := [0, 64] }, 0x000000000#36, by decide +kernel⟩,
    ⟨s_alu 3, 0x000000000#36, by decide +kernel⟩,
    ⟨0, by decide +kernel⟩,
    ⟨95, by decide +kernel⟩,
    ⟨s_alu 3, 0x000000000#36, 3, by decide +kernel⟩,
    ⟨s_dram 2 DramChan.zero, 0x000000000#36, false, by decide +kernel⟩,
    ⟨s_dram 2 DramChan.zero, 0x000000000#36, true, by decide +kernel⟩,
    ⟨s_dramX (fun c => { c with writes := [part] }) fun d => { d with badEcc := [64] }, 0x000000040#36, true,
      { requester := 3, line := 64, write := true, bytes := [(4, 0x07#8), (5, 0x08#8)], off := 0, size := 64, at_ := 5, overtaken := 0 },
      by decide +kernel⟩,
    ⟨s_dramX (fun c => { c with reads := List.replicate 64 rdq, writes := List.replicate 64 wrq }) id, 0x000000000#36, true,
      by decide +kernel⟩,
    ⟨s_dramX (fun c => { c with reads := [rdq] }) fun d => { d with badEcc := [64] }, 0, 1,
      { requester := 3, line := 64, write := false, bytes := [], off := 4, size := 8, at_ := 5, overtaken := 0 }, by decide +kernel⟩,
    ⟨s_dramK 1 (fun c => { c with reads := [rdq] }) fun d => { d with badTag := [64] }, 0, 1,
      { requester := 3, line := 64, write := false, bytes := [], off := 4, size := 8, at_ := 5, overtaken := 0 }, by decide +kernel⟩,
    ⟨s_dram 2 { DramChan.zero with reads := [rdq], writes := [wrq] }, 0, 1,
      { requester := 3, line := 64, write := false, bytes := [], off := 4, size := 8, at_ := 5, overtaken := 0 }, by decide +kernel⟩,
    ⟨s_dramX (fun c => { c with writes := [part] }) fun d => { d with badEcc := [64] }, 0, 1,
      { requester := 3, line := 64, write := true, bytes := [(4, 0x07#8), (5, 0x08#8)], off := 0, size := 64, at_ := 5, overtaken := 0 },
      by decide +kernel⟩,
    ⟨s_dramK 1 (fun c => { c with writes := [part] }) fun d => { d with badTag := [64] }, 0, 1,
      { requester := 3, line := 64, write := true, bytes := [(4, 0x07#8), (5, 0x08#8)], off := 0, size := 64, at_ := 5, overtaken := 0 },
      by decide +kernel⟩,
    ⟨s_dramK 2 (fun c => { c with writes := [part] }) id, 0, 1,
      { requester := 3, line := 64, write := true, bytes := [(4, 0x07#8), (5, 0x08#8)], off := 0, size := 64, at_ := 5, overtaken := 0 },
      by decide +kernel⟩,
    ⟨[], by decide +kernel⟩⟩

/-- States and operands that meet the hypotheses of `Obligations.BranchesAndJumpsGo`, clause by clause. -/
theorem witness_BranchesAndJumpsGo :
(∃ (s : State) (t : Fin 580) (ra : Fin 32) (rb : Fin 32) (off : BitVec 16), (¬(s.thread t.val).reg ra.val = (s.thread t.val).reg rb.val) ∧
      s.CanIssue (t.val) (Instr.beq t ra rb off)) ∧
(∃ (s : State) (t : Fin 580) (ra : Fin 32) (rb : Fin 32) (off : BitVec 16), ((s.thread t.val).reg ra.val = (s.thread t.val).reg rb.val ∧
      (BitVec.ofInt 32 (↑(s.thread t.val).pc + 4 * off.toInt)).toNat ≤ codeTop t.val) ∧ s.CanIssue (t.val) (Instr.beq t ra rb off)) ∧
(∃ (s : State) (t : Fin 580) (ra : Fin 32) (rb : Fin 32) (off : BitVec 16), ((s.thread t.val).reg ra.val = (s.thread t.val).reg rb.val ∧
      codeTop t.val < (BitVec.ofInt 32 (↑(s.thread t.val).pc + 4 * off.toInt)).toNat ∧ (s.thread t.val).sregs.tvec ≠ 0#32 ∧ (s.thread
      t.val).exl = false) ∧ s.CanIssue (t.val) (Instr.beq t ra rb off)) ∧
(∃ (s : State) (t : Fin 580) (ra : Fin 32) (rb : Fin 32) (off : BitVec 16), (¬(s.thread t.val).reg ra.val ≠ (s.thread t.val).reg rb.val) ∧
      s.CanIssue (t.val) (Instr.bne t ra rb off)) ∧
(∃ (s : State) (t : Fin 580) (ra : Fin 32) (rb : Fin 32) (off : BitVec 16), ((s.thread t.val).reg ra.val ≠ (s.thread t.val).reg rb.val ∧
      (BitVec.ofInt 32 (↑(s.thread t.val).pc + 4 * off.toInt)).toNat ≤ codeTop t.val) ∧ s.CanIssue (t.val) (Instr.bne t ra rb off)) ∧
(∃ (s : State) (t : Fin 580) (ra : Fin 32) (rb : Fin 32) (off : BitVec 16), ((s.thread t.val).reg ra.val ≠ (s.thread t.val).reg rb.val ∧
      codeTop t.val < (BitVec.ofInt 32 (↑(s.thread t.val).pc + 4 * off.toInt)).toNat ∧ (s.thread t.val).sregs.tvec ≠ 0#32 ∧ (s.thread
      t.val).exl = false) ∧ s.CanIssue (t.val) (Instr.bne t ra rb off)) ∧
(∃ (s : State) (t : Fin 580) (ra : Fin 32) (rb : Fin 32) (off : BitVec 16), (¬BitVec.toInt ((s.thread t.val).reg ra.val) < BitVec.toInt
      ((s.thread t.val).reg rb.val)) ∧ s.CanIssue (t.val) (Instr.blt t ra rb off)) ∧
(∃ (s : State) (t : Fin 580) (ra : Fin 32) (rb : Fin 32) (off : BitVec 16), (BitVec.toInt ((s.thread t.val).reg ra.val) < BitVec.toInt
      ((s.thread t.val).reg rb.val) ∧ (BitVec.ofInt 32 (↑(s.thread t.val).pc + 4 * off.toInt)).toNat ≤ codeTop t.val) ∧ s.CanIssue (t.val)
      (Instr.blt t ra rb off)) ∧
(∃ (s : State) (t : Fin 580) (ra : Fin 32) (rb : Fin 32) (off : BitVec 16), (BitVec.toInt ((s.thread t.val).reg ra.val) < BitVec.toInt
      ((s.thread t.val).reg rb.val) ∧ codeTop t.val < (BitVec.ofInt 32 (↑(s.thread t.val).pc + 4 * off.toInt)).toNat ∧ (s.thread
      t.val).sregs.tvec ≠ 0#32 ∧ (s.thread t.val).exl = false) ∧ s.CanIssue (t.val) (Instr.blt t ra rb off)) ∧
(∃ (s : State) (t : Fin 580) (ra : Fin 32) (rb : Fin 32) (off : BitVec 16), (¬BitVec.toInt ((s.thread t.val).reg rb.val) ≤ BitVec.toInt
      ((s.thread t.val).reg ra.val)) ∧ s.CanIssue (t.val) (Instr.bge t ra rb off)) ∧
(∃ (s : State) (t : Fin 580) (ra : Fin 32) (rb : Fin 32) (off : BitVec 16), (BitVec.toInt ((s.thread t.val).reg rb.val) ≤ BitVec.toInt
      ((s.thread t.val).reg ra.val) ∧ (BitVec.ofInt 32 (↑(s.thread t.val).pc + 4 * off.toInt)).toNat ≤ codeTop t.val) ∧ s.CanIssue (t.val)
      (Instr.bge t ra rb off)) ∧
(∃ (s : State) (t : Fin 580) (ra : Fin 32) (rb : Fin 32) (off : BitVec 16), (BitVec.toInt ((s.thread t.val).reg rb.val) ≤ BitVec.toInt
      ((s.thread t.val).reg ra.val) ∧ codeTop t.val < (BitVec.ofInt 32 (↑(s.thread t.val).pc + 4 * off.toInt)).toNat ∧ (s.thread
      t.val).sregs.tvec ≠ 0#32 ∧ (s.thread t.val).exl = false) ∧ s.CanIssue (t.val) (Instr.bge t ra rb off)) ∧
(∃ (s : State) (t : Fin 580) (ra : Fin 32) (rb : Fin 32) (off : BitVec 16), (¬BitVec.toNat ((s.thread t.val).reg ra.val) < BitVec.toNat
      ((s.thread t.val).reg rb.val)) ∧ s.CanIssue (t.val) (Instr.bltu t ra rb off)) ∧
(∃ (s : State) (t : Fin 580) (ra : Fin 32) (rb : Fin 32) (off : BitVec 16), (BitVec.toNat ((s.thread t.val).reg ra.val) < BitVec.toNat
      ((s.thread t.val).reg rb.val) ∧ (BitVec.ofInt 32 (↑(s.thread t.val).pc + 4 * off.toInt)).toNat ≤ codeTop t.val) ∧ s.CanIssue (t.val)
      (Instr.bltu t ra rb off)) ∧
(∃ (s : State) (t : Fin 580) (ra : Fin 32) (rb : Fin 32) (off : BitVec 16), (BitVec.toNat ((s.thread t.val).reg ra.val) < BitVec.toNat
      ((s.thread t.val).reg rb.val) ∧ codeTop t.val < (BitVec.ofInt 32 (↑(s.thread t.val).pc + 4 * off.toInt)).toNat ∧ (s.thread
      t.val).sregs.tvec ≠ 0#32 ∧ (s.thread t.val).exl = false) ∧ s.CanIssue (t.val) (Instr.bltu t ra rb off)) ∧
(∃ (s : State) (t : Fin 580) (ra : Fin 32) (rb : Fin 32) (off : BitVec 16), (¬BitVec.toNat ((s.thread t.val).reg rb.val) ≤ BitVec.toNat
      ((s.thread t.val).reg ra.val)) ∧ s.CanIssue (t.val) (Instr.bgeu t ra rb off)) ∧
(∃ (s : State) (t : Fin 580) (ra : Fin 32) (rb : Fin 32) (off : BitVec 16), (BitVec.toNat ((s.thread t.val).reg rb.val) ≤ BitVec.toNat
      ((s.thread t.val).reg ra.val) ∧ (BitVec.ofInt 32 (↑(s.thread t.val).pc + 4 * off.toInt)).toNat ≤ codeTop t.val) ∧ s.CanIssue (t.val)
      (Instr.bgeu t ra rb off)) ∧
(∃ (s : State) (t : Fin 580) (ra : Fin 32) (rb : Fin 32) (off : BitVec 16), (BitVec.toNat ((s.thread t.val).reg rb.val) ≤ BitVec.toNat
      ((s.thread t.val).reg ra.val) ∧ codeTop t.val < (BitVec.ofInt 32 (↑(s.thread t.val).pc + 4 * off.toInt)).toNat ∧ (s.thread
      t.val).sregs.tvec ≠ 0#32 ∧ (s.thread t.val).exl = false) ∧ s.CanIssue (t.val) (Instr.bgeu t ra rb off)) ∧
(∃ (s : State) (t : Fin 580) (off : BitVec 16) (cond : Fin 16), (cond.val ≠ 15 ∧ ¬condHolds (cond.val) (s.thread t.val).tsw = true) ∧
      s.CanIssue (t.val) (Instr.bcc t cond off)) ∧
(∃ (s : State) (t : Fin 580) (off : BitVec 16) (cond : Fin 16), (cond.val ≠ 15 ∧ condHolds (cond.val) (s.thread t.val).tsw = true ∧
      (BitVec.ofInt 32 (↑(s.thread t.val).pc + 4 * off.toInt)).toNat ≤ codeTop t.val) ∧ s.CanIssue (t.val) (Instr.bcc t cond off)) ∧
(∃ (s : State) (t : Fin 580) (off : BitVec 16) (cond : Fin 16), (cond.val ≠ 15 ∧ condHolds (cond.val) (s.thread t.val).tsw = true ∧
      codeTop t.val < (BitVec.ofInt 32 (↑(s.thread t.val).pc + 4 * off.toInt)).toNat ∧ (s.thread t.val).sregs.tvec ≠ 0#32 ∧ (s.thread
      t.val).exl = false) ∧ s.CanIssue (t.val) (Instr.bcc t cond off)) ∧
(∃ (s : State) (t : Fin 580) (rd : Fin 32) (idx : BitVec 15), (4 * idx.toNat ≤ codeTop t.val) ∧ s.CanIssue (t.val) (Instr.jal t rd idx)) ∧
(∃ (s : State) (t : Fin 580) (rd : Fin 32) (ra : Fin 32) (imm : BitVec 16), (BitVec.toNat ((s.thread t.val).reg ra.val + BitVec.signExtend
      32 imm) ≤ codeTop t.val ∧ BitVec.toNat ((s.thread t.val).reg ra.val + BitVec.signExtend 32 imm) % 4 = 0) ∧ s.CanIssue (t.val)
      (Instr.jalr t rd ra imm)) :=
  ⟨⟨s_alu 576, 576, 0, 1, 0x0000#16, by decide +kernel, canIssue_of (by decide +kernel)⟩,
    ⟨s_alu 576, 576, 0, 0, 0x0000#16, by decide +kernel, canIssue_of (by decide +kernel)⟩,
    ⟨s_mem 576, 576, 0, 0, 0xffff#16, by decide +kernel, canIssue_of (by decide +kernel)⟩,
    ⟨s_alu 576, 576, 0, 0, 0x0000#16, by decide +kernel, canIssue_of (by decide +kernel)⟩,
    ⟨s_alu 576, 576, 0, 1, 0x0000#16, by decide +kernel, canIssue_of (by decide +kernel)⟩,
    ⟨s_mem 576, 576, 0, 1, 0xffff#16, by decide +kernel, canIssue_of (by decide +kernel)⟩,
    ⟨s_alu 576, 576, 0, 0, 0x0000#16, by decide +kernel, canIssue_of (by decide +kernel)⟩,
    ⟨s_alu 576, 576, 0, 1, 0x0000#16, by decide +kernel, canIssue_of (by decide +kernel)⟩,
    ⟨s_mem 576, 576, 0, 1, 0xffff#16, by decide +kernel, canIssue_of (by decide +kernel)⟩,
    ⟨s_alu 576, 576, 0, 1, 0x0000#16, by decide +kernel, canIssue_of (by decide +kernel)⟩,
    ⟨s_alu 576, 576, 0, 0, 0x0000#16, by decide +kernel, canIssue_of (by decide +kernel)⟩,
    ⟨s_mem 576, 576, 0, 0, 0xffff#16, by decide +kernel, canIssue_of (by decide +kernel)⟩,
    ⟨s_alu 576, 576, 0, 0, 0x0000#16, by decide +kernel, canIssue_of (by decide +kernel)⟩,
    ⟨s_alu 576, 576, 0, 1, 0x0000#16, by decide +kernel, canIssue_of (by decide +kernel)⟩,
    ⟨s_mem 576, 576, 0, 1, 0xffff#16, by decide +kernel, canIssue_of (by decide +kernel)⟩,
    ⟨s_alu 576, 576, 0, 1, 0x0000#16, by decide +kernel, canIssue_of (by decide +kernel)⟩,
    ⟨s_alu 576, 576, 0, 0, 0x0000#16, by decide +kernel, canIssue_of (by decide +kernel)⟩,
    ⟨s_mem 576, 576, 0, 0, 0xffff#16, by decide +kernel, canIssue_of (by decide +kernel)⟩,
    ⟨s_alu 576, 576, 0x0000#16, 0, by decide +kernel, canIssue_of (by decide +kernel)⟩,
    ⟨s_alu 576, 576, 0x0000#16, 1, by decide +kernel, canIssue_of (by decide +kernel)⟩,
    ⟨s_mem 576, 576, 0xffff#16, 1, by decide +kernel, canIssue_of (by decide +kernel)⟩,
    ⟨s_alu 576, 576, 0, 0x0000#15, by decide +kernel, canIssue_of (by decide +kernel)⟩,
    ⟨s_alu 576, 576, 0, 0, 0x0000#16, by decide +kernel, canIssue_of (by decide +kernel)⟩⟩

/-- States and operands that meet the hypotheses of `Obligations.SystemRegistersAndTraps`, clause by clause. -/
theorem witness_SystemRegistersAndTraps :
(∃ (s : State) (t : Fin 580) (r1 : Fin 32), s.CanIssue (t.val) (Instr.mfs t r1 0)) ∧
(∃ (s : State) (t : Fin 580) (r1 : Fin 32), ((s.thread t.val).reg r1.val &&& 4280287200#32 = 0#32 ∧ BitVec.getLsbD ((s.thread t.val).reg
      r1.val) 23 = (s.thread t.val).tsw.getLsbD 23) ∧ s.CanIssue (t.val) (Instr.mts t r1 0)) ∧
(∃ (s : State) (t : Fin 580) (r1 : Fin 32), (BitVec.toNat ((s.thread t.val).reg r1.val) % 4 = 0 ∧ BitVec.toNat ((s.thread t.val).reg
      r1.val) ≤ codeTop t.val) ∧ s.CanIssue (t.val) (Instr.mts t r1 4)) ∧
(∃ (s : State) (t : Fin 580), ((s.thread t.val).exl = true ∧ (s.thread t.val).sregs.epc.toNat ≤ codeTop t.val) ∧ s.CanIssue (t.val)
      (Instr.eret t)) ∧
(∃ (s : State) (t : Fin 580) (r2 : Fin 32) (mask : BitVec 7), ((s.thread t.val).ev &&& mask ≠ 0#7) ∧ s.CanIssue (t.val) (Instr.wfe t mask
      r2)) :=
  ⟨⟨s_alu 576, 576, 0, canIssue_of (by decide +kernel)⟩,
    ⟨s_alu 576, 576, 0, by decide +kernel, canIssue_of (by decide +kernel)⟩,
    ⟨s_alu 576, 576, 0, by decide +kernel, canIssue_of (by decide +kernel)⟩,
    ⟨code 3 (Instr.eret 3) (s_sys 3 0x800000#32), 3, by decide +kernel, canIssue_of (by decide +kernel)⟩,
    ⟨s_sys 576 0#32, 576, 0, 0x01#7, by decide +kernel, canIssue_of (by decide +kernel)⟩⟩

/-- States and operands that meet the hypotheses of `Obligations.SessionsAreOpened`, clause by clause. -/
theorem witness_SessionsAreOpened :
(∃ (s : State) (r : UdaReq) (rest : List UdaReq), (s.uda.engineQ = r :: rest ∧ wellFormedMsg r.msg = true ∧ msgType r.msg = 1 ∧ (¬(s.life
      ≠ 5 ∧ s.zeroised = false ∧ s.trngOk = true ∧ ∃ j, j < 16 ∧ (s.session j).state = 0))) ∧ (∀ (k : Nat), s.pilotHolds k = true ∨
      (s.session k).waiting = [])) ∧
(∃ (s : State) (r : UdaReq) (rest : List UdaReq), (s.uda.engineQ = r :: rest ∧ wellFormedMsg r.msg = true ∧ msgType r.msg = 1 ∧ s.life ≠ 5
      ∧ s.zeroised = false ∧ s.trngOk = true ∧ (∃ j, j < 16 ∧ (s.session j).state = 0)) ∧ (∀ (k : Nat), s.pilotHolds k = true ∨ (s.session
      k).waiting = [])) ∧
(∃ (s : State) (r : UdaReq) (rest : List UdaReq) (j : Nat), (s.uda.engineQ = r :: rest ∧ wellFormedMsg r.msg = true ∧ s.findSession 1
      (msgSession r.msg) = some j ∧ msgType r.msg = 3 ∧ ((if (s.session j).mode = 1 ∧ s.life ≠ 0 ∧ s.recovering = false then s.pskOf
      (s.session j).keyId else none) = none)) ∧ (∀ (k : Nat), s.pilotHolds k = true ∨ (s.session k).waiting = [])) ∧
(∃ (s : State) (j : Fin 16), ((s.session j.val).state = 1 ∧ (s.session j.val).at_ + 5000000000 ≤ s.now)) ∧
(∃ (s : State) (j : Fin 16), (((s.session j.val).state ≠ 1 ∨ s.now < (s.session j.val).at_ + 5000000000))) ∧
(∃ (s : State) (j : Fin 16), ((s.session j.val).state = 2 ∧ s.idleAt (s.session j.val) ≤ s.now)) ∧
(∃ (s : State) (j : Fin 16), (((s.session j.val).state ≠ 2 ∨ s.now < s.idleAt (s.session j.val)))) :=
  ⟨⟨full16 helloT, ((full16 helloT).uda.engineQ).head (by decide +kernel), [], by decide +kernel, noWaiting (by decide +kernel)⟩,
    ⟨helloT, ((helloT).uda.engineQ).head (by decide +kernel), [], by decide +kernel, noWaiting (by decide +kernel)⟩,
    ⟨noPsk s_open, ((noPsk s_open).uda.engineQ).head (by decide +kernel), [], 3, by decide +kernel, noWaiting (by decide +kernel)⟩,
    ⟨({ s_lc 2 with now := 10 ^ 11, uda := { State.reset.uda with sessions := [(3, chalT)] } } : State), 3, by decide +kernel⟩,
    ⟨s_alu 3, 0, by decide +kernel⟩,
    ⟨s_seg, 3, by decide +kernel⟩,
    ⟨s_alu 3, 0, by decide +kernel⟩⟩

/-- States and operands that meet the hypotheses of `Obligations.EveryCommandIsAnswered`, clause by clause. -/
theorem witness_EveryCommandIsAnswered : ∃ (s : State), (s.pending = []) :=
⟨s_alu 3, by decide +kernel⟩

/-- States and operands that meet the hypotheses of `Obligations.HelperOperationsRun`, clause by clause. -/
theorem witness_HelperOperationsRun :
(∃ (s : State) (t : Fin 512), (s.refuses (t.val) 0 (b2n (s.thread t.val).second) = false) ∧ (∀ (r : Nat), r ∈ latchedRegs 0 3 → ¬hkey (b2n
      (s.thread t.val).second) 0 r ∈ (s.thread t.val).hbad) ∧ s.CanIssue (t.val) (Instr.gmac t)) ∧
(∃ (s : State) (t : Fin 512), (s.refuses (t.val) 1 (b2n (s.thread t.val).second) = true) ∧ s.CanIssue (t.val) (Instr.crc8 t)) ∧
(∃ (s : State) (t : Fin 512), ((s.thread t.val).st = TState.held Hold.refusal)) ∧
(∃ (s : State) (t : Fin 580) (r : Fin 32) (n : Fin 4) (c : Fin 64), (t.val < 512 ∧ helperReg n.val c.val ≠ none ∧ helperReg n.val c.val =
      some true) ∧ s.CanIssue (t.val) (Instr.mtc t r n c)) ∧
(∃ (s : State) (t : Fin 580) (r : Fin 32) (n : Fin 4) (c : Fin 64), (t.val < 512 ∧ helperReg n.val c.val ≠ none ∧ ¬hkey (b2n (s.thread
      t.val).second) n.val c.val ∈ (s.thread t.val).hpend ∧ ¬hkey (b2n (s.thread t.val).second) n.val c.val ∈ (s.thread t.val).hbad) ∧
      s.CanIssue (t.val) (Instr.mfc t r n c)) ∧
(∃ (s : State) (t : Fin 580) (r : Fin 32) (n : Fin 4) (c : Fin 64), (t.val < 512 ∧ helperReg n.val c.val ≠ none ∧ hkey (b2n (s.thread
      t.val).second) n.val c.val ∈ (s.thread t.val).hpend) ∧ s.CanIssue (t.val) (Instr.mfc t r n c)) ∧
(∃ (s : State) (n : Fin 16) (h : Fin 4) (o : HOp) (r : List HOp), (h.val < 2 ∧ (List.filter (fun o_l => decide (o_l.helper = h.val))
      (s.ops n.val) = o :: r) ∧ o.started = false ∧ clusterOf o.tid = n.val)) ∧
(∃ (s : State) (t : Fin 512) (b : Bool) (h : Fin 4) (o : HOp), ((List.find? (fun o_l => decide (o_l.tid = t.val) && decide (o_l.bank = b2n
      b) && decide (o_l.helper = h.val) && o_l.started) (s.ops (clusterOf t.val)) = some o) ∧ h = 1 ∧ o.fn ≠ 17 ∧ o.reg 2 ≤ 9216 ∧
      s.addrStatus o (o.reg 0) (o.reg 2) false = 0 ∧ s.srcError o (o.reg 0) (o.reg 2) = none ∧ (o.fn = 7 → 8 ≤ o.reg 9 % 128 ∧ o.reg 9 %
      128 ≤ 64 ∧ bits (o.reg 9) 11 7 = 0 ∧ bits (o.reg 9) 31 14 = 0))) ∧
(∃ (s : State) (t : Fin 512) (b : Bool) (h : Fin 4) (o : HOp), ((List.find? (fun o_l => decide (o_l.tid = t.val) && decide (o_l.bank = b2n
      b) && decide (o_l.helper = h.val) && o_l.started) (s.ops (clusterOf t.val)) = some o) ∧ h = 1 ∧ o.fn = 17)) ∧
(∃ (s : State) (t : Fin 512) (b : Bool) (h : Fin 4) (o : HOp), ((List.find? (fun o_l => decide (o_l.tid = t.val) && decide (o_l.bank = b2n
      b) && decide (o_l.helper = h.val) && o_l.started) (s.ops (clusterOf t.val)) = some o) ∧ h = 0 ∧ 4 ≤ o.fn ∧ (o.fn = 20 → o.reg 5 ≤
      15) ∧ o.reg 2 ≤ 9216 ∧ s.addrStatus o (o.reg 0) (o.reg 2) false = 0 ∧ s.srcError o (o.reg 0) (o.reg 2) = none) ∧ (∀ (k : Nat),
      o.outLen = some k → 1 ≤ k ∧ k ≤ 64)) ∧
(∃ (s : State) (t : Fin 512) (b : Bool) (h : Fin 4) (o : HOp), ((List.find? (fun o_l => decide (o_l.tid = t.val) && decide (o_l.bank = b2n
      b) && decide (o_l.helper = h.val) && o_l.started) (s.ops (clusterOf t.val)) = some o) ∧ h = 0 ∧ (o.fn = 1 ∨ o.fn = 2 ∨ o.fn = 3) ∧
      s.gcmOperands o ≠ 0)) ∧
(∃ (s : State) (t : Fin 512) (b : Bool) (h : Fin 4) (o : HOp), ((List.find? (fun o_l => decide (o_l.tid = t.val) && decide (o_l.bank = b2n
      b) && decide (o_l.helper = h.val) && o_l.started) (s.ops (clusterOf t.val)) = some o) ∧ h = 0 ∧ (o.fn = 1 ∨ o.fn = 2 ∨ o.fn = 3) ∧
      s.gcmOperands o = 0 ∧ (o.cut = true ∨ o.key = []))) ∧
(∃ (s : State) (t : Fin 512) (b : Bool) (h : Fin 4) (o : HOp), ((List.find? (fun o_l => decide (o_l.tid = t.val) && decide (o_l.bank = b2n
      b) && decide (o_l.helper = h.val) && o_l.started) (s.ops (clusterOf t.val)) = some o) ∧ h = 0 ∧ (o.fn = 1 ∨ o.fn = 2 ∨ o.fn = 3) ∧
      s.gcmOperands o = 0 ∧ o.cut = false ∧ o.key ≠ [] ∧ s.srcError o (o.reg 3) (o.reg 4) ≠ none)) ∧
(∃ (s : State) (t : Fin 512) (b : Bool) (h : Fin 4) (o : HOp), ((List.find? (fun o_l => decide (o_l.tid = t.val) && decide (o_l.bank = b2n
      b) && decide (o_l.helper = h.val) && o_l.started) (s.ops (clusterOf t.val)) = some o) ∧ h = 0 ∧ (o.fn = 1 ∨ o.fn = 2 ∨ o.fn = 3) ∧
      s.gcmOperands o = 0 ∧ o.cut = false ∧ o.key ≠ [] ∧ s.srcError o (o.reg 3) (o.reg 4) = none ∧ (o.fn ≠ 3 → (fun n => s.srcError o
      (o.reg 0) n = none) (o.reg 2)))) ∧
(∃ (s : State) (t : Fin 512) (b : Bool) (h : Fin 4) (o : HOp) (l : List (Nat × Word)), ((List.find? (fun o_l => decide (o_l.tid = t.val)
      && decide (o_l.bank = b2n b) && decide (o_l.helper = h.val) && o_l.started) (s.ops (clusterOf t.val)) = some o) ∧ h = 2 ∧ o.out = l
      ∧ ((List.map (fun x => x.fst) l).Nodup))) :=
  ⟨⟨code 3 (Instr.gmac 3) (s_sb), 3, by decide +kernel, memAll (by decide +kernel), canIssue_of (by decide +kernel)⟩,
    ⟨code 3 (Instr.crc8 3) (s_ops [opcrc 4]), 3, by decide +kernel, canIssue_of (by decide +kernel)⟩,
    ⟨s_ref, 3, by decide +kernel⟩,
    ⟨code 3 (Instr.mtc 3 0 0 0) (s_sb), 3, 0, 0, 0, by decide +kernel, canIssue_of (by decide +kernel)⟩,
    ⟨code 3 (Instr.mfc 3 0 0 0) (s_sb), 3, 0, 0, 0, by decide +kernel, canIssue_of (by decide +kernel)⟩,
    ⟨code 3 (Instr.mfc 3 0 0 0) (s_hpend), 3, 0, 0, 0, by decide +kernel, canIssue_of (by decide +kernel)⟩,
    ⟨s_ops [hop 0 1 false (gcmR 20)], 0, 0, (List.filter (fun o_l => decide (o_l.helper = 0)) ((s_ops [hop 0 1 false (gcmR 20)]).ops 0)).head
      (by decide +kernel), [], by decide +kernel⟩,
    ⟨s_ops [opcrc 4], 3, false, 1, (List.find? (fun o_l => decide (o_l.tid = 3) && decide (o_l.bank = b2n (false)) && decide (o_l.helper = 1)
      && o_l.started) ((s_ops [opcrc 4]).ops (clusterOf 3))).get (by decide +kernel), by decide +kernel⟩,
    ⟨s_ops [hop 1 17 true [(0, 0x100#32), (2, 20#32)]], 3, false, 1, (List.find? (fun o_l => decide (o_l.tid = 3) && decide (o_l.bank = b2n
      (false)) && decide (o_l.helper = 1) && o_l.started) ((s_ops [hop 1 17 true [(0, 0x100#32), (2, 20#32)]]).ops (clusterOf 3))).get
      (by decide +kernel), by decide +kernel⟩,
    ⟨s_ops [hop 0 16 true [(0, 0x100#32), (2, 20#32), (9, 32#32)]], 3, false, 0, (List.find? (fun o_l => decide (o_l.tid = 3) && decide
      (o_l.bank = b2n (false)) && decide (o_l.helper = 0) && o_l.started) ((s_ops [hop 0 16 true [(0, 0x100#32), (2, 20#32), (9,
      32#32)]]).ops (clusterOf 3))).get (by decide +kernel), by decide +kernel, optAll (by decide +kernel)⟩,
    ⟨s_ops [hop 0 1 true (gcmR 10000)], 3, false, 0, (List.find? (fun o_l => decide (o_l.tid = 3) && decide (o_l.bank = b2n (false)) && decide
      (o_l.helper = 0) && o_l.started) ((s_ops [hop 0 1 true (gcmR 10000)]).ops (clusterOf 3))).get (by decide +kernel),
      by decide +kernel⟩,
    ⟨s_ops [{ hop 0 1 true (gcmR 20) with cut := true }], 3, false, 0, (List.find? (fun o_l => decide (o_l.tid = 3) && decide (o_l.bank = b2n
      (false)) && decide (o_l.helper = 0) && o_l.started) ((s_ops [{ hop 0 1 true (gcmR 20) with cut := true }]).ops (clusterOf 3))).get
      (by decide +kernel), by decide +kernel⟩,
    ⟨s_opsX [hop 0 1 true (gcmR 20)] fun c => { c with bad := [memKey .coreData 0x204] }, 3, false, 0, (List.find? (fun o_l => decide (o_l.tid
      = 3) && decide (o_l.bank = b2n (false)) && decide (o_l.helper = 0) && o_l.started) ((s_opsX [hop 0 1 true (gcmR 20)] fun c =>
      { c with bad := [memKey .coreData 0x204] }).ops (clusterOf 3))).get (by decide +kernel), by decide +kernel⟩,
    ⟨s_ops [hop 0 1 true (gcmR 20)], 3, false, 0, (List.find? (fun o_l => decide (o_l.tid = 3) && decide (o_l.bank = b2n (false)) && decide
      (o_l.helper = 0) && o_l.started) ((s_ops [hop 0 1 true (gcmR 20)]).ops (clusterOf 3))).get (by decide +kernel), by decide +kernel⟩,
    ⟨s_ops [hop 2 1 true []], 3, false, 2, (List.find? (fun o_l => decide (o_l.tid = 3) && decide (o_l.bank = b2n (false)) && decide
      (o_l.helper = 2) && o_l.started) ((s_ops [hop 2 1 true []]).ops (clusterOf 3))).get (by decide +kernel), [(32, 0x00000005#32), (33,
      0x00000006#32), (63, 0x00000000#32)], by decide +kernel⟩⟩

/-- States and operands that meet the hypotheses of `Obligations.SyscallRaisesItsException`, clause by clause. -/
theorem witness_SyscallRaisesItsException : ∃ (s : State) (t : Fin 580) (imm : BitVec 16), s.CanIssue (t.val) (Instr.syscall t imm) :=
⟨s_alu 576, 576, 0x0000#16, canIssue_of (by decide +kernel)⟩

/-- States and operands that meet the hypotheses of `Obligations.DmaMovesAndRecords`, clause by clause. -/
theorem witness_DmaMovesAndRecords :
(∃ (s : State) (ch : Fin 16) (d : BitVec 256), (s.doorbellStatus (ch.val) d true = 0 ∧ s.on K.dmaCqEnable = true)) ∧
(∃ (s : State) (ch : Fin 16) (d : BitVec 256), ((s.doorbellStatus (ch.val) d true ≠ 0 ∨ s.on K.dmaCqEnable = false))) ∧
(∃ (s : State) (ch : Fin 16), (tget none s.dma.chans ch.val = none)) ∧
(∃ (s : State) (ch : Fin 16) (x : DmaXfer), (tget none s.dma.chans ch.val = some x ∧ s.dma.running = some ch.val)) ∧
(∃ (s : State) (ch : Fin 16) (x : DmaXfer), (tget none s.dma.chans ch.val = some x ∧ s.dma.running ≠ some ch.val ∧ ch.val ∈ s.dma.queue)) ∧
(∃ (s : State) (ch : Nat) (x : DmaXfer), (tget none s.dma.chans ch = some x ∧ s.dma.running = some ch ∧ ch < 16 ∧ x.abort = false ∧ (if
      opSpace (dmaSrc x.desc) = 0 then s.dramRefusal (opLoc (dmaSrc x.desc) / 64 * 64) = none ∧ ¬opLoc (dmaSrc x.desc) / 64 * 64 ∈
      s.dram.badEcc ∧ ¬opLoc (dmaSrc x.desc) / 64 * 64 ∈ s.dram.badTag ∧ ∀ (w : DramReq), w ∈ (s.dchan (s.dramChannel (opLoc (dmaSrc
      x.desc) / 64 * 64))).writes → w.line ≠ opLoc (dmaSrc x.desc) / 64 * 64 else opSpace (dmaSrc x.desc) < 4 ∧ s.badIn ((fun a => memKey
      (if opSpace a = 0 then Space.dram else if opSpace a = 1 then Space.pilot else if opSpace a = 2 then Space.shared else
      Space.coreData) (opLoc a)) (dmaSrc x.desc)) (dmaLen x.desc) = none) ∧ (if opSpace (dmaDst x.desc) = 0 then s.dramRefusal (opLoc
      (dmaDst x.desc) / 64 * 64) = none ∧ ¬opLoc (dmaDst x.desc) / 64 * 64 ∈ s.dram.badEcc ∧ ¬opLoc (dmaDst x.desc) / 64 * 64 ∈
      s.dram.badTag ∧ ∀ (k : Nat), k ∈ s.counterChain (opLoc (dmaDst x.desc) / 64 * 64) → tget 0 s.dram.counters k ≠ 2 ^ 56 - 1 else
      opSpace (dmaDst x.desc) < 4) ∧ dmaLen x.desc ≤ toLine (dmaSrc x.desc) ∧ dmaLen x.desc ≤ toLine (dmaDst x.desc)) ∧ (∀ (r :
      DmaRecord), r ∈ s.dma.held → r.ch = ch → r.refused = true)) ∧
(∃ (s : State) (ch : Nat) (x : DmaXfer), (tget none s.dma.chans ch = some x ∧ s.dma.running = some ch ∧ ch < 16 ∧ x.abort = false ∧
      opSpace (dmaSrc x.desc) = 4 ∧ (s.cell (opLoc (dmaSrc x.desc) % 2 ^ 24)).owners.getLsbD 10 = false) ∧ (∀ (r : DmaRecord), r ∈
      s.dma.held → r.ch = ch → r.refused = true)) ∧
(∃ (s : State) (v : BitVec 16), (v.toNat < s.rd K.dmaCqEntries)) ∧
(∃ (s : State) (v : BitVec 16), (s.rd K.dmaCqEntries ≤ v.toNat)) ∧
(∃ (s : State), (s.dma.held ≠ [] ∧ s.dma.told = false ∧ s.dma.heldAt + 1000000 ≤ s.now)) ∧
(∃ (s : State), ((s.dma.held = [] ∨ s.dma.told = true ∨ s.now < s.dma.heldAt + 1000000))) :=
  ⟨⟨s_dma fun d => { d with queue := [3] }, 0, 0x1000000000000100100000000000020000000800000000000000000000000000#256, by decide +kernel⟩,
    ⟨s_alu 3, 0, 0x0000000000000000000000000000000000000000000000000000000000000000#256, by decide +kernel⟩,
    ⟨s_alu 3, 0, by decide +kernel⟩,
    ⟨s_dmaX true (mkDesc 0x100 0x2000 8) false, 3, (tget none (s_dmaX true (mkDesc 0x100 0x2000 8) false).dma.chans 3).get
      (by decide +kernel), by decide +kernel⟩,
    ⟨s_dma fun d => { d with queue := [3] }, 3, (tget none (s_dma fun d => { d with queue := [3] }).dma.chans 3).get (by decide +kernel),
      by decide +kernel⟩,
    ⟨s_dmaX true (mkDesc (pil 0x100) (pil 0x200) 8) false, 3, (tget none (s_dmaX true (mkDesc (pil 0x100) (pil 0x200) 8) false).dma.chans
      3).get (by decide +kernel), by decide +kernel, memAll (by decide +kernel)⟩,
    ⟨s_dmaX true (mkDesc (4 * 2 ^ 60 + 70000) (pil 0x200) 8) false, 3, (tget none (s_dmaX true (mkDesc (4 * 2 ^ 60 + 70000) (pil 0x200) 8)
      false).dma.chans 3).get (by decide +kernel), by decide +kernel, memAll (by decide +kernel)⟩,
    ⟨s_alu 3, 0x0000#16, by decide +kernel⟩,
    ⟨s_alu 3, 0xffff#16, by decide +kernel⟩,
    ⟨s_dmaH, by decide +kernel⟩,
    ⟨s_alu 3, by decide +kernel⟩⟩

/-- States and operands that meet the hypotheses of `Obligations.WorkIsQueuedAndGranted`, clause by clause. -/
theorem witness_WorkIsQueuedAndGranted :
(∃ (s : State) (l : Fin 8), (s.levelFull l.val = false ∧ s.nonPacket < 2048)) ∧
(∃ (s : State) (l : Fin 8), (s.levelFull l.val = true)) ∧
(∃ (s : State), (s.safeState = true)) ∧
(∃ (s : State) (t : Fin 512) (g : Grant), ((s.thread t.val).work = some g ∧ (s.thread t.val).st = TState.idle ∧ s.arrives (t.val)
      FromDx.work = true)) ∧
(∃ (s : State) (t : Fin 512) (g : Grant) (b : Item), ((s.thread t.val).preempt = some g ∧ (s.thread t.val).item = some b ∧ s.arrives
      (t.val) FromDx.preempt = true ∧ g.item.isPacket = false ∧ (s.thread t.val).st ≠ TState.ending) ∧ (∀ (e : Nat × FromDx), e ∈ s.fromDx
      (crossOf t.val) → ∀ (b : Bool), e.snd ≠ FromDx.signal b)) ∧
(∃ (s : State) (l : Fin 8) (w : BitVec 128), (bits w.toNat 43 32 = 0 ∧ (if bit w.toNat 44 = 1 then bits w.toNat 63 45 = 0 else bits
      w.toNat 63 48 ≠ 0 ∧ s.classOf (bits w.toNat 47 45) = 0) ∧ (s.delayList l.val).entries.length < 2048 ∧ (∃ k, k < 2048 ∧ ∀ (e :
      DelayEntry), e ∈ (s.delayList l.val).entries → e.slot ≠ k))) ∧
(∃ (s : State) (h : BitVec 16) (e : DelayEntry), ((List.find? (fun e_l => decide (delayHandle (h.toNat / 2 ^ 13) e_l = h.toNat))
      (s.delayList (h.toNat / 2 ^ 13)).entries = some e))) ∧
(∃ (s : State) (h : BitVec 16), ((List.find? (fun e => decide (delayHandle (h.toNat / 2 ^ 13) e = h.toNat)) (s.delayList (h.toNat / 2 ^
      13)).entries = none))) ∧
(∃ (s : State) (l : Fin 8) (e : DelayEntry), ((List.find? (fun x => x.isDue) (s.delayList l.val).entries = some e) ∧ e.launch = false ∧
      s.levelFull e.level = false ∧ s.nonPacket < 2048)) ∧
(∃ (s : State) (l : Fin 8) (e : DelayEntry), ((List.find? (fun x => x.isDue) (s.delayList l.val).entries = some e) ∧ e.launch = true)) ∧
(∃ (s : State) (l : Fin 8) (e : DelayEntry), ((List.find? (fun x => x.isDue) (s.delayList l.val).entries = some e) ∧ e.launch = false ∧
      s.levelFull e.level = true ∧ e.held = false)) ∧
(∃ (v : BitVec 32), (bits v.toNat 31 16 ≠ 0 ∧ bits v.toNat 15 0 ≤ bits v.toNat 31 16)) ∧
(∃ (v : BitVec 32), (v.toNat < 256 ∧ bits v.toNat 6 0 ≤ 64)) ∧
(∃ (v : BitVec 32), (v.toNat < 8)) :=
  ⟨⟨s_alu 3, 0, by decide +kernel⟩,
    ⟨s_due2 id, 7, by decide +kernel⟩,
    ⟨State.reset.wr K.safFaultStatus 2, by decide +kernel⟩,
    ⟨s_work 3, 3, (((s_work 3).thread 3).work).get (by decide +kernel), by decide +kernel⟩,
    ⟨s_pre 3, 3, (((s_pre 3).thread 3).preempt).get (by decide +kernel),
      { kind := Sys2Proof.Machine.ItemKind.posted, level := 2, affinity := 0xffff#16, tag := 0x00000007#32, journal := 0, list := 0, enq := 0 },
      by decide +kernel, memAll (by decide +kernel)⟩,
    ⟨s_alu 3, 0, 0x0000000000002328ffffe00000000021#128, by decide +kernel⟩,
    ⟨s_disp, 0x3003#16,
      { due := 100, affinity := 0xffff#16, level := 7, launch := false, tag := 0x00000005#32, slot := 3, gen := 2, isDue := true, held := false },
      by decide +kernel⟩,
    ⟨s_alu 3, 0x0000#16, by decide +kernel⟩,
    ⟨s_disp, 1,
      { due := 100, affinity := 0xffff#16, level := 7, launch := false, tag := 0x00000005#32, slot := 3, gen := 2, isDue := true, held := false },
      by decide +kernel⟩,
    ⟨s_due2 fun e => { e with launch := true }, 1,
      { due := 100, affinity := 0xffff#16, level := 7, launch := true, tag := 0x00000005#32, slot := 3, gen := 2, isDue := true, held := false },
      by decide +kernel⟩,
    ⟨s_due2 id, 1,
      { due := 100, affinity := 0xffff#16, level := 7, launch := false, tag := 0x00000005#32, slot := 3, gen := 2, isDue := true, held := false },
      by decide +kernel⟩,
    ⟨0xffffffff#32, by decide +kernel⟩,
    ⟨0x00000000#32, by decide +kernel⟩,
    ⟨0x00000000#32, by decide +kernel⟩⟩

/-- States and operands that meet the hypotheses of `Obligations.LogicAndShiftsWrite`, clause by clause. -/
theorem witness_LogicAndShiftsWrite : ∃ (s : State) (t : Fin 580) (rd : Fin 32) (ra : Fin 32) (f : Bool), s.CanIssue (t.val) (Instr.not t
    rd ra f) :=
⟨s_alu 576, 576, 0, 0, true, canIssue_of (by decide +kernel)⟩

/-- States and operands that meet the hypotheses of `Obligations.MacsMoveFrames`, clause by clause. -/
theorem witness_MacsMoveFrames :
(∃ (s : State) (p : Fin 8) (b : List Byte), (s.rd (K.portLinkState p.val) = 1 ∧ b.length < 64 ∧ (s.port p.val).lodeIn = none)) ∧
(∃ (s : State) (p : Fin 8), (s.rd (K.portLinkState p.val) = 1 ∧ p.val < 4 ∧ s.rd (K.portVerifyStatus p.val) = 2)) ∧
(∃ (s : State) (p : Fin 8) (f : TxFrame), ((s.port p.val).line = some f ∧ s.lodePending p.val = false)) ∧
(∃ (s : State) (p : Fin 8) (r : PtpRec) (rest : List PtpRec), ((s.tmPort p.val).ptp = r :: rest)) ∧
(∃ (s : State) (p : Fin 7) (y : Fin 64) (suite : BitVec 8), (y.val < secyCount p.val ∧ (suite = 1#8 ∨ suite = 2#8 ∨ (suite = 3#8 ∨ suite =
      4#8) ∧ s.rd (K.secyReplayWindow (secyIx p.val y.val)) ≤ 1073741823))) ∧
(∃ (p : Fin 7) (y : Fin 64) (suite : BitVec 8), (y.val < secyCount p.val ∧ (suite = 0#8 ∨ 5 ≤ suite.toNat))) ∧
(∃ (s : State) (p : Fin 7) (c : Fin 256) (y : Fin 64), (c.val < scCount p.val ∧ y.val < secyCount p.val ∧ (∀ (d : Nat), d < scCount p.val
      → d ≠ c.val → (s.chan (p.val) d).used = true → (s.chan (p.val) d).rx = false → (s.chan (p.val) d).secy ≠ y.val))) :=
  ⟨⟨s_pc 0, 3, [], by decide +kernel⟩,
    ⟨s_ver 2 1, 3, by decide +kernel⟩,
    ⟨s_mac 3 { Port.zero with line := some txf }, 3, (((s_mac 3 { Port.zero with line := some txf }).port 3).line).get (by decide +kernel),
      by decide +kernel⟩,
    ⟨s_mac 3 { Port.zero with line := some txf }, 3,
      { ts := 0x0000000000000007#64, domain := 1, messageType := 2, domainNumber := 3, sequenceId := 4 },
      [{ ts := 0x0000000000000009#64, domain := 1, messageType := 2, domainNumber := 3, sequenceId := 4 }], by decide +kernel⟩,
    ⟨s_alu 3, 0, 0, 0x01#8, by decide +kernel⟩,
    ⟨0, 0, 0x00#8, by decide +kernel⟩,
    ⟨s_alu 3, 0, 0, 0, by decide +kernel⟩⟩

/-- States and operands that meet the hypotheses of `Obligations.BitFieldsRetire`, clause by clause. -/
theorem witness_BitFieldsRetire :
(∃ (s : State) (t : Fin 580) (rd : Fin 32) (wm1 : Fin 32) (b : BitVec 16), (s.bitFault (t.val) b.toNat (wm1.val + 1) false = none ∧
      (s.thread t.val).wbad = []) ∧ s.CanIssue (t.val) (Instr.bext t rd wm1 b)) ∧
(∃ (s : State) (t : Fin 580) (wm1 : Fin 32) (b : BitVec 16), (s.bitFault (t.val) b.toNat (wm1.val + 1) true = none ∧ (s.thread t.val).wbad
      = []) ∧ s.CanIssue (t.val) (Instr.bsetf t wm1 b)) ∧
(∃ (s : State) (t : Fin 580) (rd : Fin 32) (ra : Fin 32) (rb : Fin 32), (BitVec.toNat ((s.thread t.val).reg ra.val) < 65536 ∧ 1 ≤
      BitVec.toNat ((s.thread t.val).reg rb.val) ∧ BitVec.toNat ((s.thread t.val).reg rb.val) ≤ 32 ∧ (s.thread t.val).wbad = [] ∧
      s.bitFault (t.val) (BitVec.toNat ((s.thread t.val).reg ra.val)) (BitVec.toNat ((s.thread t.val).reg rb.val)) false = none) ∧
      s.CanIssue (t.val) (Instr.bextr t rd ra rb)) ∧
(∃ (s : State) (t : Fin 580) (rd : Fin 32) (ra : Fin 32) (rb : Fin 32), (BitVec.toNat ((s.thread t.val).reg ra.val) < 65536 ∧ 1 ≤
      BitVec.toNat ((s.thread t.val).reg rb.val) ∧ BitVec.toNat ((s.thread t.val).reg rb.val) ≤ 32 ∧ (s.thread t.val).wbad = [] ∧
      s.bitFault (t.val) (BitVec.toNat ((s.thread t.val).reg ra.val)) (BitVec.toNat ((s.thread t.val).reg rb.val)) true = none) ∧
      s.CanIssue (t.val) (Instr.binsr t rd ra rb)) ∧
(∃ (s : State) (t : Fin 580) (b : BitVec 13) (off : BitVec 13), (s.bitFault (t.val) b.toNat 1 false = none ∧ (s.thread t.val).wbad = [] ∧
      (BitVec.ofInt 32 (↑(s.thread t.val).pc + 4 * off.toInt)).toNat ≤ codeTop t.val) ∧ s.CanIssue (t.val) (Instr.bbs t b off)) ∧
(∃ (b : Nat), (b < 2048)) ∧
(∃ (b : Nat), (4096 ≤ b ∧ b < 5120)) :=
  ⟨⟨code 3 (Instr.bext 3 0 0 (0x0000#16)) (s_sb), 3, 0, 0, 0x0000#16, by decide +kernel, canIssue_of (by decide +kernel)⟩,
    ⟨code 3 (Instr.bsetf 3 0 (0x0000#16)) (s_sb), 3, 0, 0x0000#16, by decide +kernel, canIssue_of (by decide +kernel)⟩,
    ⟨s_sys 576 0#32, 576, 0, 4, 1, by decide +kernel, canIssue_of (by decide +kernel)⟩,
    ⟨s_sys 576 0#32, 576, 0, 4, 1, by decide +kernel, canIssue_of (by decide +kernel)⟩,
    ⟨code 3 (Instr.bbs 3 (0x0000#13) (0x0000#13)) (s_sb), 3, 0x0000#13, 0x0000#13, by decide +kernel, canIssue_of (by decide +kernel)⟩,
    ⟨0, by decide +kernel⟩,
    ⟨4096, by decide +kernel⟩⟩

/-- States and operands that meet the hypotheses of `Obligations.BarrelProcessorsRun`, clause by clause. -/
theorem witness_BarrelProcessorsRun :
(∃ (s : State) (p : Fin 4), (tget false s.boot.barrelOk p.val = true)) ∧
(∃ (s : State) (p : Fin 4), (tget false s.boot.barrelOk p.val = false)) ∧
(∃ (s : State) (p : Fin 4), (s.rd (K.biopRunState p.val) ≠ 1)) ∧
(∃ (s : State) (p : Fin 4), (s.rd (K.biopRunState p.val) = 1)) ∧
(∃ (s : State) (b : Fin 64), (s.rd (K.biopWatchdogLimit (b.val / 16) (b.val % 16)) ≠ 0 ∧ (s.thread (512 + b.val)).st ≠ TState.out ∧
      (s.thread (512 + b.val)).st ≠ TState.idle ∧ (s.thread (512 + b.val)).kickAt + s.rd (K.biopWatchdogLimit (b.val / 16) (b.val % 16)) +
      1 ≤ s.usStrobe ∧ s.rd (K.biopMode (b.val / 16) (b.val % 16)) ≠ 0 ∧ s.rd (K.biopRunState (b.val / 16)) = 0)) ∧
(∃ (s : State) (b : Fin 64), ((s.rd (K.biopWatchdogLimit (b.val / 16) (b.val % 16)) = 0 ∨ (s.thread (512 + b.val)).st = TState.out ∨
      (s.thread (512 + b.val)).st = TState.idle ∨ s.usStrobe < (s.thread (512 + b.val)).kickAt + s.rd (K.biopWatchdogLimit (b.val / 16)
      (b.val % 16)) + 1))) :=
  ⟨⟨s_bar, 0, by decide +kernel⟩,
    ⟨s_alu 3, 0, by decide +kernel⟩,
    ⟨s_alu 3, 0, by decide +kernel⟩,
    ⟨State.reset.wr (K.biopRunState 0) 1, 0, by decide +kernel⟩,
    ⟨s_bar, 0, by decide +kernel⟩,
    ⟨s_alu 3, 0, by decide +kernel⟩⟩

/-- States and operands that meet the hypotheses of `Obligations.BlockingLoadsRetire`, clause by clause. -/
theorem witness_BlockingLoadsRetire :
(∃ (s : State) (t : Fin 580) (rd : Fin 32) (ra : Fin 32) (imm : BitVec 16), ((1 = 8 → rd.val % 2 = 0) ∧ t.val < 512 ∧ 131072 ≤
      BitVec.toNat ((s.thread t.val).reg ra.val + BitVec.signExtend 32 imm) ∧ BitVec.toNat ((s.thread t.val).reg ra.val +
      BitVec.signExtend 32 imm) + 1 ≤ 393216 ∧ BitVec.toNat ((s.thread t.val).reg ra.val + BitVec.signExtend 32 imm) % 1 = 0 ∧ s.badIn
      (memKey Space.shared (262144 * clusterOf t.val + (BitVec.toNat ((s.thread t.val).reg ra.val + BitVec.signExtend 32 imm) - 131072)))
      1 = none) ∧ s.CanIssue (t.val) (Instr.lb t rd ra imm)) ∧
(∃ (s : State) (t : Fin 580) (rd : Fin 32) (ra : Fin 32) (imm : BitVec 16), ((4 = 8 → rd.val % 2 = 0) ∧ 4 ≤ 4 ∧ 536870912 ≤ BitVec.toNat
      ((s.thread t.val).reg ra.val + BitVec.signExtend 32 imm) ∧ BitVec.toNat ((s.thread t.val).reg ra.val + BitVec.signExtend 32 imm) + 4
      ≤ 536936448 ∧ BitVec.toNat ((s.thread t.val).reg ra.val + BitVec.signExtend 32 imm) % 4 = 0 ∧ s.toDx (crossOf t.val) = []) ∧
      s.CanIssue (t.val) (Instr.lw t rd ra imm)) ∧
(∃ (s : State) (t : Fin 580) (rd : Fin 32) (ra : Fin 32) (imm : BitVec 16), ((8 = 8 → rd.val % 2 = 0) ∧ 8 = 8 ∧ 1073741824 ≤ BitVec.toNat
      ((s.thread t.val).reg ra.val + BitVec.signExtend 32 imm) ∧ BitVec.toNat ((s.thread t.val).reg ra.val + BitVec.signExtend 32 imm) + 8
      ≤ 1207959552 ∧ BitVec.toNat ((s.thread t.val).reg ra.val + BitVec.signExtend 32 imm) % 8 = 0 ∧ s.dictRight t.val = true ∧ s.rp
      (t.val) (s.thread t.val).second 3 = Rp.empty) ∧ s.CanIssue (t.val) (Instr.ld t rd ra imm)) :=
  ⟨⟨code 3 (Instr.lb 3 0 4 (0x0000#16)) (s_sb), 3, 0, 4, 0x0000#16, by decide +kernel, canIssue_of (by decide +kernel)⟩,
    ⟨s_mem 576, 576, 0, 5, 0x0000#16, by decide +kernel, canIssue_of (by decide +kernel)⟩,
    ⟨s_mem 576, 576, 0, 6, 0x0000#16, by decide +kernel, canIssue_of (by decide +kernel)⟩⟩

/-- States and operands that meet the hypotheses of `Obligations.LoopsOpenAndClose`, clause by clause. -/
theorem witness_LoopsOpenAndClose :
(∃ (s : State) (t : Fin 580) (ra : Fin 32) (len : BitVec 16), (len ≠ 0#16 ∧ (s.thread t.val).exl = false ∧ 0 < BitVec.toNat ((s.thread
      t.val).reg ra.val) ∧ (s.thread t.val).loops.length < 2) ∧ s.CanIssue (t.val) (Instr.loop t ra len)) ∧
(∃ (s : State) (t : Fin 580) (ra : Fin 32) (len : BitVec 16), (len ≠ 0#16 ∧ (s.thread t.val).exl = false ∧ BitVec.toNat ((s.thread
      t.val).reg ra.val) = 0 ∧ (s.thread t.val).loops.length < 2 ∧ (s.thread t.val).pc + 4 * (len.toNat + 1) ≤ codeTop t.val) ∧ s.CanIssue
      (t.val) (Instr.loop t ra len)) ∧
(∃ (s : State) (t : Fin 580) (ra : Fin 32) (len : BitVec 16), (len ≠ 0#16 ∧ (s.thread t.val).exl = false ∧ (s.thread t.val).loops.length =
      2 ∧ (s.thread t.val).sregs.tvec ≠ 0#32 ∧ (s.thread t.val).exl = false) ∧ s.CanIssue (t.val) (Instr.loop t ra len)) ∧
(∃ (s : State) (t : Fin 580) (count : BitVec 10) (len : BitVec 16), (len ≠ 0#16 ∧ (s.thread t.val).exl = false ∧ 0 < count.toNat ∧
      (s.thread t.val).loops.length < 2) ∧ s.CanIssue (t.val) (Instr.loopi t count len)) ∧
(∃ (s : State) (t : Fin 580) (count : BitVec 10) (len : BitVec 16), (len ≠ 0#16 ∧ (s.thread t.val).exl = false ∧ count.toNat = 0 ∧
      (s.thread t.val).loops.length < 2 ∧ (s.thread t.val).pc + 4 * (len.toNat + 1) ≤ codeTop t.val) ∧ s.CanIssue (t.val) (Instr.loopi t
      count len)) ∧
(∃ (s : State) (t : Fin 580), s.CanIssue (t.val) (Instr.lpclr t)) :=
  ⟨⟨s_alu 576, 576, 1, 0x0001#16, by decide +kernel, canIssue_of (by decide +kernel)⟩,
    ⟨s_alu 576, 576, 0, 0x0001#16, by decide +kernel, canIssue_of (by decide +kernel)⟩,
    ⟨code 3 (Instr.loop 3 0 (0x0001#16)) (s_loop 3 2), 3, 0, 0x0001#16, by decide +kernel, canIssue_of (by decide +kernel)⟩,
    ⟨s_alu 576, 576, 0x001#10, 0x0001#16, by decide +kernel, canIssue_of (by decide +kernel)⟩,
    ⟨s_alu 576, 576, 0x000#10, 0x0001#16, by decide +kernel, canIssue_of (by decide +kernel)⟩,
    ⟨s_alu 576, 576, canIssue_of (by decide +kernel)⟩⟩

/-- States and operands that meet the hypotheses of `Obligations.MultiplyGivesTheProduct`, clause by clause. -/
theorem witness_MultiplyGivesTheProduct : ∃ (s : State) (t : Fin 580) (rd : Fin 32) (ra : Fin 32) (rb : Fin 32), s.CanIssue (t.val)
    (Instr.mulh t rd ra rb) :=
⟨s_alu 576, 576, 0, 0, 0, canIssue_of (by decide +kernel)⟩

end Sys2Proof.Tests
end

section
/-! SUPPORT. The multiplies (R223): bits of the status word that the flags leave, MUL's result, and what an instruction of two
operands that sets no flag leaves. -/

namespace Sys2Proof.Proofs

open Sys2Proof.Machine Sys2Proof.Laws

/-! ### Bits of the status word -/

theorem getLsbD_putBit_of_ne (w : BitVec 32) {i j : Nat} (b : Bool) (h : j ≠ i) : (putBit w i b).getLsbD j = w.getLsbD j := by
  have hb : (1#32 <<< i).getLsbD j = false := by
    rw [← BitVec.twoPow_eq, BitVec.getLsbD_twoPow, decide_eq_false h.symm, Bool.and_false]
  unfold putBit
  split
  · rw [BitVec.getLsbD_or, hb, Bool.or_false]
  · simpa [BitVec.getLsbD_and, BitVec.getLsbD_not, hb] using BitVec.lt_of_getLsbD

/-- The flags Z, N, C and OV are bits 0 to 3: the rest of the status word, EXL among it, stays. R204, R221. -/
theorem getLsbD_withFlags (w : BitVec 32) (z n : Bool) (c v : Option Bool) {j : Nat} (h : 4 ≤ j) :
    (withFlags w z n c v).getLsbD j = w.getLsbD j := by
  unfold withFlags
  cases c <;> cases v <;> simp (disch := omega) only [getLsbD_putBit_of_ne]

/-! ### The result of MUL -/

theorem setOV_setZN (w v : BitVec 32) (ov : Bool) : setOV (setZN w v) ov = withFlags w (v == 0#32) v.msb none (some ov) := rfl

theorem outOf32_eq (x : Int) : outOf32 x = decide (x < -2 ^ 31 ∨ 2 ^ 31 ≤ x) := (Bool.decide_or ..).symm

/-- The model multiplies words; the low word of the signed product is the same. R223. -/
theorem mulRes_eq (w a b : BitVec 32) :
    let p := a.toInt * b.toInt
    let m := BitVec.ofInt 32 p
    mulRes w a b = (m, withFlags w (m == 0#32) m.msb none (some (decide (p < -2 ^ 31 ∨ 2 ^ 31 ≤ p)))) := by
  intro p m
  have hm : a * b = m := by simp only [m, p, BitVec.ofInt_mul, BitVec.ofInt_toInt]
  rw [mulRes, setOV_setZN, outOf32_eq, hm]

theorem mulRes_exl (w a b : BitVec 32) : (mulRes w a b).2.getLsbD 23 = w.getLsbD 23 := by
  rw [mulRes_eq]
  exact getLsbD_withFlags _ _ _ _ _ (by decide)

/-! ### The instructions -/

/-- A two-operand instruction that sets no flag, of a thread that can issue it. R235. -/
theorem pure2_wrote (s : State) (t w : Nat) (i : Instr) (rd ra rb : Fin 32) (f : Word → Word → Word) (h : s.CanIssue t i)
    (hw : wordOf i = some w) :
    Leads (s.pure2 t w rd ra rb f) fun u => s.Wrote u t rd.val (f (s.reg t ra.val) (s.reg t rb.val)) (s.thread t).tsw := by
  obtain ⟨v, hv, he⟩ := issue_run s t w i _ h hw
  refine ⟨_, he, Wrote.of hv ?_⟩
  simp only [State.reg, ← hv.thread t]
  exact writeReg_wrote ..

/-- Settles O10: MUL is a three-register instruction with an S bit whose result is `mulRes_eq`, MULH and MULHU write their register
alone. -/
theorem multiplyGivesTheProduct : Obligations.MultiplyGivesTheProduct := by
  unfold Obligations.MultiplyGivesTheProduct
  intro s t rd ra rb f
  refine ⟨fun h => ?mul, fun h => ?mulh, fun h => ?mulhu⟩
  case mul =>
    have k := alu_wrote s t _ _ rd ra rb f mulRes h rfl mulRes_exl
    rw [mulRes_eq] at k
    exact k
  case mulh => exact pure2_wrote s t _ _ rd ra rb mulhRes h rfl
  case mulhu => exact pure2_wrote s t _ _ rd ra rb mulhuRes h rfl

end Sys2Proof.Proofs
end

section
/-! SUPPORT. SYSCALL (R250): no operation of an issue, an exception or a thread's reset writes a Syscalls counter; what entering the
handler leaves (R216 to R219), and what a thread's reset leaves of the thread (R199, R358). -/

namespace Sys2Proof.Proofs

open Sys2Proof.Machine Sys2Proof.Laws

/-! ### The two ends of an exception -/

theorem isPacketThread_of_lt {t : Nat} (h : t < 512) : isPacketThread t = true := decide_eq_true h

/-- A thread at the first instruction of its handler. R216 to R219. -/
def inHandler (x : Thread) (code cause : Nat) (eaddr : BitVec 32) (epc : Nat) : Thread :=
  { x.setSregs { x.sregs with epc := BitVec.ofNat 32 epc, ecode := ecodeWord code cause, eaddr := eaddr } with
    retired := 0, tsw := x.tsw ||| 0x00800000#32, pc := x.sregs.tvec.toNat, loops := uncaptured x.loops, st := .ready }

theorem raise_of_canTrap {s : State} {t : Nat} (h : s.CanTrap t) (code cause : Nat) (eaddr : BitVec 32) (epc : Nat) :
    s.raise t code cause eaddr epc =
      (((s.squash t false).traceFlow t epc (s.thread t).sregs.tvec.toNat flException).setThread t
        (inHandler (s.thread t) code cause eaddr epc)).bumpCore t K.ctrExcVectoredExceptions :=
  if_pos (by simpa [State.CanTrap] using h)

/-- The exception is counted and recorded; then the thread is reset. R217. -/
theorem raise_of_not_canTrap {s : State} {t : Nat} (h : ¬ s.CanTrap t) (code cause : Nat) (eaddr : BitVec 32) (epc : Nat) :
    s.raise t code cause eaddr epc =
      ((s.bumpCore t K.ctrExcUnhandledExceptions).almanac (originOf t) 0x0901 4
        [(2, t), (1, code), (4, epc), (1, (s.thread t).kindNo)]).resetThread t code :=
  if_neg (by simpa [State.CanTrap] using h)

/-! ### Entries beside the Syscalls counters -/

/-- The Syscalls counter (6180:03) of one of the 64 packet cores. -/
def IsSyscalls (k : Nat) : Prop := ∃ c < 64, k = K.ctrExcSyscalls c

theorem isSyscalls_of_packet {t : Nat} (h : t < 512) : IsSyscalls (K.ctrExcSyscalls (t / 8)) := ⟨t / 8, by omega, rfl⟩

/-- An entry of another subindex, or of a record outside 6180 to 61BF, is no Syscalls counter. -/
theorem IsSyscalls.ne_dictKey {k i j : Nat} (hk : IsSyscalls k) (h : j % 256 ≠ 3 ∨ i < 0x6180 ∧ j < 256 ∨ 0x61C0 ≤ i) :
    k ≠ dictKey i j := by
  obtain ⟨c, hc, rfl⟩ := hk
  simp only [K.ctrExcSyscalls, dictKey]
  omega

section Entry

variable {k : Nat}

theorem rd_bump_of_ne (s : State) {k' : Nat} (n : Nat) (h : k ≠ k') : (s.bump k' n).rd k = s.rd k := by
  rw [rd_bump, if_neg h]

theorem rd_bumpCore_of_ne (s : State) (t : Nat) {f : Nat → Nat} (h : k ≠ f (t / 8)) : (s.bumpCore t f).rd k = s.rd k := by
  unfold State.bumpCore
  split
  · exact rd_bump_of_ne s 1 h
  · rfl

theorem rd_ite {c : Prop} [Decidable c] {a b : State} {n : Nat} (ha : a.rd k = n) (hb : b.rd k = n) :
    (if c then a else b).rd k = n := by
  split
  · exact ha
  · exact hb

theorem rd_foldl {α : Type} {f : State → α → State} (h : ∀ s a, (f s a).rd k = s.rd k) (l : List α) (s : State) :
    (l.foldl f s).rd k = s.rd k := by
  induction l generalizing s with
  | nil => rfl
  | cons a l ih => exact (ih _).trans (h s a)

/-! Operations that write no entry. -/

theorem rd_traceRetire (s : State) (t : Nat) : (s.traceRetire t).rd k = s.rd k := rd_ite rfl rfl

theorem rd_cancelSent (s : State) (t : Nat) : (s.cancelSent t).rd k = s.rd k := rfl

theorem rd_freeDivider (s : State) (c : Nat) : (s.freeDivider c).rd k = s.rd k := rfl

theorem rd_reportPacket (s : State) (t code : Nat) (j : Option Nat) : (s.reportPacket t code j).rd k = s.rd k := by
  cases j <;> rfl

theorem rd_leaveQueue (s : State) (q : Rq) (w : WaitOn) : (s.leaveQueue q w).rd k = s.rd k := by
  cases w <;> rfl

theorem rd_storeClean (s : State) (sp : Space) (off : Nat) (bs : List Byte) : (s.storeClean sp off bs).rd k = s.rd k := rfl

theorem rd_storeRam (s : State) (t a : Nat) (bs : List Byte) : (s.storeRam t a bs).rd k = s.rd k :=
  rd_ite (rd_foldl (fun s _ => rd_storeClean s ..) _ s) (rd_storeClean s ..)

theorem rd_dstWrite (s : State) (o : HOp) (a : Nat) (bs : List Byte) : (s.dstWrite o a bs).rd k = s.rd k :=
  rd_ite (rd_storeRam s ..) (rd_ite rfl (rd_storeClean s ..))

theorem rd_stopOp (s : State) (o : HOp) : (s.stopOp o).rd k = s.rd k := rd_ite (rd_dstWrite s ..) rfl

theorem rd_idleThread (s : State) (t : Nat) : (s.idleThread t).rd k = s.rd k := rfl

/-! Operations that write entries, but no Syscalls counter. -/

variable (hk : IsSyscalls k)
include hk

theorem rd_almanac (s : State) (origin code severity : Nat) (detail : List (Nat × Nat)) :
    (s.almanac origin code severity detail).rd k = s.rd k := by
  have ne (j : Nat) : k ≠ K.ctrAlmSourceDrops j := hk.ne_dictKey (by omega)
  have hs : (s.bump (K.ctrAlmSourceDrops origin)).rd k = s.rd k := rd_bump_of_ne s 1 (ne origin)
  exact rd_ite rfl (rd_ite (rd_ite hs ((rd_bump_of_ne _ 1 (ne 24)).trans hs)) hs)

theorem rd_almanacFirst (s : State) (origin code severity sub : Nat) (detail : List (Nat × Nat)) :
    (s.almanacFirst origin code severity sub detail).rd k = s.rd k :=
  rd_ite (rd_almanac hk ..) rfl

theorem rd_traceMsg (s : State) (src kind source : Nat) (body : List Byte) : (s.traceMsg src kind source body).rd k = s.rd k := by
  have ne : k ≠ lossKey src := by
    unfold lossKey
    repeat' split
    all_goals exact hk.ne_dictKey (by decide)
  exact rd_ite rfl (rd_ite rfl ((rd_almanacFirst hk ..).trans (rd_bump_of_ne _ 1 ne)))

theorem rd_traceInstr (s : State) (t kind : Nat) (body : Nat → List Byte) : (s.traceInstr t kind body).rd k = s.rd k :=
  rd_ite (rd_traceMsg hk ..) rfl

theorem rd_retire (s : State) (t next : Nat) : (s.retire t next).rd k = s.rd k := by
  have ne : k ≠ K.ctrCoreLoopUncapturedEdges (t / 8) := hk.ne_dictKey (by omega)
  have hr : ((s.setThread t { ((s.thread t).retire next).1 with st := .ready }).traceRetire t).rd k = s.rd k := rd_traceRetire _ t
  have hb := rd_ite (c := ((s.thread t).retire next).2) ((rd_bumpCore_of_ne _ t ne).trans hr) hr
  exact rd_ite ((rd_traceInstr hk ..).trans hb) hb

/-! The crossing from DX: a wake-up can let a waiting thread go on. R18, R189, R292. -/

theorem rd_pend (s : State) (t : Nat) (second : Bool) (bits : BitVec 7) : (s.pend t second bits).rd k = s.rd k := by
  simp only [State.pend]
  split
  · split
    · exact rd_ite (rd_retire hk ..) rfl
    · rfl
  · split
    · exact rd_ite rfl rfl
    · rfl

theorem rd_wakeUps (s : State) (c : Nat) (l : List (Nat × FromDx)) : (s.wakeUps c l).rd k = s.rd k := by
  fun_induction State.wakeUps s c l with
  | case1 s t second r ih => exact ih.trans (rd_pend hk ..)
  | case2 => rfl

theorem rd_takeFromDx (s : State) (t : Nat) (m : FromDx) : (s.takeFromDx t m).rd k = s.rd k := rd_wakeUps hk ..

theorem rd_rdvReply (s : State) (q : Rq) (status : Nat) (data : Word) (words : List Word) (buf : Nat) :
    (s.rdvReply q status data words buf).rd k = s.rd k := rd_wakeUps hk ..

/-! What an item leaves behind is cancelled: requests, locks, helper operations, a divide. R165, R193, R259, R280. -/

theorem rd_cancelRp (s : State) (t : Nat) (second : Bool) (m : Nat) : (s.cancelRp t second m).rd k = s.rd k := by
  unfold State.cancelRp
  cases s.rp t second m with
  | out w n a => exact rd_leaveQueue ..
  | flying r words buf => exact rd_takeFromDx hk ..
  | _ => rfl

theorem rd_cancelSet (s : State) (t : Nat) (second : Bool) : (s.cancelSet t second).rd k = s.rd k :=
  rd_foldl (fun s m => rd_cancelRp hk s t second m) _ s

theorem rd_grantLock (s : State) (l : Nat) (q : Rq) : (s.grantLock l q).rd k = s.rd k := by
  have hg (s : State) : (s.bump K.ctrRdvLockGrants).rd k = s.rd k := rd_bump_of_ne s 1 (hk.ne_dictKey (by decide))
  have ha (s : State) : (s.bump K.ctrRdvAbandonedGrants).rd k = s.rd k := rd_bump_of_ne s 1 (hk.ne_dictKey (by decide))
  exact rd_ite ((rd_rdvReply hk ..).trans ((ha _).trans (hg _))) ((rd_rdvReply hk ..).trans (hg _))

theorem rd_freeLock (s : State) (l : Nat) : (s.freeLock l).rd k = s.rd k := by
  simp only [State.freeLock]
  split
  · rfl
  · exact rd_grantLock hk ..

theorem rd_abandonLock (s : State) (l who : Nat) : (s.abandonLock l who).rd k = s.rd k := by
  have ne : k ≠ K.ctrRdvAbandonments := hk.ne_dictKey (by decide)
  exact (rd_freeLock hk ..).trans ((rd_almanac hk ..).trans (rd_bump_of_ne _ 1 ne))

theorem rd_abandonAll (s : State) (t : Nat) : (s.abandonAll t).rd k = s.rd k := rd_foldl (fun s l => rd_abandonLock hk s l t) _ s

theorem rd_cancelOps (s : State) (t bank : Nat) : (s.cancelOps t bank).rd k = s.rd k := by
  have ne : k ≠ K.ctrHlpCancelled (clusterOf t) := hk.ne_dictKey (by omega)
  have hs (l : List HOp) : (l.foldl State.stopOp s).rd k = s.rd k := rd_foldl (fun s o => rd_stopOp s o) l s
  exact rd_ite (hs _) ((rd_bump_of_ne _ _ ne).trans (hs _))

theorem rd_abandonDivide (s : State) (t : Nat) : (s.abandonDivide t).rd k = s.rd k := by
  have ne : k ≠ K.ctrCoreDivideAbandoned (t / 8) := hk.ne_dictKey (by omega)
  unfold State.abandonDivide
  split
  · exact rd_ite ((rd_bumpCore_of_ne _ t ne).trans (rd_freeDivider ..)) rfl
  · rfl

theorem rd_squash (s : State) (t : Nat) (own : Bool) : (s.squash t own).rd k = s.rd k := by
  unfold State.squash
  split
  · next h =>
    have ht : t < 512 := of_decide_eq_true h
    have hi : k ≠ K.ctrCoreIssueCycles (t / 8) := hk.ne_dictKey (by omega)
    have hq : k ≠ K.ctrCoreSquashedIssues (t / 8) := hk.ne_dictKey (by omega)
    exact (rd_bump_of_ne _ _ hq).trans (rd_bump_of_ne _ _ hi)
  · rfl

theorem rd_timedFault (s : State) (t : Nat) (i : Item) : (s.timedFault t i).rd k = s.rd k := by
  have ne : k ≠ K.ctrDispTimedFault := hk.ne_dictKey (by decide)
  exact rd_ite ((rd_almanac hk ..).trans (rd_bump_of_ne s 1 ne)) rfl

/-! The reset of a packet thread, an exception, an issue. -/

/-- But for a thread that is ENDING, whose window is copied first. R162, R199. -/
theorem rd_resetPacketThread (s : State) (t code : Nat) (h : (s.thread t).st ≠ .ending) :
    (s.resetPacketThread t code).rd k = s.rd k := by
  have ne : k ≠ K.ctrCoreThreadResets (t / 8) := hk.ne_dictKey (by omega)
  unfold State.resetPacketThread
  extract_lets x s₀ s₁ s₂ s₃ s₄ s₅ s₆
  have h₀ : s₀ = s := by
    unfold s₀
    split
    · next hst _ => exact absurd hst h
    · rfl
  have hd : ((s₀.when (decide (x.st = .ready)) (·.squash t false)).abandonDivide t).rd k = s₀.rd k :=
    (rd_abandonDivide hk ..).trans (rd_ite (rd_squash hk ..) rfl)
  have h₁ : s₁.rd k = s₀.rd k := rd_ite ((rd_traceInstr hk ..).trans hd) hd
  have h₂ : s₂.rd k = s₁.rd k :=
    (rd_cancelSet hk ..).trans ((rd_cancelSet hk ..).trans ((rd_takeFromDx hk ..).trans (rd_cancelSent ..)))
  have h₃ : s₃.rd k = s₂.rd k := rd_ite rfl (rd_abandonAll hk ..)
  have h₄ : s₄.rd k = s₃.rd k := (rd_bump_of_ne _ 1 ne).trans ((rd_cancelOps hk ..).trans (rd_cancelOps hk ..))
  have h₅ : s₅.rd k = s₄.rd k := (reportFault_rd ..).trans ((setSubs_rd ..).trans (setSubs_rd ..))
  have h₆ : s₆.rd k = s₅.rd k := by
    unfold s₆
    split
    · exact rd_timedFault hk ..
    · rfl
  refine (rd_idleThread ..).trans ((rd_reportPacket ..).trans ?_)
  rw [setThread_rd, h₆, h₅, h₄, h₃, h₂, h₁, h₀]

theorem rd_raise (s : State) (t code cause : Nat) (eaddr : BitVec 32) (epc : Nat) (ht : t < 512) (h : (s.thread t).st ≠ .ending) :
    (s.raise t code cause eaddr epc).rd k = s.rd k := by
  have hv : k ≠ K.ctrExcVectoredExceptions (t / 8) := hk.ne_dictKey (by omega)
  have hu : k ≠ K.ctrExcUnhandledExceptions (t / 8) := hk.ne_dictKey (by omega)
  by_cases htrap : s.CanTrap t
  · rw [raise_of_canTrap htrap]
    exact (rd_bumpCore_of_ne _ t hv).trans ((rd_traceInstr hk ..).trans (rd_squash hk ..))
  · rw [raise_of_not_canTrap htrap, State.resetThread, if_pos (isPacketThread_of_lt ht)]
    have hst := ((bumpCore_beside s t K.ctrExcUnhandledExceptions).trans (almanac_beside _ (originOf t) 0x0901 4
      [(2, t), (1, code), (4, epc), (1, (s.thread t).kindNo)])).thread t
    refine (rd_resetPacketThread hk _ t code ?_).trans ((rd_almanac hk ..).trans (rd_bumpCore_of_ne s t hu))
    rwa [hst]

theorem rd_countIssue (s : State) {t : Nat} (ht : t < 512) : (s.countIssue t).rd k = s.rd k := by
  have hg : k ≠ K.ctrCoreIdleCycles (t / 8) := hk.ne_dictKey (by omega)
  have hi : k ≠ K.ctrCoreIssueCycles (t / 8) := hk.ne_dictKey (by omega)
  simp only [State.countIssue]
  rw [if_pos ht]
  exact (rd_bump_of_ne _ _ hi).trans (rd_bump_of_ne _ _ hg)

theorem rd_countFixed (s : State) {t : Nat} (ht : t < 512) (memory : Nat) (l : List Nat) :
    (s.countFixed t memory l).rd k = s.rd k := by
  have ne : k ≠ K.ctrCoreEccCorrected (t / 8) := hk.ne_dictKey (by omega)
  cases l with
  | nil => rfl
  | cons w l =>
    simp only [State.countFixed]
    rw [if_pos (isPacketThread_of_lt ht)]
    exact (rd_almanacFirst hk ..).trans (rd_bump_of_ne s _ ne)

theorem rd_correct (s : State) {t : Nat} (ht : t < 512) (memory key n : Nat) (at_ : Nat → Nat) :
    (s.correct t memory key n at_).rd k = s.rd k := rd_countFixed hk _ ht ..

end Entry

/-! ### Issue -/

/-- The state in which an instruction of thread t acts once its word has been fetched: the issue is counted, and the correctable errors of
the fetch are corrected. R177, R181, R201. -/
def fetched (s : State) (t : Nat) : State :=
  match s.codeKey t with
  | some k => (s.countIssue t).correct t 4 k 4 fun k =>
    (k - memKey (if t < 512 then .code else .barrelCode) 0) % (if t < 512 then 262144 else 65536) / 4
  | none => s.countIssue t

theorem fetched_aside (s : State) (t : Nat) : Aside s (fetched s t) := by
  unfold fetched
  split
  · exact (countIssue_aside s t).trans (correct_aside ..)
  · exact countIssue_aside s t

theorem rd_fetched {k : Nat} (hk : IsSyscalls k) (s : State) {t : Nat} (ht : t < 512) : (fetched s t).rd k = s.rd k := by
  unfold fetched
  split
  · exact (rd_correct hk _ ht ..).trans (rd_countIssue hk s ht)
  · exact rd_countIssue hk s ht

/-- `issue_run` with the state named. -/
theorem issue_eq (s : State) (t w : Nat) (i : Instr) (body : State → State) (h : s.CanIssue t i) (hw : wordOf i = some w) :
    s.issue t w body = .next (body (fetched s t)) := by
  obtain ⟨hready, hgoes, htop, hsound, w', hw', hfetch, hmeant⟩ := h
  cases hw.symm.trans hw'
  simp only [State.issue, State.issueOr]
  rw [if_neg (by simp [hready, hgoes]), if_neg (by omega), hfetch, hmeant]
  simp only [ne_eq, not_true_eq_false, if_false, hsound]
  rfl

/-! ### Entering the handler -/

theorem squash_beside (s : State) (t : Nat) (own : Bool) : Beside s (s.squash t own) := by
  unfold State.squash
  split <;> exact ⟨rfl, rfl⟩

theorem sregs_setSregs (x : Thread) (r : RegSet) : (x.setSregs r).sregs = r := by
  unfold Thread.setSregs Thread.sregs
  cases x.second <;> rfl

theorem regs_setSregs (x : Thread) (r : RegSet) : (x.setSregs r).regs = x.regs := by
  unfold Thread.setSregs
  split <;> rfl

theorem sregs_inHandler (x : Thread) (code cause : Nat) (eaddr : BitVec 32) (epc : Nat) :
    (inHandler x code cause eaddr epc).sregs =
      { x.sregs with epc := BitVec.ofNat 32 epc, ecode := ecodeWord code cause, eaddr := eaddr } := sregs_setSregs ..

theorem canTrap_iff_of_aside {s v : State} {t : Nat} (k : Aside s v) : v.CanTrap t ↔ s.CanTrap t := by
  simp only [State.CanTrap, k.thread]

/-- What holds of an exception's entry on a state with the same threads and memory holds of its entry on s. -/
theorem trapped_of_aside {s v u : State} {t code cause : Nat} {eaddr : BitVec 32} {epc : Nat} (k : Aside s v)
    (h : v.Trapped u t code cause eaddr epc) : s.Trapped u t code cause eaddr epc := by
  obtain ⟨pc, epc, ecode, eaddr, tsw, regs, ready, others, mem⟩ := h
  simp only [k.thread] at pc tsw regs others
  exact ⟨pc, epc, ecode, eaddr, tsw, regs, ready, others, mem.trans k.mem⟩

/-- A vectored exception enters its handler. R216 to R219. -/
theorem raise_trapped (s : State) (t code cause : Nat) (eaddr : BitVec 32) (epc : Nat) (h : s.CanTrap t) :
    s.Trapped (s.raise t code cause eaddr epc) t code cause eaddr epc := by
  rw [raise_of_canTrap h]
  have hc : Counted t s ((s.squash t false).traceFlow t epc (s.thread t).sregs.tvec.toNat flException) :=
    ((squash_beside ..).counted t).trans (traceFlow_counted ..)
  generalize (s.squash t false).traceFlow t epc (s.thread t).sregs.tvec.toNat flException = v at hc ⊢
  have hb := bumpCore_beside (v.setThread t (inHandler (s.thread t) code cause eaddr epc)) t K.ctrExcVectoredExceptions
  have hown := (hb.thread t).trans (thread_setThread_self v t _)
  constructor
  case others =>
    intro w hw
    rw [hb.thread, thread_setThread, if_neg hw, hc.others w hw]
  case mem => exact hb.mem.trans hc.mem
  all_goals rw [hown]
  case epc => rw [sregs_inHandler]
  case ecode => rw [sregs_inHandler]; rfl
  case eaddr => rw [sregs_inHandler]
  case regs => exact regs_setSregs ..
  all_goals rfl

/-! ### A thread's reset -/

/-- A thread that is reset holds no work item and no loop. R199, R358. -/
theorem resetThread_cleared (s : State) (t code : Nat) :
    ((s.resetThread t code).thread t).item = none ∧ ((s.resetThread t code).thread t).loops = [] := by
  unfold State.resetThread
  split
  · simp only [State.resetPacketThread, State.idleThread, thread_setThread_self, and_self]
  · split
    · simp only [State.resetBarrelThread, State.startBarrel, thread_setThread_self, Thread.zero, and_self]
    · simp only [State.stopPilot, thread_setThread_self, Thread.zero, and_self]

/-! ### SYSCALL -/

/-- SYSCALL's exception as the state in which it acts shows it. R217, R250. -/
theorem execSyscall_eq (s : State) (t : Fin 580) (imm : BitVec 16) (h : s.CanIssue t (.syscall t imm)) :
    exec (.syscall t imm) s = .next (((fetched s t).bumpCore t K.ctrExcSyscalls).raise t excSyscall 0 (imm.setWidth 32)
      ((s.thread t).pc + 4)) := by
  have e := issue_eq s t _ _ (fun s => (s.bumpCore t.val K.ctrExcSyscalls).raise t.val excSyscall 0 (imm.setWidth 32)
    ((s.thread t.val).pc + 4)) h rfl
  rw [(fetched_aside s t).thread] at e
  exact e

/-- Settles O27: the counter is raised ahead of the exception and neither end of it writes the counter again (`rd_raise`); the handler is
entered (`raise_trapped`), or the thread is reset (`resetThread_cleared`). -/
theorem syscallRaisesItsException : Obligations.SyscallRaisesItsException := by
  unfold Obligations.SyscallRaisesItsException
  intro s t imm h
  have ⟨hready, _⟩ := h
  refine ⟨_, execSyscall_eq s t imm h, ?_⟩
  have hv : Aside s ((fetched s t).bumpCore t K.ctrExcSyscalls) := (fetched_aside s t).trans (bumpCore_beside ..).aside
  have hst : (((fetched s t).bumpCore t K.ctrExcSyscalls).thread t).st ≠ .ending := by
    rw [hv.thread, hready]
    decide
  refine ⟨fun ht => ?counted, fun htrap => ?trapped, fun htrap => ?reset⟩
  case counted =>
    have hk := isSyscalls_of_packet ht
    rw [rd_raise hk _ _ _ _ _ _ ht hst, State.bumpCore, if_pos (isPacketThread_of_lt ht), rd_bump, if_pos rfl, rd_fetched hk s ht]
  case trapped => exact trapped_of_aside hv (raise_trapped _ _ _ _ _ _ ((canTrap_iff_of_aside hv).mpr htrap))
  case reset =>
    rw [raise_of_not_canTrap fun hc => htrap ((canTrap_iff_of_aside hv).mp hc)]
    exact resetThread_cleared ..

end Sys2Proof.Proofs
end

section
/-! SUPPORT. The tamper actions (R434): a detector's floor as its field of the TamperFloor word, the two answers to a write of an
action, and what a write of a persistent entry leaves of the others. -/

namespace Sys2Proof.Proofs

open Sys2Proof.Machine Sys2Proof.Laws

/-- The field `2 d + 1 : 2 d` is the digit of weight `4 ^ d`. -/
theorem tamperFloor_eq (s : State) (d : Nat) : s.tamperFloor d = s.otpWord 232 / 4 ^ d % 4 := by
  have hwidth : 2 * d + 1 + 1 - 2 * d = 2 := by omega
  have hweight : 2 ^ (2 * d) = 4 ^ d := Nat.pow_mul 2 2 d
  rw [State.tamperFloor, bits, Nat.shiftRight_eq_div_pow, hwidth, hweight, Nat.pow_two]

theorem tamperAction_of_le_floor {s : State} {d v : Nat} (hv : v ≤ 2) (h : s.tamperFloor d ≤ v) :
    s.tamperAction d v = (s.wrP (K.binTamperAction d) v).aborted Abort.ok :=
  if_neg (by omega)

theorem tamperAction_of_lt_floor {s : State} {d v : Nat} (h : v < s.tamperFloor d) :
    s.tamperAction d v = s.aborted Abort.valueRange :=
  if_pos (.inr h)

/-- A write of a persistent entry changes that entry and StagedWrites alone. R458, R467. -/
theorem rd_wrP_of_ne_staged (s : State) (k v : Nat) {k1 : Nat} (h : k1 ≠ K.cmtStagedWrites) :
    (s.wrP k v).rd k1 = if k1 = k then v else s.rd k1 := by
  rw [State.wrP, rd_bump_of_ne _ _ h, rd_wr]

/-- StagedWrites (1020:06) is no entry of record 5000. -/
theorem binTamperAction_ne_staged (d : Nat) : K.binTamperAction d ≠ K.cmtStagedWrites := by
  simp only [K.binTamperAction, K.cmtStagedWrites, dictKey]
  omega

theorem binTamperAction_inj {d e : Nat} : K.binTamperAction e = K.binTamperAction d ↔ e = d := by
  simp only [K.binTamperAction, dictKey]
  omega

theorem rd_binTamperAction_wrP (s : State) (d v e : Nat) :
    (s.wrP (K.binTamperAction d) v).rd (K.binTamperAction e) = if e = d then v else s.rd (K.binTamperAction e) := by
  simp only [rd_wrP_of_ne_staged s _ v (binTamperAction_ne_staged e), binTamperAction_inj]

theorem valueRange_ne_ok : Abort.valueRange ≠ Abort.ok := by decide

theorem execTamperActionWrite_eq (s : State) (d : Fin 7) (v : BitVec 8) :
    exec (.tamperActionWrite d v) s = .next (s.tamperAction d v.toNat) := rfl

/-- Settles O50: with the floor read as `tamperFloor_eq`, a write not below it is `tamperAction_of_le_floor`, whose one persistent
write is seen by its own detector's action alone (`rd_binTamperAction_wrP`), and one below it only sets the abort code
(`tamperAction_of_lt_floor`). -/
theorem tamperActionsKeepTheirFloor : Obligations.TamperActionsKeepTheirFloor := by
  unfold Obligations.TamperActionsKeepTheirFloor
  intro s d v floor
  have hfloor : s.tamperFloor d = floor := tamperFloor_eq s d
  refine ⟨fun hv h => ⟨_, execTamperActionWrite_eq s d v, ?accepted⟩, fun h => ⟨_, execTamperActionWrite_eq s d v, ?refused⟩⟩
  case accepted =>
    rw [tamperAction_of_le_floor hv (hfloor ▸ h)]
    refine ⟨rfl, ?own, fun e he => ?others, rfl⟩
    case own => rw [aborted_rd, rd_binTamperAction_wrP, if_pos rfl]
    case others => rw [aborted_rd, rd_binTamperAction_wrP, if_neg fun h => he (Fin.ext h)]
  case refused =>
    rw [tamperAction_of_lt_floor (hfloor ▸ h)]
    exact ⟨valueRange_ne_ok, aborted_dict .., aborted_bin ..⟩

end Sys2Proof.Proofs
end
